-- ==== Sys2Proof/Word.lean ====
section
/-! DEFINITION. The words of the DULPAR-24: bytes, line addresses, cartridge ids, job ids, and the
unit of time. One tick is one bit time of the vault line, 8 µs (R174); every duration the manual
gives is a whole number of ticks. -/

namespace Sys2Proof

/-- One byte of a frame (R175). -/
abbrev Byte := BitVec 8

/-- An address byte: 0 to 23 stations, 24 to 31 consoles, 255 for ALL (R175). -/
abbrev Addr := BitVec 8

/-- The 40-bit number of a tag: a cartridge id, a badge id or a courier card number. -/
abbrev Cart := BitVec 40

/-- A courier job id, 0 to 65535. -/
abbrev Job := BitVec 16

/-- A duration or an age, in ticks of 8 µs (one bit time, R174). -/
abbrev Ticks := Nat

/-- A timer: `none` stopped, `some n` running with `n` ticks left. -/
abbrev Timer := Option Ticks

/-- Milliseconds in ticks: 1 ms is 125 bit times of 8 µs. -/
def ticksOfMs (n : Nat) : Ticks := 125 * n

/-- Seconds in ticks. -/
def ticksOfSec (n : Nat) : Ticks := 125000 * n

/-- Minutes in ticks. -/
def ticksOfMin (n : Nat) : Ticks := 7500000 * n

/-- The destination byte ALL (R175). -/
def allAddr : Addr := 255

end Sys2Proof
end

