-- ==== Sys2Proof/Syntax.lean ====
section
/-! DEFINITION. The commands of the DULPAR-24, one constructor per row of spec/opcode_table.json,
and the operands they carry. A command is an event: something the line, the field wiring, the
supply or one of the part's own timers does to the station. -/

namespace Sys2Proof

/-- The two roles a station takes at start (00_scope, R185). -/
inductive Role where
  | bay
  | hatch
  deriving DecidableEq, Repr

/-- The class a tag read gives (00_scope, "tag read"). -/
inductive TagClass where
  | cartridge
  | attendant
  | courier
  deriving DecidableEq, Repr

/-- The end switches of the motion channel (section 2.5): two at a damper, one at a drawer. -/
inductive EndSwitch where
  | openEnd
  | closedEnd
  | innerEnd
  deriving DecidableEq, Repr

/-- The two flaps of the courier hatch (Chapter 9). -/
inductive Flap where
  | inner
  | outer
  deriving DecidableEq, Repr

/-- The excursion status, in the order of its STATUS coding (R182). -/
inductive Excursion where
  | inBand
  | high
  | low
  | sensorFault
  deriving DecidableEq, Repr

/-- A transfer id: the sending station's address and its origin sequence (Chapter 8). -/
structure Tid where
  origin : Addr
  oseq : Byte
  deriving DecidableEq, Repr

/-- The fields of a STATUS body (R182). The fire state is its 4-bit code, since a code above 8 may
be received (R166). -/
structure StatusBody where
  fire : BitVec 4
  zoneA : Bool
  zoneB : Bool
  lock : Bool
  role : Role
  loopOpen : Bool
  loopShort : Bool
  battery : Bool
  stall : Bool
  sensorFault : Bool
  sealedFlag : Bool
  neighbourSeal : Bool
  filtered : Option (BitVec 16)
  occupancy : BitVec 4
  excursion : Excursion
  demand : Byte
  places : BitVec 16
  interval : Byte
  deriving DecidableEq, Repr

/-- The fields of a FIRE-REPORT body (R183). -/
structure FireReportBody where
  fire : BitVec 4
  zoneA : Bool
  zoneB : Bool
  lock : Bool
  manual : Bool
  deriving DecidableEq, Repr

/-- The fields of a CUSTODY-ALERT body (catalogue of section 11.5). -/
structure AlertBody where
  kind : Byte
  slot : Option Byte
  cart : Option Cart
  cart2 : Option Cart
  tid : Option Tid
  reason : Option Byte
  deriving DecidableEq, Repr

/-- The fields of a HANDOVER body (R158). -/
structure HandoverBody where
  job : Job
  direction : Byte
  handed : Byte
  remaining : Byte
  outcome : Byte
  reason : Option Byte
  deriving DecidableEq, Repr

/-- The kind and zone codes of one loop as the image gives them; `none` is unset. -/
structure RawLoop where
  kind : Option Nat
  zone : Option Nat
  deriving DecidableEq, Repr

/-- The fields of a configuration image as read (section 12.1), before their range check. A field
left unset is `none`. DESIGN CHOICE (log entry 9): an enumerated field is its place in the list of its
values, from 0, but for the hold complement, which is 1 when set and 0 when clear. -/
structure RawImage where
  role : Option Nat
  beacon : Option Nat
  neighbours : Option (List Nat)
  txOrder : Option Nat
  loop0 : RawLoop
  loop1 : RawLoop
  loop2 : RawLoop
  loop3 : RawLoop
  confWin : Option Nat
  evacLimit : Option Nat
  predischarge : Option Nat
  releasePulse : Option Nat
  soakTime : Option Nat
  batteryLow : Option Nat
  p0 : Option Nat
  p100 : Option Nat
  k : Option Int
  sp : Option Nat
  band : Option Nat
  db : Option Nat
  gain : Option Nat
  alphaDiv : Option Nat
  excDelay : Option Nat
  fallbackDemand : Option Nat
  capacity : Option Nat
  cap : Option Nat
  vfull : Option Nat
  valvePeriod : Option Nat
  minPulse : Option Nat
  damperTravel : Option Nat
  drawerTravel : Option Nat
  expoLimit : Option Nat
  acclim : Option Nat
  holdExtent : Option Nat
  holdEnd : Option Nat
  holdComplement : Option Nat
  holdMode : Option Nat
  transitLimit : Option Nat
  sessionLimit : Option Nat
  auditStepLimit : Option Nat
  posOut : Option Nat
  doorPulse : Option Nat
  deriving DecidableEq, Repr

/-- What LOADING reads over the serial memory port (R185): whether the memory delivered the whole
image, whether its check agrees, and the fields it holds. -/
structure ImageRead where
  answered : Bool
  checkOk : Bool
  image : RawImage
  deriving DecidableEq, Repr

/-- The retained collections that carry one check each (R186). -/
inductive Collection where
  | pullQueue
  | transferTable
  | custodyList
  | expectedList
  | occupancyList
  deriving DecidableEq, Repr

/-- What retained memory may have suffered while the supply was off: the marker no longer reads its
fixed value, a collection's contents no longer agree with its check, or a slot record's do not.
The 16-bit operand is how the stored check and the check of the contents differ. -/
inductive Decay where
  | marker
  | collection (which : Collection) (difference : BitVec 16)
  | slotRecord (slot : Nat) (difference : BitVec 16)
  deriving DecidableEq, Repr

/-- An event at a filtered switch input: its level changes, which its filter then follows, or the
filter's reading changes (R64, R98). -/
inductive SwitchEvent where
  | level (closed : Bool)
  | filtered (closed : Bool)
  deriving DecidableEq, Repr

/-- An event at the SEND or the DONE button: it goes down or up, or it has been held down for 50 ms, the
press that counts (R147). -/
inductive ButtonEvent where
  | level (down : Bool)
  | press
  deriving DecidableEq, Repr

/-- An event at the presence matrix: the readings it gives change, bit n for slot n and set for PRESENT,
or a full scan has read them (R91). -/
inductive MatrixEvent where
  | level (readings : BitVec 256)
  | scan (readings : BitVec 256)
  deriving DecidableEq, Repr

/-- An event at the sensor oscillator: the count that a capture of it gives changes, or a capture has
ended with a count (R2); none is an overflow. -/
inductive CaptureEvent where
  | level (count : Option (BitVec 16))
  | complete (count : Option (BitVec 16))
  deriving DecidableEq, Repr

/-- An event at a channel of the ADC: the code that a sample of it gives changes, or a sample has given a
code (R41). -/
inductive AdcEvent where
  | level (code : BitVec 10)
  | sample (code : BitVec 10)
  deriving DecidableEq, Repr

/-- The commands: one constructor per row of spec/opcode_table.json, in its order. A message
command stands for a message the receive filter has delivered, with its source; a console request
also carries its sender sequence. A timer command stands for that timer's expiry. -/
inductive Instr where
  | powerUp (decay : List Decay)
  | resetLineAssert
  | resetLineRelease
  | imageReadComplete (straps : BitVec 5) (read : ImageRead)
  | selftestComplete (memoryOk : Bool)
  | listenEnd
  | restart (src : Addr) (seq : Byte)
  | restartTimerExpiry
  | restartStart
  | measurementSlot
  | captureComplete (event : CaptureEvent)
  | excursionDelayExpiry
  | adcScan
  | loopSample (loop : Fin 4) (event : AdcEvent)
  | temperatureCode (event : AdcEvent)
  | batteryCode (event : AdcEvent)
  | valvePeriodExpiry
  | onTimeExpiry
  | neighbourSealExpiry
  | deadTimeExpiry
  | travelExpiry
  | endSwitchClose (sw : EndSwitch)
  | endSwitchOpen (sw : EndSwitch)
  | holdSwitchChange (event : SwitchEvent)
  | evacuationExpiry
  | countdownExpiry
  | releasePulseExpiry
  | soakExpiry
  | restore (src : Addr) (seq : Byte)
  | attendantRead (cls : TagClass) (number : Cart)
  | doorUnlockExpiry
  | occupancyClear (src : Addr) (seq : Byte)
  | presenceScan (event : MatrixEvent)
  | minuteTimerExpiry
  | keySwitchChange (event : SwitchEvent)
  | holdSet (src : Addr) (seq : Byte) (extent endCode complement mode : Byte)
  | inspectClear (src : Addr) (seq : Byte) (slot : Option Nat)
  | querySlot (src : Addr) (seq : Byte) (slot : Nat)
  | queryCartridge (src : Addr) (seq : Byte) (cart : Cart)
  | queryTransfer (src : Addr) (seq : Byte) (tid : Tid)
  | checkout (src : Addr) (seq : Byte) (toAll : Bool) (cart : Cart) (job : Job) (hatch : Addr)
  | cancel (src : Addr) (seq : Byte) (cart : Cart)
  | checkStationScan (cls : TagClass) (number : Cart)
  | audit (src : Addr) (seq : Byte) (first last : Nat)
  | auditStepExpiry
  | offer (src : Addr) (tid : Tid) (cart : Cart) (job : Job) (direction : Byte)
  | accept (src : Addr) (tid : Tid) (slot : Option Byte)
  | refuse (src : Addr) (tid : Tid) (reason : Byte)
  | arrive (src : Addr) (tid : Tid)
  | close (src : Addr) (tid : Tid) (cart : Cart) (job : Option Job)
  | withdraw (src : Addr) (tid : Tid)
  | claim (src : Addr) (cart : Cart)
  | replyTimerExpiry (tid : Tid)
  | transitExpiry (tid : Tid)
  | claimTimerExpiry (cart : Cart)
  | checkin (src : Addr) (seq : Byte) (job : Job) (cart : Cart) (dest : Addr)
  | innerRead (cls : TagClass) (number : Cart)
  | courierRead (number : Cart)
  | outerCartridgeRead (cart : Cart)
  | sendPress (event : ButtonEvent := .press)
  | donePress (event : ButtonEvent := .press)
  | sessionTimerExpiry
  | encoderTransition (phaseA phaseB : Bool)
  | flapChange (flap : Flap) (opened : Bool)
  | status (src : Addr) (body : StatusBody)
  | fireReport (src : Addr) (body : FireReportBody)
  | discharge (src : Addr) (soakMinutes : Byte)
  | custodyAlert (src : Addr) (body : AlertBody)
  | handover (src : Addr) (body : HandoverBody)
  | peerSilent (addr : Addr)
  | peerLost (addr : Addr)
  | frameReceive (bytes : List Byte)
  | beaconExpiry
  | lineFaultExpiry
  | lineIdle
  | accessDelayExpiry
  | characterDuringWait
  | transmitSuccess
  | readbackFailure
  | powerLoss
  deriving DecidableEq, Repr

end Sys2Proof
end

