-- ==== Sys2Proof/Decode.lean ====
section
/-! DEFINITION. The decoding of table words. spec/opcode_table.json gives no row any bits: a command
of this block is an event, and no word spells one (log entry 1). The frames of the vault line, which
do have bits, are decoded in Sys2Proof/Machine/Frame.lean. -/

namespace Sys2Proof

/-- The command that a word of `nbits` bits spells by the table: none, for every word. -/
def decodeTableWord (_nbits _w : Nat) : Option Instr := none

end Sys2Proof
end

