-- ==== Sys2Proof/Config.lean ====
section
/-! DEFINITION. The configuration record that a start installs from the image (section 12.1, R185),
and the values the manual leaves open: constants without a body, which nothing can evaluate. -/

namespace Sys2Proof

/-- The kind of a detector loop, in the order of its image coding (R42). -/
inductive LoopKind where
  | unused
  | smoke
  | heat
  | manual
  deriving DecidableEq, Repr

/-- The zone of a loop (R42). -/
inductive Zone where
  | a
  | b
  deriving DecidableEq, Repr

/-- TX_ORDER (R180). -/
inductive TxOrder where
  | custodyFirst
  | routineFirst
  deriving DecidableEq, Repr

/-- The end of the hold setting (R97). -/
inductive HoldEnd where
  | low
  | high
  deriving DecidableEq, Repr

/-- The hold protection mode (R98). -/
inductive HoldMode where
  | opened
  | keyed
  | fixed
  deriving DecidableEq, Repr

/-- The hold setting: extent 0 to 8, end, complement (R97). -/
structure HoldSetting where
  extent : Nat
  holdEnd : HoldEnd
  complement : Bool
  deriving DecidableEq, Repr

/-- One loop of the configuration record. -/
structure LoopConfig where
  kind : LoopKind
  zone : Zone
  deriving DecidableEq, Repr

/-- The configuration record (section 12.1), every field in its range. Times are in the unit the
manual's table gives: seconds, minutes for SOAK_TIME, EXPO_LIMIT and ACCLIM, ms for MINPULSE. -/
structure ConfigRecord where
  role : Role
  beacon : Nat
  neighbours : List Addr
  txOrder : TxOrder
  loop0 : LoopConfig
  loop1 : LoopConfig
  loop2 : LoopConfig
  loop3 : LoopConfig
  confWin : Nat
  evacLimit : Nat
  predischarge : Nat
  releasePulse : Nat
  soakTime : Nat
  batteryLow : Nat
  p0 : Nat
  p100 : Nat
  k : Int
  sp : Nat
  band : Nat
  db : Nat
  gain : Nat
  alphaDiv : Nat
  excDelay : Nat
  fallbackDemand : Nat
  capacity : Nat
  cap : Nat
  vfull : Nat
  valvePeriod : Nat
  minPulse : Nat
  damperTravel : Nat
  drawerTravel : Nat
  expoLimit : Nat
  acclim : Nat
  hold : HoldSetting
  holdMode : HoldMode
  transitLimit : Nat
  sessionLimit : Nat
  auditStepLimit : Nat
  posOut : Nat
  doorPulse : Nat
  deriving DecidableEq, Repr

/-- FREE VALUE (log entry 3). The job of a cartridge taken in at a CLOSE that ends a claim and
carries no job id: R142 files it "under the job the CLOSE carries" and states none for this case.
Safe: nothing can prove a value of it. -/
opaque Config.jobNotCarried : Tid → Cart → Job

/-- FREE VALUE (log entry 4). Whether a part of a second left on a transit timer counts as a whole
one in the "remaining seconds" of a QUERY image: R145 states no rounding. Safe. -/
opaque Config.partSecondCounts : Ticks → Bool

/-- The record of a part that has installed none yet (log entry 5, DESIGN CHOICE): nothing reads it
before IMAGE_READ_COMPLETE installs one, but for the role that R39 consults at a start. -/
def ConfigRecord.none : ConfigRecord where
  role := .bay
  beacon := 2
  neighbours := []
  txOrder := .custodyFirst
  loop0 := ⟨.unused, .a⟩
  loop1 := ⟨.unused, .a⟩
  loop2 := ⟨.unused, .a⟩
  loop3 := ⟨.unused, .a⟩
  confWin := 60
  evacLimit := 120
  predischarge := 30
  releasePulse := 3
  soakTime := 20
  batteryLow := 0
  p0 := 8000
  p100 := 9000
  k := 0
  sp := 200
  band := 10
  db := 0
  gain := 1
  alphaDiv := 1
  excDelay := 0
  fallbackDemand := 0
  capacity := 1
  cap := 1
  vfull := 1
  valvePeriod := 4
  minPulse := 100
  damperTravel := 5
  drawerTravel := 5
  expoLimit := 1
  acclim := 0
  hold := ⟨0, .low, false⟩
  holdMode := .opened
  transitLimit := 300
  sessionLimit := 600
  auditStepLimit := 600
  posOut := 256
  doorPulse := 5

end Sys2Proof
end

