-- ==== Sys2Proof/Machine/State.lean ====
section
/-! DEFINITION. The state of a DULPAR-24: one structure per block of the manual, as plain data, the
queue of waiting commands, and the state after reset. -/

namespace Sys2Proof

/-- The start states (Chapter 12). -/
inductive StartState where
  | loading
  | selftest
  | listen
  | joined
  | fault
  | clash
  deriving DecidableEq, Repr

/-- Which effects a start has: a power-up's, or the reset line's (which RESTART shares, R189). -/
inductive StartKind where
  | powerUp
  | resetLine
  deriving DecidableEq, Repr

/-- An accepted RESTART that waits for its DONE reply to leave (R189): the reply's number among the
messages made, and the 2 s timer. -/
structure RestartWait where
  made : Nat
  timer : Timer
  deriving DecidableEq, Repr

/-- The configuration loader (Chapter 12) with the supply and the reset line as the station finds
them. `joinedFor` is the phase of the slow blink of line 0 (R188). -/
structure Loader where
  powered : Bool
  resetAsserted : Bool
  state : StartState
  faultCode : Nat
  own : Addr
  cfg : ConfigRecord
  startKind : StartKind
  listenTimer : Timer
  restartWait : Option RestartWait
  joinedFor : Ticks
  deriving DecidableEq, Repr

/-- The retention marker (R186): whether it reads its fixed value, and the role kept with it. -/
structure Retention where
  markerGood : Bool
  role : Option Role
  deriving DecidableEq, Repr

/-- The field inputs whose level the rules consult: end switches (R32, R39), flaps (R161), encoder
phases (R159), the SEND and DONE buttons (R147), the hold switch and the key switch before their filters (R64, R98), the presence matrix
between its scans (R91), the ADC's channels between their samples (R41), the sensor oscillator as the
count a capture of it gives, none an overflow (R2). `true` is closed or ON for a switch, open for a flap,
high for a phase, down for a button; bit n of
the matrix is slot n's, set for PRESENT. -/
structure Pins where
  openEnd : Bool
  closedEnd : Bool
  innerEnd : Bool
  innerFlapOpen : Bool
  outerFlapOpen : Bool
  phaseA : Bool
  phaseB : Bool
  sendDown : Bool
  doneDown : Bool
  holdInput : Bool
  keyInput : Bool
  matrix : BitVec 256
  adcLoop0 : BitVec 10
  adcLoop1 : BitVec 10
  adcLoop2 : BitVec 10
  adcLoop3 : BitVec 10
  adcTemp : BitVec 10
  adcBattery : BitVec 10
  sensor : Option (BitVec 16)
  deriving DecidableEq, Repr

/-- The count P of the moisture unit: none since the start, an overflow, or a count (R2). -/
inductive Capture where
  | absent
  | overflow
  | count (p : BitVec 16)
  deriving DecidableEq, Repr

/-- The pending side of the excursion delay timer (R13). -/
inductive Side where
  | above
  | below
  deriving DecidableEq, Repr

/-- The moisture unit (Chapter 1). -/
structure Moisture where
  capturing : Bool
  latest : Capture
  temp : Int
  raw : Option Nat
  filtered : Option Nat
  faultRun : Nat
  status : Excursion
  delay : Option (Side × Ticks)
  slotTimer : Timer
  deriving DecidableEq, Repr

/-- The dry-air unit (Chapter 2). On-times are in ms, as R23 computes them. -/
structure DryAir where
  demand : Nat
  airShare : Nat
  staged : Nat
  applied : Nat
  period : Timer
  onTimer : Timer
  valve : Bool
  forcedSafe : Bool
  sealTimer : Timer
  deriving DecidableEq, Repr

/-- An end of the motion channel: coil A drives toward `a` (OPEN, OUT), coil B toward `b` (CLOSED,
IN). -/
inductive MotionEnd where
  | a
  | b
  deriving DecidableEq, Repr

/-- The state of the motion channel (section 2.5): at rest at an end, moving toward one, STALLED. -/
inductive MotionState where
  | resting (e : MotionEnd)
  | moving (e : MotionEnd)
  | stalled
  deriving DecidableEq, Repr

/-- The stall causes (R34, R159, R161). -/
inductive StallCause where
  | travel
  | interlock
  | encoder
  deriving DecidableEq, Repr

/-- The motion channel. A drive is pending while the channel is moving with both coils off (R31). -/
structure Motion where
  state : MotionState
  last : Option MotionEnd
  coilA : Bool
  coilB : Bool
  dead : Timer
  travel : Timer
  cause : Option StallCause
  deriving DecidableEq, Repr

/-- The bands of a loop reading (R43). -/
inductive Band where
  | opened
  | normal
  | alarm
  | shorted
  deriving DecidableEq, Repr

/-- A loop's trouble (R46, R47). -/
inductive Trouble where
  | none
  | opened
  | shorted
  deriving DecidableEq, Repr

/-- The state of one detector loop (Chapter 3). -/
structure Loop where
  band : Option Band
  alarmRun : Nat
  latched : Bool
  trouble : Trouble
  troubleRun : Nat
  deriving DecidableEq, Repr

/-- The channels of the ADC (R41). -/
inductive AdcChannel where
  | loop (n : Fin 4)
  | temperature
  | battery
  deriving DecidableEq, Repr

/-- The detection unit (Chapter 3). `longScan` says whether the scan under way is a long one, `channel`
which channel it samples next: none when no scan is under way (R41). -/
structure Detection where
  loop0 : Loop
  loop1 : Loop
  loop2 : Loop
  loop3 : Loop
  zoneA : Bool
  zoneB : Bool
  battery : Bool
  batteryRun : Nat
  scanCount : Nat
  longScan : Bool
  channel : Option AdcChannel
  scanTimer : Timer
  deriving DecidableEq, Repr

/-- The fire states (Chapter 4), in the order of their coding (R182). -/
inductive FireState where
  | normal
  | prealarm
  | evacuate
  | countdown
  | held
  | release
  | soak
  | vent
  | blocked
  deriving DecidableEq, Repr

/-- The suppression controller (Chapter 4). `holdClosed` is the filtered reading of the hold switch,
and `holdFilter` runs while the input stands at the other level (R64). -/
structure Suppression where
  fire : FireState
  manual : Bool
  evacuation : Timer
  countdown : Timer
  pulse : Timer
  soak : Timer
  lock : Bool
  holdClosed : Bool
  holdFilter : Timer
  sounder : Bool
  warning : Bool
  release : Bool
  exhaust : Bool
  deriving DecidableEq, Repr

/-- The door unit (Chapter 5). `check` is how the stored check of the occupancy list differs from
the check of its contents: 0 agrees (log entry 2). -/
structure Door where
  occupancy : List Cart
  check : BitVec 16
  unlock : Timer
  output : Bool
  deriving DecidableEq, Repr

/-- The audit mark of a record (Chapter 6). -/
inductive Mark where
  | matched
  | mismatch
  deriving DecidableEq, Repr

/-- The fields that go with a cartridge id in a slot record (Chapter 6). -/
structure CartData where
  id : Cart
  exposure : Nat
  acclim : Option Nat
  inspect : Bool
  mark : Option Mark
  deriving DecidableEq, Repr

/-- A slot record: its state with the fields R86's table gives that state. The presence field is
the state's fixed presence. `unsettled` is a record marked for the rebuild of R106. -/
inductive Rec where
  | vacant
  | filed (c : CartData)
  | out (c : CartData) (unplanned : Bool)
  | departing (c : CartData) (tref : Tid)
  | reserved (c : CartData) (tref : Tid)
  | placing (c : CartData) (tref : Tid)
  | stray
  | unknown
  | unsettled
  deriving DecidableEq, Repr

/-- FREE VALUE (log entry 2). The 16-bit integrity check over a slot number and a record's fields:
R88 states no algorithm and no message carries the value. Safe. -/
opaque Config.recordCheck : Nat → Rec → BitVec 16

/-- The damage report of a slot (R90); a pending one is numbered among the messages made. -/
inductive DamageReport where
  | none
  | pending (made : Nat)
  | sent
  deriving DecidableEq, Repr

/-- One slot: the retained record with how its stored check differs from the check of its contents
(0 agrees, log entry 2), and the volatile presence and damage state. -/
structure Slot where
  record : Rec
  difference : BitVec 16
  debounced : Option Bool
  last : Option Bool
  damage : DamageReport
  deriving DecidableEq, Repr

/-- The slot table (Chapter 6). `keyOn` is the filtered reading of the key switch, and `keyFilter` runs
while the input stands at the other level (R98). `scanTimer` runs to the next full scan (R91). -/
structure SlotTable where
  slots : List Slot
  hold : HoldSetting
  mode : HoldMode
  keyOn : Bool
  keyFilter : Timer
  minute : Timer
  scanTimer : Timer
  deriving DecidableEq, Repr

/-- The states of a pull entry (Chapter 7). -/
inductive PullState where
  | waiting
  | lit
  | out
  deriving DecidableEq, Repr

/-- A pull entry (Chapter 7). -/
structure PullEntry where
  cart : Cart
  slot : Nat
  job : Job
  hatch : Addr
  requester : Addr
  reqSeq : Byte
  state : PullState
  deriving DecidableEq, Repr

/-- The pull queue (Chapter 7): its entries, their check, and its lamp request (R110). -/
structure PullQueue where
  entries : List PullEntry
  check : BitVec 16
  lamp : Option Nat
  deriving DecidableEq, Repr

/-- The audit states (Chapter 7). -/
inductive AuditState where
  | idle
  | running
  | reading
  | returning
  | suspended
  deriving DecidableEq, Repr

/-- What the record at the cursor held when its cartridge was lifted (R117). -/
inductive Finding where
  | identified (cart : Cart)
  | unidentified
  deriving DecidableEq, Repr

/-- The audit (section 7.4). -/
structure Audit where
  state : AuditState
  first : Nat
  last : Nat
  cursor : Option Nat
  finding : Option Finding
  strayPending : Bool
  checked : Nat
  repaired : Nat
  mismatched : Nat
  requester : Addr
  reqSeq : Byte
  step : Timer
  lamp : Option Nat
  deriving DecidableEq, Repr

/-- The direction of a transfer or a session, in the order of its coding (R183). -/
inductive Direction where
  | outbound
  | inbound
  deriving DecidableEq, Repr

/-- The states of a transfer entry (Chapter 8): five of the sending side, three of the receiving. -/
inductive XferState where
  | offered
  | accepted
  | unanswered
  | lapsed
  | refused
  | expected
  | arrived
  | placing
  deriving DecidableEq, Repr

/-- A transit timer (R137). -/
inductive Transit where
  | stopped
  | running (left : Ticks)
  | paused (left : Ticks)
  deriving DecidableEq, Repr

/-- A transfer entry (Chapter 8). Its side is that of its state. `custody` names the cartridge of
the OUTGOING custody entry it carries. `reply` is the volatile reply timer. -/
structure XferEntry where
  tid : Tid
  cart : Cart
  peer : Addr
  job : Job
  direction : Direction
  state : XferState
  attempts : Nat
  transit : Transit
  slot : Option Nat
  custody : Option Cart
  acceptedSlot : Option Byte
  reply : Timer
  deriving DecidableEq, Repr

/-- A claim (R141). -/
structure Claim where
  cart : Cart
  timer : Ticks
  deriving DecidableEq, Repr

/-- A lamp request, and a lamp's level (R96). -/
inductive Lamp where
  | off
  | on
  | flashing
  deriving DecidableEq, Repr

/-- The transfer engine (Chapter 8). -/
structure Transfers where
  entries : List XferEntry
  check : BitVec 16
  counter : Byte
  claims : List Claim
  lamps : List (Nat × Lamp)
  deriving DecidableEq, Repr

/-- The states of a hatch custody entry (Chapter 9). -/
inductive CustodyState where
  | heldOutbound
  | inDrawer
  | heldInbound
  | outgoing
  deriving DecidableEq, Repr

/-- A hatch custody entry (Chapter 9). -/
structure CustodyEntry where
  cart : Cart
  job : Job
  state : CustodyState
  dest : Option Addr
  deriving DecidableEq, Repr

/-- An inbound expected entry (Chapter 9). -/
structure ExpectedEntry where
  job : Job
  cart : Cart
  dest : Addr
  deriving DecidableEq, Repr

/-- The session states (section 9.2). -/
inductive SessionState where
  | idle
  | identified
  | filling
  | presenting
  | receiving
  | returning
  | handed
  | aborted
  deriving DecidableEq, Repr

/-- The abort reasons, in the order of their coding (R183). -/
inductive AbortReason where
  | timeout
  | fire
  | interlock
  | stall
  deriving DecidableEq, Repr

/-- One cartridge of the drawer manifest (Chapter 9). -/
structure ManifestItem where
  cart : Cart
  confirmed : Bool
  deriving DecidableEq, Repr

/-- The courier session (section 9.2). -/
structure Session where
  state : SessionState
  job : Option Job
  direction : Option Direction
  timer : Timer
  manifest : List ManifestItem
  reason : Option AbortReason
  deriving DecidableEq, Repr

/-- The hatch unit (Chapter 9). `sendTimer` and `doneTimer` run for 50 ms from when their button goes down,
while it is held (R147). -/
structure Hatch where
  custody : List CustodyEntry
  custodyCheck : BitVec 16
  expected : List ExpectedEntry
  expectedCheck : BitVec 16
  session : Session
  position : Nat
  refA : Bool
  refB : Bool
  sendTimer : Timer
  doneTimer : Timer
  deriving DecidableEq, Repr

/-- What an ALIVE or SILENT peer record holds (Chapter 10). -/
structure PeerData where
  age : Ticks
  interval : Nat
  roleDemand : Option (Role × Nat)
  fire : Option (FireState × Ticks)
  deriving DecidableEq, Repr

/-- A peer record (Chapter 10): UNHEARD and LOST hold nothing but the address, which is its place
in the list of records. -/
inductive Peer where
  | unheard
  | lost
  | alive (d : PeerData)
  | silent (d : PeerData)
  deriving DecidableEq, Repr

/-- The peer view (Chapter 10): a record per address 0 to 23, the own one never heard, and the
neighbour set. -/
structure PeerView where
  records : List Peer
  neighbours : List Addr
  deriving DecidableEq, Repr

/-- The image of a slot record in a QUERY reply (R103). -/
structure RecordImage where
  slot : Nat
  presence : Option Bool
  state : Nat
  held : Bool
  damaged : Bool
  cart : Option Cart
  unplanned : Option Bool
  exposure : Option Nat
  acclim : Option Nat
  inspect : Option Bool
  mark : Option Mark
  tref : Option Tid
  deriving DecidableEq, Repr

/-- The image of a transfer entry in a QUERY reply (R145). -/
structure XferImage where
  tid : Tid
  cart : Cart
  receiving : Bool
  peer : Addr
  job : Job
  direction : Direction
  state : XferState
  attempts : Nat
  transit : Option (Nat × Option Nat)
  acceptedSlot : Option Byte
  slot : Option Nat
  custody : Option Cart
  deriving DecidableEq, Repr

/-- The detail of a REPLY (R182, R183), as the request's rule gives it; `raw` is one received. -/
inductive Detail where
  | slot (n : Nat)
  | counts (checked repaired mismatched : Nat)
  | cursorCounts (cursor : Option Nat) (checked repaired mismatched : Nat)
  | number (n : Nat)
  | record (image : RecordImage)
  | transfer (image : XferImage)
  | custody (state : CustodyState) (job : Job) (dest : Option Addr)
  | expected (job : Job) (dest : Addr)
  | raw (bytes : List Byte)
  deriving DecidableEq, Repr

/-- The outcomes of a REPLY in the order of their coding (R182, R183). -/
inductive ReplyOutcome where
  | done
  | queued
  | started
  | complete
  | aborted
  | cancelled
  | notFound
  | notReady
  | role
  | fire
  | sealed
  | held
  | inspect
  | acclimatizing
  | damaged
  | full
  | duplicate
  | unreachable
  | locked
  | busy
  | active
  | range
  deriving DecidableEq, Repr

/-- What a QUERY names (R183); `other` is a received alternative that names none. -/
inductive QuerySel where
  | slot (n : Byte)
  | cart (c : Cart)
  | transfer (t : Tid)
  | other (choice : Byte)
  deriving DecidableEq, Repr

/-- What an INSPECT-CLEAR names (R183); `other` is a received alternative that names none. -/
inductive ClearSel where
  | slot (n : Byte)
  | all
  | other (choice : Byte)
  deriving DecidableEq, Repr

/-- The outcome byte of a received REPLY, or the outcome of one made here. -/
structure ReplyBody where
  kind : Byte
  seq : Byte
  outcome : Byte
  detail : Option Detail
  deriving DecidableEq, Repr

/-- The 23 kinds of message with their bodies (section 11.5). -/
inductive Body where
  | status (b : StatusBody)
  | fireReport (b : FireReportBody)
  | discharge (soakMinutes : Byte)
  | custodyAlert (b : AlertBody)
  | offer (tid : Tid) (cart : Cart) (job : Job) (direction : Byte)
  | accept (tid : Tid) (slot : Option Byte)
  | refuse (tid : Tid) (reason : Byte)
  | arrive (tid : Tid)
  | claim (cart : Cart)
  | close (tid : Tid) (cart : Cart) (job : Option Job)
  | withdraw (tid : Tid)
  | handover (b : HandoverBody)
  | checkout (cart : Cart) (job : Job) (hatch : Addr)
  | checkin (job : Job) (cart : Cart) (dest : Addr)
  | cancel (cart : Cart)
  | holdSet (extent endCode complement mode : Byte)
  | inspectClear (sel : ClearSel)
  | audit (first last : Byte)
  | restore
  | occupancyClear
  | query (sel : QuerySel)
  | restart
  | reply (b : ReplyBody)
  deriving DecidableEq, Repr

/-- The blocks that make messages; a message of the CUSTODY group goes back to its block (R179). -/
inductive Blk where
  | loader
  | line
  | suppression
  | door
  | slotTable
  | pulls
  | transfers
  | hatch
  deriving DecidableEq, Repr

/-- A message in the transmit queue (R178), with its number among the messages made, the block that
made it and its sender sequence. -/
structure QMsg where
  made : Nat
  blk : Blk
  dest : Addr
  seq : Byte
  body : Body
  deriving DecidableEq, Repr

/-- A pending message of a block (R179). `again` marks one that a FIRE message displaced from the
queue, which is offered again first. -/
structure Pend where
  made : Nat
  blk : Blk
  dest : Addr
  body : Body
  again : Bool := false
  deriving DecidableEq, Repr

/-- The attempt under way (R180): none, a wait of the access delay, or a frame being sent. -/
inductive Attempt where
  | none
  | waiting (made : Nat) (left : Ticks)
  | sending (made : Nat) (frame : List Byte)
  deriving DecidableEq, Repr

/-- The line state (R181). -/
inductive LineState where
  | normal
  | lineFault
  deriving DecidableEq, Repr

/-- The line interface (Chapter 11). `pend` holds the pending messages of all blocks in the order
made, each with its block; a block's own pending messages are those that carry its name. `made`
numbers the messages. `permit` is the one attempt a LINE-FAULT expiry allows; `idle` says whether
the line is idle. `echo` is the frame sent whole that the receiver has yet to judge, once the line is
idle again, as the station's own readback (R174, R176 row 1). -/
structure Line where
  state : LineState
  queue : List QMsg
  pend : List Pend
  made : Nat
  failures : Nat
  backoff : Bool
  seq : Byte
  lastHeard : List (Option (Byte × Ticks))
  beacon : Timer
  faultTimer : Timer
  attempt : Attempt
  permit : Bool
  idle : Bool
  echo : Option (List Byte)
  deriving DecidableEq, Repr

/-- The station: everything the manual gives the part. `now` is the model's clock (log entry 6). -/
structure Station where
  loader : Loader
  retention : Retention
  pins : Pins
  moist : Moisture
  air : DryAir
  motion : Motion
  det : Detection
  supp : Suppression
  door : Door
  table : SlotTable
  pulls : PullQueue
  audit : Audit
  xfer : Transfers
  hatch : Hatch
  peers : PeerView
  line : Line
  now : Ticks
  deriving DecidableEq, Repr

namespace Machine

/-- The machine: the station, and the commands that wait, first in, first out. -/
structure State where
  station : Station
  pending : List Instr
  deriving DecidableEq, Repr

/-- The reasons the machine stops: none. The manual gives every command an outcome in every state,
if only to have no effect, so no meaning faults. -/
inductive Fault where
  deriving DecidableEq, Repr

/-- The reasons a command is refused. -/
inductive Refusal where
  /-- Raised by `exec` alone, for a command that has no meaning yet. Safe: the machine stops. -/
  | notModelled (mnemonic : String)
  deriving DecidableEq, Repr

end Machine

/-- The moisture unit after any start (R18). -/
def Moisture.start : Moisture where
  capturing := false
  latest := .absent
  temp := 250
  raw := none
  filtered := none
  faultRun := 0
  status := .inBand
  delay := none
  slotTimer := none

/-- The dry-air unit after any start (R38). -/
def DryAir.start : DryAir where
  demand := 0
  airShare := 0
  staged := 0
  applied := 0
  period := none
  onTimer := none
  valve := false
  forcedSafe := false
  sealTimer := none

/-- A loop after any start (R53). -/
def Loop.start : Loop where
  band := none
  alarmRun := 0
  latched := false
  trouble := .none
  troubleRun := 0

/-- The detection unit after any start (R53). -/
def Detection.start : Detection where
  loop0 := .start
  loop1 := .start
  loop2 := .start
  loop3 := .start
  zoneA := false
  zoneB := false
  battery := false
  batteryRun := 0
  scanCount := 0
  longScan := false
  channel := none
  scanTimer := none

/-- The suppression controller after a start that leaves the release lock as given (R75). -/
def Suppression.start (lock : Bool) : Suppression where
  fire := .normal
  manual := false
  evacuation := none
  countdown := none
  pulse := none
  soak := none
  lock := lock
  holdClosed := false
  holdFilter := none
  sounder := false
  warning := false
  release := false
  exhaust := false

/-- The audit after any start, and whenever none is under way (R124). DESIGN CHOICE (log entry 23): the
range, the counts and the requester that R124 leaves absent are held as 0; nothing reads them in
IDLE. -/
def Audit.start : Audit where
  state := .idle
  first := 0
  last := 0
  cursor := none
  finding := none
  strayPending := false
  checked := 0
  repaired := 0
  mismatched := 0
  requester := 0
  reqSeq := 0
  step := none
  lamp := none

/-- The courier session after any start, and whenever no session is under way (R164). -/
def Session.idle : Session where
  state := .idle
  job := none
  direction := none
  timer := none
  manifest := []
  reason := none

/-- The peer view after any start, before the image gives the neighbour set (R173). -/
def PeerView.start : PeerView where
  records := List.replicate 24 .unheard
  neighbours := []

/-- The line interface after any start (R184); `made` goes on counting. -/
def Line.start (made : Nat) : Line where
  state := .normal
  queue := []
  pend := []
  made := made
  failures := 0
  backoff := false
  seq := 0
  lastHeard := List.replicate 32 none
  beacon := none
  faultTimer := none
  attempt := .none
  permit := false
  idle := false
  echo := none

/-- A slot before any power-up: nothing is known of it (log entry 5, DESIGN CHOICE). -/
def Slot.blank : Slot where
  record := .unsettled
  difference := 0
  debounced := none
  last := none
  damage := .none

/-- The field inputs of a bench with nothing operated (log entry 5, DESIGN CHOICE). -/
def Pins.blank : Pins where
  openEnd := false
  closedEnd := false
  innerEnd := false
  innerFlapOpen := false
  outerFlapOpen := false
  phaseA := false
  phaseB := false
  sendDown := false
  doneDown := false
  holdInput := false
  keyInput := false
  matrix := 0
  adcLoop0 := 512
  adcLoop1 := 512
  adcLoop2 := 512
  adcLoop3 := 512
  adcTemp := 512
  adcBattery := 512
  sensor := none

/-- The station right after a power-up start has begun on a part never used before: LOADING, every
piece of volatile state as the manual's start tables give it, the release lock clear, nothing
retained. -/
def Station.reset : Station where
  loader :=
    { powered := true, resetAsserted := false, state := .loading, faultCode := 0, own := 0,
      cfg := .none, startKind := .powerUp, listenTimer := none, restartWait := none,
      joinedFor := 0 }
  retention := { markerGood := false, role := none }
  pins := .blank
  moist := .start
  air := .start
  motion :=
    { state := .stalled, last := none, coilA := false, coilB := false,
      dead := some (ticksOfMs 500), travel := none, cause := none }
  det := .start
  supp := .start false
  door := { occupancy := [], check := 0, unlock := none, output := false }
  table :=
    { slots := List.replicate 256 .blank, hold := ⟨0, .low, false⟩, mode := .opened,
      keyOn := false, keyFilter := none, minute := none, scanTimer := none }
  pulls := { entries := [], check := 0, lamp := none }
  audit := .start
  xfer := { entries := [], check := 0, counter := 0, claims := [], lamps := [] }
  hatch :=
    { custody := [], custodyCheck := 0, expected := [], expectedCheck := 0, session := .idle,
      position := 0, refA := false, refB := false, sendTimer := none, doneTimer := none }
  peers := .start
  line := .start 0
  now := 0

/-- The machine right after reset, with no command waiting. -/
def Machine.State.reset : State where
  station := .reset
  pending := []

end Sys2Proof
end

