-- ==== Sys2Proof/Machine/Flags.lean ====
section
/-! DEFINITION. The conditions and flags that the rules read from the station: the start-state
guards, the classes of fire states, the outputs by fire state, the trouble items, the held set, the
levels of the field outputs. -/

namespace Sys2Proof

/-- The part has its supply and its reset line is not asserted, so it runs (R189, R75). -/
def Station.live (st : Station) : Bool :=
  st.loader.powered && !st.loader.resetAsserted

/-- The field units run: from entry into LISTEN, through JOINED, and on in CLASH (R1, R40, R54). -/
def Station.running (st : Station) : Bool :=
  st.live && match st.loader.state with
    | .listen | .joined | .clash => true
    | .loading | .selftest | .fault => false

/-- The station is JOINED. -/
def Station.joined (st : Station) : Bool :=
  st.live && decide (st.loader.state = .joined)

/-- The configuration record. -/
def Station.cfg (st : Station) : ConfigRecord := st.loader.cfg

/-- A running station of role BAY: its bay units are present (R1, R19, R76, R86, R107). -/
def Station.bay (st : Station) : Bool :=
  st.running && decide (st.cfg.role = .bay)

/-- A running station of role HATCH: its hatch unit is present (R147). -/
def Station.hatchUnit (st : Station) : Bool :=
  st.running && decide (st.cfg.role = .hatch)

/-- The confirmed states (Chapter 4). -/
def FireState.confirmed : FireState → Bool
  | .normal | .prealarm => false
  | .evacuate | .countdown | .held | .release | .soak | .vent | .blocked => true

/-- The sealed states (R70). -/
def FireState.isSealed : FireState → Bool
  | .soak | .vent => true
  | .normal | .prealarm | .evacuate | .countdown | .held | .release | .blocked => false

/-- The station is in a confirmed state. -/
def Station.confirmed (st : Station) : Bool := st.supp.fire.confirmed

/-- The station is sealed (R70). -/
def Station.isSealed (st : Station) : Bool := st.supp.fire.isSealed

/-- ALARM-SOUNDER by fire state (section 4.8, R69). -/
def FireState.sounder : FireState → Bool
  | .normal | .vent => false
  | .prealarm | .evacuate | .countdown | .held | .release | .soak | .blocked => true

/-- DISCHARGE-WARNING by fire state (section 4.8, R69). -/
def FireState.warning : FireState → Bool
  | .countdown | .held | .release | .soak => true
  | .normal | .prealarm | .evacuate | .vent | .blocked => false

/-- The release output at entry into a fire state (section 4.8, R69): on for the pulse. -/
def FireState.releaseOn : FireState → Bool
  | .release => true
  | .normal | .prealarm | .evacuate | .countdown | .held | .soak | .vent | .blocked => false

/-- EXHAUST by fire state (section 4.8, R69). -/
def FireState.exhaust : FireState → Bool
  | .vent => true
  | .normal | .prealarm | .evacuate | .countdown | .held | .release | .soak | .blocked => false

/-- The four loops of the unit by number (R41). -/
def Detection.loop (d : Detection) : Fin 4 → Loop
  | 0 => d.loop0
  | 1 => d.loop1
  | 2 => d.loop2
  | 3 => d.loop3

/-- One loop written. -/
def Detection.setLoop (d : Detection) (n : Fin 4) (l : Loop) : Detection :=
  match n with
  | 0 => { d with loop0 := l }
  | 1 => { d with loop1 := l }
  | 2 => { d with loop2 := l }
  | 3 => { d with loop3 := l }

/-- The code that a sample of a loop channel gives now (R41). -/
def Pins.loopCode (p : Pins) : Fin 4 → BitVec 10
  | 0 => p.adcLoop0
  | 1 => p.adcLoop1
  | 2 => p.adcLoop2
  | 3 => p.adcLoop3

/-- The code of a loop channel changed (R41). -/
def Pins.setLoopCode (p : Pins) (n : Fin 4) (code : BitVec 10) : Pins :=
  match n with
  | 0 => { p with adcLoop0 := code }
  | 1 => { p with adcLoop1 := code }
  | 2 => { p with adcLoop2 := code }
  | 3 => { p with adcLoop3 := code }

/-- The kind and zone of a loop (R42). -/
def ConfigRecord.loop (c : ConfigRecord) : Fin 4 → LoopConfig
  | 0 => c.loop0
  | 1 => c.loop1
  | 2 => c.loop2
  | 3 => c.loop3

/-- The loop is a used loop (R42). -/
def ConfigRecord.used (c : ConfigRecord) (n : Fin 4) : Bool :=
  decide ((c.loop n).kind ≠ .unused)

/-- Some used loop satisfies `p`. -/
def Station.anyUsedLoop (st : Station) (p : Fin 4 → Loop → Bool) : Bool :=
  [0, 1, 2, 3].any fun n => st.cfg.used n && p n (st.det.loop n)

/-- The alarm reading condition (R51): some used loop's current band is ALARM. -/
def Station.alarmReading (st : Station) : Bool :=
  st.anyUsedLoop fun _ l => decide (l.band = some .alarm)

/-- At least one used loop has its latched alarm set (R56). -/
def Station.anyLatched (st : Station) : Bool :=
  st.anyUsedLoop fun _ l => l.latched

/-- Some used loop of the zone has its latched alarm set: what R48 makes the zone latch. -/
def Station.zoneLatched (st : Station) (z : Zone) : Bool :=
  st.anyUsedLoop fun n l => l.latched && decide ((st.cfg.loop n).zone = z)

/-- Trouble item "loop open" (R52). -/
def Station.loopOpenItem (st : Station) : Bool :=
  st.anyUsedLoop fun _ l => decide (l.trouble = .opened)

/-- Trouble item "loop short" (R52). -/
def Station.loopShortItem (st : Station) : Bool :=
  st.anyUsedLoop fun _ l => decide (l.trouble = .shorted)

/-- Trouble item "stall" (R30, R37): the motion channel is STALLED. -/
def Station.stallItem (st : Station) : Bool :=
  decide (st.motion.state = .stalled)

/-- Trouble item "sensor fault" (R17); clear at a HATCH (R1). -/
def Station.sensorFaultItem (st : Station) : Bool :=
  decide (st.cfg.role = .bay) && decide (st.moist.status = .sensorFault)

/-- The neighbour-seal flag (R30); clear at a HATCH (R19). -/
def Station.neighbourSealFlag (st : Station) : Bool :=
  decide (st.cfg.role = .bay) && st.air.sealTimer.isSome

/-- The filtered RH as STATUS and the dry-air unit see it (R11, R17). -/
def Moisture.handedOn (m : Moisture) : Option Nat :=
  if m.status = .sensorFault then none else m.filtered

/-- The occupancy count (R54, R76, R80): 0 at a HATCH. -/
def Station.occupancyCount (st : Station) : Nat :=
  if st.cfg.role = .bay then st.door.occupancy.length else 0

/-- The demand a bay reports (R21); 0 at a HATCH (R19). -/
def Station.reportedDemand (st : Station) : Nat :=
  if st.cfg.role = .bay then (if st.air.forcedSafe then 0 else st.air.demand) else 0

/-- The base set of the hold setting (R97). -/
def HoldSetting.base (h : HoldSetting) (n : Nat) : Bool :=
  if h.extent = 0 then false
  else match h.holdEnd with
    | .low => decide (n < 2 ^ h.extent)
    | .high => decide (256 - 2 ^ h.extent ≤ n)

/-- Membership of the held set (R97). -/
def HoldSetting.held (h : HoldSetting) (n : Nat) : Bool :=
  xor (h.base n) h.complement

/-- A flap reads open, so no coil of the drawer may be switched on (R161). A BAY has no flaps. -/
def Station.flapBlocks (st : Station) : Bool :=
  decide (st.cfg.role = .hatch) && (st.pins.innerFlapOpen || st.pins.outerFlapOpen)

/-- Both flaps read shut. -/
def Station.flapsShut (st : Station) : Bool :=
  !st.pins.innerFlapOpen && !st.pins.outerFlapOpen

/-- The arrival condition of an end (R32, R160): its switch closed, or for the drawer's outer end a
position of at least POS_OUT − 8. -/
def Station.arrivalHolds (st : Station) (e : MotionEnd) : Bool :=
  match st.cfg.role, e with
  | .bay, .a => st.pins.openEnd
  | .bay, .b => st.pins.closedEnd
  | .hatch, .a => decide (st.cfg.posOut - 8 ≤ st.hatch.position)
  | .hatch, .b => st.pins.innerEnd

/-- The channel's state as its end switches read (R39); the drawer's outer end has no switch. At the
beginning of a start the role, and so which switches are the channel's, is that of the record last
installed, since the new one is not yet read: DESIGN CHOICE (log entry 15); at entry into LISTEN it is
the new record's. -/
def Station.motionFromSwitches (st : Station) : MotionState :=
  match st.cfg.role with
  | .bay =>
    if st.pins.closedEnd then .resting .b else if st.pins.openEnd then .resting .a else .stalled
  | .hatch => if st.pins.innerEnd then .resting .b else .stalled

/-- The travel limit of the channel in seconds (section 2.5). -/
def Station.travelLimit (st : Station) : Nat :=
  match st.cfg.role with
  | .bay => st.cfg.damperTravel
  | .hatch => st.cfg.drawerTravel

/-- The side of a transfer state (Chapter 8). -/
def XferState.receiving : XferState → Bool
  | .expected | .arrived | .placing => true
  | .offered | .accepted | .unanswered | .lapsed | .refused => false

/-- The presence a record's state fixes (R86); unsettled reads EMPTY (R106). -/
def Rec.presence : Rec → Bool
  | .filed _ | .stray | .unknown => true
  | .vacant | .out .. | .departing .. | .reserved .. | .placing .. | .unsettled => false

/-- The cartridge fields of a record (R86). -/
def Rec.cart : Rec → Option CartData
  | .filed c | .out c _ | .departing c _ | .reserved c _ | .placing c _ => some c
  | .vacant | .stray | .unknown | .unsettled => none

/-- The transfer ref of a record (R86). -/
def Rec.tref : Rec → Option Tid
  | .departing _ t | .reserved _ t | .placing _ t => some t
  | .vacant | .filed _ | .out .. | .stray | .unknown | .unsettled => none

/-- A record with its cartridge fields rewritten, its state kept. -/
def Rec.mapCart (f : CartData → CartData) : Rec → Rec
  | .filed c => .filed (f c)
  | .out c u => .out (f c) u
  | .departing c t => .departing (f c) t
  | .reserved c t => .reserved (f c) t
  | .placing c t => .placing (f c) t
  | .vacant => .vacant
  | .stray => .stray
  | .unknown => .unknown
  | .unsettled => .unsettled

/-- A record is sound when its check agrees with its contents (R88). -/
def Slot.sound (sl : Slot) : Bool := decide (sl.difference = 0)

/-- The 16-bit integrity check as the record stores it (R88): the check of its contents, changed by
the difference the state keeps. -/
def Slot.storedCheck (n : Nat) (sl : Slot) : BitVec 16 :=
  Config.recordCheck n sl.record ^^^ sl.difference

/-- The record as the blocks read it: a DAMAGED or unsettled one is treated as UNKNOWN (R89, R106). -/
def Slot.view (sl : Slot) : Rec :=
  if sl.sound then (if sl.record = .unsettled then .unknown else sl.record) else .unknown

/-- A slot of the table by number. -/
def SlotTable.slot (t : SlotTable) (n : Nat) : Slot := t.slots.getD n .blank

/-- The slot is in the held set (R97). -/
def Station.isHeld (st : Station) (n : Nat) : Bool := st.table.hold.held n

/-- A sound VACANT record outside the held set: a free slot (R104). -/
def Station.isFreeSlot (st : Station) (n : Nat) : Bool :=
  let sl := st.table.slot n
  sl.sound && decide (sl.record = .vacant) && !st.isHeld n

/-- The free slots a BAY's STATUS carries (R104). -/
def Station.freeSlots (st : Station) : Nat :=
  ((List.range 256).filter st.isFreeSlot).length

/-- The places taken at a HATCH (R148). -/
def Station.placesTaken (st : Station) : Nat :=
  st.hatch.custody.length
    + (if st.hatch.session.direction = some .inbound then st.hatch.session.manifest.length else 0)
    + (st.xfer.entries.filter (·.state.receiving)).length
    + st.xfer.claims.length

/-- The lamp of a slot (R96): flashing if any block asks so, else on if any asks so, else off. -/
def Station.lamp (st : Station) (n : Nat) : Lamp :=
  let asked := (st.xfer.lamps.filter (fun p => decide (p.1 = n))).map (·.2)
  if asked.contains .flashing then .flashing
  else if asked.contains .on || decide (st.pulls.lamp = some n) || decide (st.audit.lamp = some n)
  then .on else .off

/-- The heard age has reached a number of the peer's beacon intervals (R169). -/
def PeerData.silentFor (d : PeerData) (intervals : Nat) : Bool :=
  decide (ticksOfSec (intervals * d.interval) ≤ d.age)

/-- The four status lines (R188), line 0 in bit 0. DESIGN CHOICE (log entry 25): the slow blink of line 0
begins at entry into JOINED, with its second on. -/
def Station.statusLines (st : Station) : BitVec 4 :=
  if !st.live then 0
  else match st.loader.state with
    | .loading | .selftest => 15
    | .listen => 8
    | .joined => if st.loader.joinedFor % ticksOfSec 2 < ticksOfSec 1 then 1 else 0
    | .fault => BitVec.ofNat 4 st.loader.faultCode
    | .clash => 6

end Sys2Proof
end

