-- ==== Sys2Proof/Machine/Operands.lean ====
section
/-! DEFINITION. The operand forms of the commands: address classes, coded fields of messages, ADC
codes, tag numbers, encoder readings, and the codes a message's enumerated fields take. -/

namespace Sys2Proof

/-- A station address, 0 to 23 (R175). -/
def isStation (a : Addr) : Bool := decide (a.toNat < 24)

/-- A console address, 24 to 31 (R175). -/
def isConsole (a : Addr) : Bool := decide (24 ≤ a.toNat) && decide (a.toNat ≤ 31)

/-- The fire state of a code (R182); a code above 8 names none (R166). -/
def FireState.ofCode (c : BitVec 4) : Option FireState :=
  match c.toNat with
  | 0 => some .normal
  | 1 => some .prealarm
  | 2 => some .evacuate
  | 3 => some .countdown
  | 4 => some .held
  | 5 => some .release
  | 6 => some .soak
  | 7 => some .vent
  | 8 => some .blocked
  | _ => none

/-- The code of a fire state (R182). -/
def FireState.code : FireState → BitVec 4
  | .normal => 0
  | .prealarm => 1
  | .evacuate => 2
  | .countdown => 3
  | .held => 4
  | .release => 5
  | .soak => 6
  | .vent => 7
  | .blocked => 8

/-- The direction of a code (R183); other codes name none (R130 row 6). -/
def Direction.ofCode (c : Byte) : Option Direction :=
  match c.toNat with
  | 0 => some .outbound
  | 1 => some .inbound
  | _ => none

/-- The code of a direction (R183). -/
def Direction.code : Direction → Byte
  | .outbound => 0
  | .inbound => 1

/-- The reasons of a REFUSE and of an UNANSWERED alert (R144, R183). -/
inductive Reason where
  | full
  | duplicate
  | sealed
  | fire
  | role
  | unknown
  deriving DecidableEq, Repr

/-- The code of a reason (R183). -/
def Reason.code : Reason → Byte
  | .full => 0
  | .duplicate => 1
  | .sealed => 2
  | .fire => 3
  | .role => 4
  | .unknown => 5

/-- The reason of a code; one outside the values of R144 is taken as UNKNOWN (R131). -/
def Reason.ofCode (c : Byte) : Reason :=
  match c.toNat with
  | 0 => .full
  | 1 => .duplicate
  | 2 => .sealed
  | 3 => .fire
  | 4 => .role
  | _ => .unknown

/-- The alert kinds in the order of their coding (R183). -/
inductive AlertKind where
  | unplannedRemoval
  | strayInsert
  | wrongSlot
  | damagedRecord
  | auditMismatch
  | unscannedExit
  | wrongCartridge
  | unanswered
  | lapse
  | lapseResolved
  | strayArrival
  | custodyFull
  deriving DecidableEq, Repr

/-- The code of an alert kind (R183). -/
def AlertKind.code : AlertKind → Byte
  | .unplannedRemoval => 0
  | .strayInsert => 1
  | .wrongSlot => 2
  | .damagedRecord => 3
  | .auditMismatch => 4
  | .unscannedExit => 5
  | .wrongCartridge => 6
  | .unanswered => 7
  | .lapse => 8
  | .lapseResolved => 9
  | .strayArrival => 10
  | .custodyFull => 11

/-- A slot number as its one byte (R183). -/
def slotByte (n : Nat) : Byte := BitVec.ofNat 8 n

/-- A CUSTODY-ALERT body from its fields; those not named are absent. -/
def alertBody (kind : AlertKind) (slot : Option Nat) (cart : Option Cart)
    (cart2 : Option Cart := none) (tid : Option Tid := none) (reason : Option Reason := none) :
    AlertBody where
  kind := kind.code
  slot := slot.map slotByte
  cart := cart
  cart2 := cart2
  tid := tid
  reason := reason.map Reason.code

/-- The place of a REPLY outcome in the list of outcomes (R182, R183). -/
def ReplyOutcome.code : ReplyOutcome → Byte
  | .done => 0
  | .queued => 1
  | .started => 2
  | .complete => 3
  | .aborted => 4
  | .cancelled => 5
  | .notFound => 6
  | .notReady => 7
  | .role => 8
  | .fire => 9
  | .sealed => 10
  | .held => 11
  | .inspect => 12
  | .acclimatizing => 13
  | .damaged => 14
  | .full => 15
  | .duplicate => 16
  | .unreachable => 17
  | .locked => 18
  | .busy => 19
  | .active => 20
  | .range => 21

/-- The kind numbers of R175 that the console requests have, quoted in their replies. -/
def kindCheckout : Byte := 13
/-- CHECKIN. -/
def kindCheckin : Byte := 14
/-- CANCEL. -/
def kindCancel : Byte := 15
/-- HOLD-SET. -/
def kindHoldSet : Byte := 16
/-- INSPECT-CLEAR. -/
def kindInspectClear : Byte := 17
/-- AUDIT. -/
def kindAudit : Byte := 18
/-- RESTORE. -/
def kindRestore : Byte := 19
/-- OCCUPANCY-CLEAR. -/
def kindOccupancyClear : Byte := 20
/-- QUERY. -/
def kindQuery : Byte := 21
/-- RESTART. -/
def kindRestart : Byte := 22

/-- The temperature of a code (R3): none for a temperature fault, code 0 or 1023. -/
def tempOfCode (code : BitVec 10) : Option Int :=
  if code.toNat = 0 ∨ code.toNat = 1023 then none
  else some ((code.toNat * 1650 / 1023 : Nat) - 500)

/-- The band of a loop code (R43). -/
def bandOfCode (code : BitVec 10) : Band :=
  if 900 ≤ code.toNat then .opened
  else if 500 ≤ code.toNat then .normal
  else if 150 ≤ code.toNat then .alarm
  else .shorted

/-- The verification count of a loop kind (R44); an UNUSED loop is not evaluated. -/
def LoopKind.verification : LoopKind → Nat
  | .smoke => 3
  | .heat | .manual => 1
  | .unused => 0

/-- The soak time of a DISCHARGE, taken within its limits (R29), in minutes. -/
def soakOfByte (b : Byte) : Nat := max 10 (min 120 b.toNat)

/-- The beacon interval of a STATUS, taken within its limits (R166), in seconds. -/
def intervalOfByte (b : Byte) : Nat := max 1 (min 10 b.toNat)

/-- The job id of a courier card: the most significant 16 bits of its number (R152). -/
def jobOfCard (number : Cart) : Job := number.extractLsb' 24 16

/-- The hold end of a code (R183). -/
def HoldEnd.ofCode (c : Nat) : Option HoldEnd :=
  match c with
  | 0 => some .low
  | 1 => some .high
  | _ => none

/-- The protection mode of a code (R183). -/
def HoldMode.ofCode (c : Nat) : Option HoldMode :=
  match c with
  | 0 => some .opened
  | 1 => some .keyed
  | 2 => some .fixed
  | _ => none

/-- A flag of a code: 0 clear, 1 set (R183). -/
def flagOfCode (c : Nat) : Option Bool :=
  match c with
  | 0 => some false
  | 1 => some true
  | _ => none

/-- The hold setting and mode of a HOLD-SET's bytes; none where one lies outside its values (R98). -/
def holdOfBytes (extent endCode complement mode : Byte) : Option (HoldSetting × HoldMode) :=
  match HoldEnd.ofCode endCode.toNat, flagOfCode complement.toNat, HoldMode.ofCode mode.toNat with
  | some e, some c, some m => if extent.toNat ≤ 8 then some (⟨extent.toNat, e, c⟩, m) else none
  | _, _, _ => none

/-- The step of the encoder cycle a pair of phase readings is (R159), from 0. -/
def encoderStep (a b : Bool) : Nat :=
  match a, b with
  | false, false => 0
  | false, true => 1
  | true, true => 2
  | true, false => 3

/-- How a transition moves the position counter (R159). -/
inductive EncoderMove where
  | still
  | outward
  | inward
  | faulty
  deriving DecidableEq, Repr

/-- The move from the encoder reference to a new pair (R159). -/
def encoderMove (refA refB a b : Bool) : EncoderMove :=
  match (encoderStep a b + 4 - encoderStep refA refB) % 4 with
  | 0 => .still
  | 1 => .outward
  | 2 => .faulty
  | _ => .inward

/-- The filter of a switch input after the input takes a level: it runs for 100 ms while the level is
not the filtered reading, from the change that made it so (R64, R98). -/
def filterSwitch (t : Timer) (reading level : Bool) : Timer :=
  if level = reading then none else some (t.getD (ticksOfMs 100))

/-- The timer of a button after the button stands down or up, `was` saying how it stood: it runs for 50 ms
from when the button goes down, and stops when it goes up (R147). A button that stays down does not start
it again, so a press counts once. -/
def holdButton (t : Timer) (was down : Bool) : Timer :=
  if !down then none else if was then t else some (ticksOfMs 50)

/-- The position counter after a move, held within 0 to 4095 (R159). -/
def EncoderMove.apply (m : EncoderMove) (pos : Nat) : Nat :=
  match m with
  | .outward => min 4095 (pos + 1)
  | .inward => pos - 1
  | .still | .faulty => pos

/-- The code of a session abort reason (R183). -/
def AbortReason.code : AbortReason → Byte
  | .timeout => 0
  | .fire => 1
  | .interlock => 2
  | .stall => 3

/-- The abort reason a stall gives a session (R156). -/
def StallCause.abortReason : StallCause → AbortReason
  | .interlock => .interlock
  | .travel | .encoder => .stall

end Sys2Proof
end

