-- ==== Sys2Proof/Machine/Frame.lean ====
section
/-! DEFINITION. The frames of the vault line: the check of R175, the coding of every kind's body
(R182, R183), and the judging of a received frame (R174). -/

namespace Sys2Proof

/-! ### The line check (R175) -/

/-- One bit into the check register: generator x^16 + x^12 + x^5 + 1, least significant bit first. -/
def crcBit (reg : BitVec 16) (b : Bool) : BitVec 16 :=
  if xor (reg.getLsbD 0) b then (reg >>> 1) ^^^ 0x8408 else reg >>> 1

/-- One byte into the check register, its bit 0 first. -/
def crcByte (reg : BitVec 16) (x : Byte) : BitVec 16 :=
  (List.range 8).foldl (fun r i => crcBit r (x.getLsbD i)) reg

/-- The line check: the register preset to all ones, over the bytes in order. DESIGN CHOICE (log entry
24): the register is shifted toward its least significant bit, as the bits are fed, and its value after
the last byte is the number sent, with no inversion. -/
def lineCheck (bs : List Byte) : BitVec 16 := bs.foldl crcByte 0xFFFF

/-! ### Coding of fields (R183): most significant byte first -/

/-- A two-byte number. -/
def putWord (w : BitVec 16) : List Byte := [w.extractLsb' 8 8, w.extractLsb' 0 8]

/-- A cartridge id, 5 bytes. -/
def putCart (c : Cart) : List Byte :=
  [c.extractLsb' 32 8, c.extractLsb' 24 8, c.extractLsb' 16 8, c.extractLsb' 8 8,
    c.extractLsb' 0 8]

/-- A transfer id, 2 bytes. -/
def putTid (t : Tid) : List Byte := [t.origin, t.oseq]

/-- A flag, 1 byte. -/
def putFlag (b : Bool) : List Byte := [if b then 1 else 0]

/-- An optional field: a presence byte, then the field if present. -/
def putOpt {α : Type} (f : α → List Byte) : Option α → List Byte
  | none => [0]
  | some x => 1 :: f x

/-- A number of one byte. -/
def putNat8 (n : Nat) : List Byte := [BitVec.ofNat 8 n]

/-- A number of two bytes. -/
def putNat16 (n : Nat) : List Byte := putWord (BitVec.ofNat 16 n)

/-- Reading one byte. -/
def getByte : List Byte → Option (Byte × List Byte)
  | x :: r => some (x, r)
  | [] => none

/-- Reading a two-byte number. -/
def getWord : List Byte → Option (BitVec 16 × List Byte)
  | a :: b :: r => some (a ++ b, r)
  | _ => none

/-- Reading a cartridge id. -/
def getCart : List Byte → Option (Cart × List Byte)
  | a :: b :: c :: d :: e :: r => some (a ++ b ++ c ++ d ++ e, r)
  | _ => none

/-- Reading a transfer id. -/
def getTid : List Byte → Option (Tid × List Byte)
  | a :: b :: r => some (⟨a, b⟩, r)
  | _ => none

/-- Reading an optional field; a presence byte other than 0 is taken as present (log entry 14). -/
def getOpt {α : Type} (f : List Byte → Option (α × List Byte)) :
    List Byte → Option (Option α × List Byte)
  | [] => none
  | p :: r => if p = 0 then some (none, r) else (f r).map fun q => (some q.1, q.2)

/-! ### STATUS and FIRE-REPORT bodies -/

/-- The role bit of STATUS: 0 BAY, 1 HATCH. -/
def Role.bit : Role → Bool
  | .bay => false
  | .hatch => true

/-- The excursion bits of STATUS. -/
def Excursion.bits : Excursion → BitVec 2
  | .inBand => 0
  | .high => 1
  | .low => 2
  | .sensorFault => 3

/-- The excursion status of its bits. -/
def Excursion.ofBits (b : BitVec 2) : Excursion :=
  match b.toNat with
  | 0 => .inBand
  | 1 => .high
  | 2 => .low
  | _ => .sensorFault

/-- Byte 0 of a STATUS body and the byte of a FIRE-REPORT share their lower seven bits. -/
def fireByte (top lock zoneB zoneA : Bool) (fire : BitVec 4) : Byte :=
  BitVec.ofBool top ++ BitVec.ofBool lock ++ BitVec.ofBool zoneB ++ BitVec.ofBool zoneA ++ fire

/-- Byte 1 of a STATUS body. -/
def statusByte1 (b : StatusBody) : Byte :=
  BitVec.ofBool b.filtered.isSome ++ BitVec.ofBool b.neighbourSeal ++ BitVec.ofBool b.sealedFlag
    ++ BitVec.ofBool b.sensorFault ++ BitVec.ofBool b.stall ++ BitVec.ofBool b.battery
    ++ BitVec.ofBool b.loopShort ++ BitVec.ofBool b.loopOpen

/-- Byte 2 of a STATUS body. -/
def statusByte2 (b : StatusBody) : Byte :=
  (0 : BitVec 2) ++ b.excursion.bits ++ b.occupancy

/-- The 9 bytes of a STATUS body (R182). -/
def putStatus (b : StatusBody) : List Byte :=
  [fireByte b.role.bit b.lock b.zoneB b.zoneA b.fire, statusByte1 b, statusByte2 b, b.demand]
    ++ putWord (b.filtered.getD 0) ++ putWord b.places ++ [b.interval]

/-- A STATUS body from its first 9 bytes (R182). -/
def getStatus : List Byte → Option StatusBody
  | b0 :: b1 :: b2 :: b3 :: b4 :: b5 :: b6 :: b7 :: b8 :: _ =>
    some
      { fire := b0.extractLsb' 0 4
        zoneA := b0.getLsbD 4
        zoneB := b0.getLsbD 5
        lock := b0.getLsbD 6
        role := if b0.getLsbD 7 then .hatch else .bay
        loopOpen := b1.getLsbD 0
        loopShort := b1.getLsbD 1
        battery := b1.getLsbD 2
        stall := b1.getLsbD 3
        sensorFault := b1.getLsbD 4
        sealedFlag := b1.getLsbD 5
        neighbourSeal := b1.getLsbD 6
        filtered := if b1.getLsbD 7 then some (b4 ++ b5) else none
        occupancy := b2.extractLsb' 0 4
        excursion := Excursion.ofBits (b2.extractLsb' 4 2)
        demand := b3
        places := b6 ++ b7
        interval := b8 }
  | _ => none

/-- The byte of a FIRE-REPORT body (R183). -/
def putFireReport (b : FireReportBody) : List Byte :=
  [fireByte b.manual b.lock b.zoneB b.zoneA b.fire]

/-- A FIRE-REPORT body from its byte (R183). -/
def getFireReport : List Byte → Option FireReportBody
  | b0 :: _ =>
    some
      { fire := b0.extractLsb' 0 4
        zoneA := b0.getLsbD 4
        zoneB := b0.getLsbD 5
        lock := b0.getLsbD 6
        manual := b0.getLsbD 7 }
  | [] => none

/-! ### Details of replies (R183): the fields the rule names, in its order -/

/-- The place of an audit mark in its list. -/
def Mark.code : Mark → Byte
  | .matched => 0
  | .mismatch => 1

/-- The place of a record state in its list (Chapter 6). -/
def Rec.stateCode : Rec → Nat
  | .vacant => 0
  | .filed _ => 1
  | .out .. => 2
  | .departing .. => 3
  | .reserved .. => 4
  | .placing .. => 5
  | .stray => 6
  | .unknown | .unsettled => 7

/-- The place of a transfer state in its list (Chapter 8). DESIGN CHOICE (log entry 14): the sending and
the receiving states are counted on as one list. -/
def XferState.code : XferState → Byte
  | .offered => 0
  | .accepted => 1
  | .unanswered => 2
  | .lapsed => 3
  | .refused => 4
  | .expected => 5
  | .arrived => 6
  | .placing => 7

/-- The place of a custody state in its list (Chapter 9). -/
def CustodyState.code : CustodyState → Byte
  | .heldOutbound => 0
  | .inDrawer => 1
  | .heldInbound => 2
  | .outgoing => 3

/-- Presence as coded: PRESENT 0, EMPTY 1; a presence of none takes the next place (log entry 14). -/
def presenceCode : Option Bool → Byte
  | some true => 0
  | some false => 1
  | none => 2

/-- The image of a record (R103): slot, presence, state, held, condition DAMAGED, then the fields a
record may hold, in the order of the record's table. DESIGN CHOICE (log entry 14): the condition is a flag
after the held one, and a sound record's image carries it too, clear. -/
def putRecordImage (i : RecordImage) : List Byte :=
  putNat8 i.slot ++ [presenceCode i.presence] ++ putNat8 i.state ++ putFlag i.held
    ++ putFlag i.damaged ++ putOpt putCart i.cart ++ putOpt putFlag i.unplanned
    ++ putOpt putNat16 i.exposure ++ putOpt putNat16 i.acclim ++ putOpt putFlag i.inspect
    ++ putOpt (fun m => [Mark.code m]) i.mark ++ putOpt putTid i.tref

/-- The image of a transfer entry (R145). -/
def putXferImage (i : XferImage) : List Byte :=
  putTid i.tid ++ putCart i.cart ++ [if i.receiving then 1 else 0] ++ [i.peer] ++ putWord i.job
    ++ [i.direction.code] ++ [i.state.code] ++ putNat8 i.attempts
    ++ putOpt (fun t => putNat8 t.1 ++ putOpt putNat16 t.2) i.transit
    ++ putOpt (fun s => [s]) i.acceptedSlot ++ putOpt putNat8 i.slot ++ putOpt putCart i.custody

/-- A detail (R183). -/
def Detail.bytes : Detail → List Byte
  | .slot n => putNat8 n
  | .counts a b c => putNat16 a ++ putNat16 b ++ putNat16 c
  | .cursorCounts n a b c => (n.map putNat8).getD [] ++ putNat16 a ++ putNat16 b ++ putNat16 c
  | .number n => putNat16 n
  | .record i => putRecordImage i
  | .transfer i => putXferImage i
  | .custody s j d => [0, s.code] ++ putWord j ++ putOpt (fun a => [a]) d
  | .expected j d => [1] ++ putWord j ++ [d]
  | .raw bs => bs

/-! ### Bodies -/

/-- The kind number of a body (R175), in the order of the catalogue. -/
def Body.kind : Body → Byte
  | .status _ => 1
  | .fireReport _ => 2
  | .discharge _ => 3
  | .custodyAlert _ => 4
  | .offer .. => 5
  | .accept .. => 6
  | .refuse .. => 7
  | .arrive _ => 8
  | .claim _ => 9
  | .close .. => 10
  | .withdraw _ => 11
  | .handover _ => 12
  | .checkout .. => 13
  | .checkin .. => 14
  | .cancel _ => 15
  | .holdSet .. => 16
  | .inspectClear _ => 17
  | .audit .. => 18
  | .restore => 19
  | .occupancyClear => 20
  | .query _ => 21
  | .restart => 22
  | .reply _ => 23

/-- The body of a message, coded field by field in the order of the catalogue (R183). -/
def Body.bytes : Body → List Byte
  | .status b => putStatus b
  | .fireReport b => putFireReport b
  | .discharge m => [m]
  | .custodyAlert b =>
    [b.kind] ++ putOpt (fun x => [x]) b.slot ++ putOpt putCart b.cart ++ putOpt putCart b.cart2
      ++ putOpt putTid b.tid ++ putOpt (fun x => [x]) b.reason
  | .offer t c j d => putTid t ++ putCart c ++ putWord j ++ [d]
  | .accept t s => putTid t ++ putOpt (fun x => [x]) s
  | .refuse t r => putTid t ++ [r]
  | .arrive t => putTid t
  | .claim c => putCart c
  | .close t c j => putTid t ++ putCart c ++ putOpt putWord j
  | .withdraw t => putTid t
  | .handover b =>
    putWord b.job ++ [b.direction, b.handed, b.remaining, b.outcome]
      ++ putOpt (fun x => [x]) b.reason
  | .checkout c j h => putCart c ++ putWord j ++ [h]
  | .checkin j c d => putWord j ++ putCart c ++ [d]
  | .cancel c => putCart c
  | .holdSet e d c m => [e, d, c, m]
  | .inspectClear (.slot n) => [0, n]
  | .inspectClear .all => [1]
  | .inspectClear (.other x) => [x]
  | .audit f l => [f, l]
  | .restore => []
  | .occupancyClear => []
  | .query (.slot n) => [0, n]
  | .query (.cart c) => 1 :: putCart c
  | .query (.transfer t) => 2 :: putTid t
  | .query (.other x) => [x]
  | .restart => []
  | .reply b => [b.kind, b.seq, b.outcome] ++ putOpt Detail.bytes b.detail

/-- A received CUSTODY-ALERT body. -/
def getAlert (bs : List Byte) : Option AlertBody :=
  (getByte bs).bind fun k =>
  (getOpt getByte k.2).bind fun s =>
  (getOpt getCart s.2).bind fun c =>
  (getOpt getCart c.2).bind fun c2 =>
  (getOpt getTid c2.2).bind fun t =>
  (getOpt getByte t.2).map fun r =>
    { kind := k.1, slot := s.1, cart := c.1, cart2 := c2.1, tid := t.1, reason := r.1 }

/-- A received HANDOVER body. -/
def getHandover (bs : List Byte) : Option HandoverBody :=
  (getWord bs).bind fun j =>
  (getByte j.2).bind fun d =>
  (getByte d.2).bind fun h =>
  (getByte h.2).bind fun r =>
  (getByte r.2).bind fun o =>
  (getOpt getByte o.2).map fun a =>
    { job := j.1, direction := d.1, handed := h.1, remaining := r.1, outcome := o.1,
      reason := a.1 }

/-- A received REPLY body; a station makes no use of its detail. One that says a detail is present and
holds no byte of it is too short (R174), since every detail has one. DESIGN CHOICE (log entry 14): the
bytes that follow are else taken as the detail, whose fields are the requester's to know. -/
def getReply : List Byte → Option ReplyBody
  | k :: q :: o :: p :: r =>
    if p = (0 : Byte) then some { kind := k, seq := q, outcome := o, detail := none }
    else if r.isEmpty then none
    else some { kind := k, seq := q, outcome := o, detail := some (.raw r) }
  | _ => none

/-- What a received INSPECT-CLEAR names. -/
def getClearSel : List Byte → Option ClearSel
  | [] => none
  | c :: r =>
    if c = 0 then (getByte r).map fun n => .slot n.1
    else if c = 1 then some .all else some (.other c)

/-- What a received QUERY names. -/
def getQuerySel : List Byte → Option QuerySel
  | [] => none
  | c :: r =>
    if c = 0 then (getByte r).map fun n => .slot n.1
    else if c = 1 then (getCart r).map fun n => .cart n.1
    else if c = 2 then (getTid r).map fun n => .transfer n.1
    else some (.other c)

/-- The body of a kind from its bytes: none where the kind is not one of the 23 or the bytes are too
few for its fields (R174). Bytes beyond its fields are ignored. -/
def Body.ofBytes (kind : Byte) (bs : List Byte) : Option Body :=
  match kind.toNat with
  | 1 => (getStatus bs).map .status
  | 2 => (getFireReport bs).map .fireReport
  | 3 => (getByte bs).map fun m => .discharge m.1
  | 4 => (getAlert bs).map .custodyAlert
  | 5 =>
    (getTid bs).bind fun t => (getCart t.2).bind fun c => (getWord c.2).bind fun j =>
    (getByte j.2).map fun d => .offer t.1 c.1 j.1 d.1
  | 6 => (getTid bs).bind fun t => (getOpt getByte t.2).map fun s => .accept t.1 s.1
  | 7 => (getTid bs).bind fun t => (getByte t.2).map fun r => .refuse t.1 r.1
  | 8 => (getTid bs).map fun t => .arrive t.1
  | 9 => (getCart bs).map fun c => .claim c.1
  | 10 =>
    (getTid bs).bind fun t => (getCart t.2).bind fun c => (getOpt getWord c.2).map fun j =>
    .close t.1 c.1 j.1
  | 11 => (getTid bs).map fun t => .withdraw t.1
  | 12 => (getHandover bs).map .handover
  | 13 =>
    (getCart bs).bind fun c => (getWord c.2).bind fun j => (getByte j.2).map fun h =>
    .checkout c.1 j.1 h.1
  | 14 =>
    (getWord bs).bind fun j => (getCart j.2).bind fun c => (getByte c.2).map fun d =>
    .checkin j.1 c.1 d.1
  | 15 => (getCart bs).map fun c => .cancel c.1
  | 16 =>
    (getByte bs).bind fun e => (getByte e.2).bind fun d => (getByte d.2).bind fun c =>
    (getByte c.2).map fun m => .holdSet e.1 d.1 c.1 m.1
  | 17 => (getClearSel bs).map .inspectClear
  | 18 => (getByte bs).bind fun f => (getByte f.2).map fun l => .audit f.1 l.1
  | 19 => some .restore
  | 20 => some .occupancyClear
  | 21 => (getQuerySel bs).map .query
  | 22 => some .restart
  | 23 => (getReply bs).map .reply
  | _ => none

/-! ### Frames (R174, R175) -/

/-- A message as a frame carries it. -/
structure RxMsg where
  dest : Addr
  src : Addr
  seq : Byte
  body : Body
  deriving DecidableEq, Repr

/-- The frame of a message: header, body, check, the check's most significant byte first. -/
def frameOf (m : RxMsg) : List Byte :=
  let body := m.body.bytes
  let covered := [m.dest, m.src, m.body.kind, m.seq, BitVec.ofNat 8 body.length] ++ body
  covered ++ putWord (lineCheck covered)

/-- The judging of a frame (R174): its length is 7 to 47, its stated body length is its body's, its
check agrees, its kind is one of the 23, its body is long enough. -/
def parseFrame (bs : List Byte) : Option RxMsg :=
  if bs.length < 7 ∨ 47 < bs.length then none
  else match bs with
    | dest :: src :: kind :: seq :: len :: rest =>
      if len.toNat ≠ rest.length - 2 then none
      else
        let body := rest.take (rest.length - 2)
        if rest.drop (rest.length - 2) ≠ putWord (lineCheck ([dest, src, kind, seq, len] ++ body))
        then none
        else (Body.ofBytes kind body).map fun b => { dest := dest, src := src, seq := seq, body := b }
    | _ => none

end Sys2Proof
end

