-- ==== Sys2Proof/Machine/Ops.lean ====
section
/-! DEFINITION. The operations every block uses: running a command's effect, the transmit queue with
its pending messages (R178, R179), the selection of a message for an attempt (R180), the writes of
the retained collections (R186), and the raw write of a slot record (R88). -/

namespace Sys2Proof

/-- A command whose effect on the station is `f`: the next state, the queue of commands untouched. -/
def Machine.State.run (f : Station → Station) (s : Machine.State) :
    Host.Outcome Machine.State Machine.Fault Machine.Refusal :=
  .next { s with station := f s.station }

/-- `f` where the condition holds, no effect elsewhere. -/
def Station.onlyIf (st : Station) (c : Bool) (f : Station → Station) : Station :=
  if c then f st else st

/-! ### Updates of one block -/

/-- The loader block updated. -/
def Station.onLoader (st : Station) (f : Loader → Loader) : Station := { st with loader := f st.loader }

/-- The retention block updated. -/
def Station.onRetention (st : Station) (f : Retention → Retention) : Station := { st with retention := f st.retention }

/-- The pins block updated. -/
def Station.onPins (st : Station) (f : Pins → Pins) : Station := { st with pins := f st.pins }

/-- The moist block updated. -/
def Station.onMoist (st : Station) (f : Moisture → Moisture) : Station := { st with moist := f st.moist }

/-- The air block updated. -/
def Station.onAir (st : Station) (f : DryAir → DryAir) : Station := { st with air := f st.air }

/-- The motion block updated. -/
def Station.onMotion (st : Station) (f : Motion → Motion) : Station := { st with motion := f st.motion }

/-- The det block updated. -/
def Station.onDet (st : Station) (f : Detection → Detection) : Station := { st with det := f st.det }

/-- The supp block updated. -/
def Station.onSupp (st : Station) (f : Suppression → Suppression) : Station := { st with supp := f st.supp }

/-- The door block updated. -/
def Station.onDoor (st : Station) (f : Door → Door) : Station := { st with door := f st.door }

/-- The table block updated. -/
def Station.onTable (st : Station) (f : SlotTable → SlotTable) : Station := { st with table := f st.table }

/-- The pulls block updated. -/
def Station.onPulls (st : Station) (f : PullQueue → PullQueue) : Station := { st with pulls := f st.pulls }

/-- The audit block updated. -/
def Station.onAudit (st : Station) (f : Audit → Audit) : Station := { st with audit := f st.audit }

/-- The xfer block updated. -/
def Station.onXfer (st : Station) (f : Transfers → Transfers) : Station := { st with xfer := f st.xfer }

/-- The hatch block updated. -/
def Station.onHatch (st : Station) (f : Hatch → Hatch) : Station := { st with hatch := f st.hatch }

/-- The peers block updated. -/
def Station.onPeers (st : Station) (f : PeerView → PeerView) : Station := { st with peers := f st.peers }

/-- The line block updated. -/
def Station.onLine (st : Station) (f : Line → Line) : Station := { st with line := f st.line }

/-! ### The transmit queue -/

/-- The three groups of messages (section 11.3). -/
inductive Group where
  | fire
  | custody
  | routine
  deriving DecidableEq, Repr

/-- The group of a body (section 11.3). -/
def Body.group : Body → Group
  | .status _ => .routine
  | .fireReport _ | .discharge _ => .fire
  | .custodyAlert _ | .offer .. | .accept .. | .refuse .. | .arrive _ | .claim _ | .close ..
  | .withdraw _ | .handover _ | .checkout .. | .checkin .. | .cancel _ | .holdSet ..
  | .inspectClear _ | .audit .. | .restore | .occupancyClear | .query _ | .restart
  | .reply _ => .custody

/-- A STATUS message. -/
def Body.isStatus : Body → Bool
  | .status _ => true
  | _ => false

/-- A FIRE-REPORT message. -/
def Body.isFireReport : Body → Bool
  | .fireReport _ => true
  | _ => false

/-- The message an attempt concerns. -/
def Attempt.message (a : Attempt) : Option Nat :=
  match a with
  | Attempt.none => Option.none
  | Attempt.waiting m _ => some m
  | Attempt.sending m _ => some m

/-- A removed message's attempt stops: neither a failure nor a success, and no backoff is due
(R178). DEDUCED (log entry 22): one that was due is due no longer, in LINE-FAULT too. -/
def Line.stopAttempt (l : Line) (made : Nat) : Line :=
  if l.attempt.message = some made then { l with attempt := .none, backoff := false } else l

/-- A message leaves the queue (R178). -/
def Line.remove (l : Line) (made : Nat) : Line :=
  { l.stopAttempt made with queue := l.queue.filter fun q => decide (q.made ≠ made) }

/-- A message joins at the end of its group and takes the next sender sequence (R178). The queue is
kept in order of joining, which is the order within each group. -/
def Line.append (l : Line) (p : Pend) : Line :=
  { l with
    seq := l.seq + 1
    queue := l.queue ++
      [{ made := p.made, blk := p.blk, dest := p.dest, seq := l.seq + 1, body := p.body }] }

/-- The oldest queued message of a group (R180 step 1). -/
def Line.oldest (l : Line) (g : Group) : Option QMsg :=
  l.queue.find? fun q => decide (q.body.group = g)

/-- The newest queued message of a group (R179). -/
def Line.newest (l : Line) (g : Group) : Option QMsg :=
  l.queue.reverse.find? fun q => decide (q.body.group = g)

/-- The message selected for an attempt (R180 step 1). -/
def Line.choose (l : Line) (order : TxOrder) : Option QMsg :=
  match l.oldest .fire with
  | some q => some q
  | none =>
    match order with
    | .custodyFirst => (l.oldest .custody).or (l.oldest .routine)
    | .routineFirst => (l.oldest .routine).or (l.oldest .custody)

/-- The class base of a group (R180 step 2). -/
def Group.base : Group → Nat
  | .fire => 0
  | .custody => 2
  | .routine => 4

/-- The access delay beyond the idle point, in bit times (R180 step 2). -/
def accessDelay (own : Addr) (g : Group) (backoff : Bool) : Ticks :=
  (g.base + own.toNat % 8) * 8 + (if backoff then (own.toNat + 1) * 8 else 0)

/-- Selection of a message when the line is idle and no attempt is under way (R180 steps 1 and 2);
in LINE-FAULT only where a timer expiry permits one attempt (R181). -/
def Line.select (l : Line) (own : Addr) (order : TxOrder) : Line :=
  if l.idle && decide (l.attempt = .none) && (decide (l.state = .normal) || l.permit) then
    match l.choose order with
    | some q =>
      { l with attempt := .waiting q.made (accessDelay own q.body.group l.backoff), permit := false }
    | none => l
  else l

/-- The line interface selects where it may: the station is JOINED (R180). -/
def Station.select (st : Station) : Station :=
  st.onlyIf st.joined fun st => st.onLine fun l => l.select st.loader.own st.cfg.txOrder

/-- The transfer whose reply a message awaits: an OFFER's or an ARRIVE's (R126). -/
def Body.timedTid : Body → Option Tid
  | .offer t _ _ _ => some t
  | .arrive t => some t
  | _ => none

/-- The reply timer is loaded when the queue takes the OFFER or ARRIVE it times (R126), and runs in
OFFERED and ARRIVED alone (R129). -/
def Station.loadReply (st : Station) (t : Tid) : Station :=
  st.onXfer fun x =>
    { x with
      entries := x.entries.map fun e =>
        if e.tid = t ∧ (e.state = .offered ∨ e.state = .arrived)
        then { e with reply := some (ticksOfSec 1) } else e }

/-- The queue takes a message: it joins, its reply timer if any is loaded, and the line interface
selects where the line is idle already (R178, R126, R180). -/
def Station.join (st : Station) (p : Pend) : Station :=
  let st := st.onLine (·.append p)
  let st := match p.body.timedTid with
    | some t => st.loadReply t
    | none => st
  st.select

/-- The lowest-numbered slot whose damage report is pending, with the report's number (R90). -/
def Station.firstDamage (st : Station) : Option (Nat × Nat) :=
  st.table.slots.zipIdx.findSome? fun p =>
    match p.1.damage with
    | .pending m => some (p.2, m)
    | .none | .sent => none

/-- One slot rewritten. -/
def SlotTable.modify (t : SlotTable) (n : Nat) (f : Slot → Slot) : SlotTable :=
  { t with slots := t.slots.modify n f }

/-- One slot of the station's table rewritten. -/
def Station.modifySlot (st : Station) (n : Nat) (f : Slot → Slot) : Station :=
  st.onTable (·.modify n f)

/-- The DAMAGED-RECORD alert of a slot: the slot and the stored cartridge id if any (R90). -/
def Station.damageAlert (st : Station) (n : Nat) : Body :=
  .custodyAlert
    (alertBody .damagedRecord (some n) ((st.table.slot n).record.cart.map CartData.id))

/-- The queue takes a damage report, which becomes SENT (R90). -/
def Station.takeDamage (st : Station) (d : Nat × Nat) : Station :=
  (st.modifySlot d.1 fun sl => { sl with damage := .sent }).join
    { made := d.2, blk := .slotTable, dest := allAddr, body := st.damageAlert d.1 }

/-- The queue takes the first pending message (R179). -/
def Station.takePend (st : Station) (p : Pend) (rest : List Pend) : Station :=
  (st.onLine fun l => { l with pend := rest }).join p

/-- A free place of the queue offered: to a displaced message first, else to the message made earliest
of the first pending message of the blocks and the first pending damage report (R179, R90). None where
there is no place, no message, or the station is not JOINED. -/
def Station.placeOffer (st : Station) : Option Station :=
  if !st.joined ∨ 16 ≤ st.line.queue.length then none
  else match st.line.pend, st.firstDamage with
    | [], none => none
    | p :: rest, none => some (st.takePend p rest)
    | [], some d => some (st.takeDamage d)
    | p :: rest, some d =>
      if p.again || decide (p.made ≤ d.2) then some (st.takePend p rest) else some (st.takeDamage d)

/-- Free places are offered one after the other (R179). -/
def Station.offerUpTo : Nat → Station → Station
  | 0, st => st
  | k + 1, st =>
    match st.placeOffer with
    | some st' => Station.offerUpTo k st'
    | none => st

/-- All free places are offered: 16 offers fill any queue. -/
def Station.offerPlaces (st : Station) : Station := Station.offerUpTo 16 st

/-- A number taken among the messages made. -/
def Station.numbered (st : Station) : Station := st.onLine fun l => { l with made := l.made + 1 }

/-- A block hands a message of the CUSTODY group to the line interface: behind those pending, or
into the queue at once (R178, R179). Outside JOINED it is discarded as it is made. -/
def Station.hand (st : Station) (blk : Blk) (dest : Addr) (body : Body) : Station :=
  st.onlyIf st.joined fun st =>
    (st.onLine fun l =>
      { l with
        pend := l.pend ++ [{ made := l.made, blk := blk, dest := dest, body := body }]
        made := l.made + 1 }).offerPlaces

/-- A pending message counts among the pending alerts of a block: a CUSTODY-ALERT of the door unit's or
the slot table's own (R83, R95). A DAMAGED-RECORD alert that was displaced is none of them, since a
damage report is handed as R90 gives. -/
def Pend.isAlertOf (p : Pend) (blk : Blk) : Bool :=
  match p.body with
  | .custodyAlert a => decide (p.blk = blk) && decide (a.kind ≠ AlertKind.damagedRecord.code)
  | _ => false

/-- An alert of the door unit or the slot table: discarded while the block's pending alerts number
256 (R83, R95). -/
def Station.handAlert (st : Station) (blk : Blk) (b : AlertBody) : Station :=
  st.onlyIf (decide ((st.line.pend.filter (·.isAlertOf blk)).length < 256))
    (·.hand blk allAddr (.custodyAlert b))

/-- A REPLY to a console, made by the block that answers (R179, R182). -/
def Station.reply (st : Station) (blk : Blk) (console : Addr) (kind seq : Byte)
    (o : ReplyOutcome) (detail : Option Detail := none) : Station :=
  st.hand blk console (.reply { kind := kind, seq := seq, outcome := o.code, detail := detail })

/-- A message of the station's own that is handed on without waiting, numbered as it is made. -/
def Line.appendNew (l : Line) (blk : Blk) (body : Body) : Line :=
  { l.append { made := l.made, blk := blk, dest := allAddr, body := body } with made := l.made + 1 }

/-- The message a FIRE message displaces from a full queue: the newest ROUTINE one, or with none the
newest CUSTODY one (R179). -/
def Line.displaced (l : Line) : Option QMsg := (l.newest .routine).or (l.newest .custody)

/-- A displaced message leaves the queue; one of the CUSTODY group goes back to its block, ahead of
all that is pending (R179). DESIGN CHOICE (log entry 10): an alert that goes back to a block which holds
256 pending alerts (R83, R95) is kept beside them, and none of them is discarded for it. -/
def Line.displace (l : Line) (q : QMsg) : Line :=
  let l := l.remove q.made
  if q.body.group = .custody then
    { l with
      pend := { made := q.made, blk := q.blk, dest := q.dest, body := q.body, again := true } :: l.pend }
  else l

/-- A FIRE message offered (R178, R179): a FIRE-REPORT replaces one that is queued; else it joins,
displacing a message where the queue is full. A queue full of FIRE messages, which R179 says cannot
arise, takes no further one. -/
def Line.offerFire (l : Line) (body : Body) : Line :=
  match l.queue.find? (fun q => body.isFireReport && q.body.isFireReport) with
  | some old => (l.remove old.made).appendNew .suppression body
  | none =>
    if l.queue.length < 16 then l.appendNew .suppression body
    else match l.displaced with
      | some q => (l.displace q).appendNew .suppression body
      | none => l

/-- A STATUS offered (R178, R179): it replaces one that is queued; else it joins, or is dropped by a
full queue. -/
def Line.offerStatus (l : Line) (body : Body) : Line :=
  match l.queue.find? (fun q => q.body.isStatus) with
  | some old => (l.remove old.made).appendNew .line body
  | none => if l.queue.length < 16 then l.appendNew .line body else l

/-- The suppression controller hands a FIRE message to the line interface, in JOINED alone (R55). -/
def Station.handFire (st : Station) (body : Body) : Station :=
  st.onlyIf st.joined fun st => (st.onLine (·.offerFire body)).select

/-- The FIRE-REPORT of the station as it stands (R55). -/
def Station.fireReportBody (st : Station) : FireReportBody where
  fire := st.supp.fire.code
  zoneA := st.det.zoneA
  zoneB := st.det.zoneB
  lock := st.supp.lock
  manual := st.supp.manual

/-- The FIRE-REPORT that follows a change of fire state (R55). -/
def Station.handFireReport (st : Station) : Station :=
  st.handFire (.fireReport st.fireReportBody)

/-! ### Writes of the retained collections: each makes its check agree afresh (R186) -/

/-- The pull queue's entries written. -/
def Station.setPulls (st : Station) (es : List PullEntry) : Station :=
  st.onPulls fun p => { p with entries := es, check := 0 }

/-- The transfer table's entries written. -/
def Station.setXfers (st : Station) (es : List XferEntry) : Station :=
  st.onXfer fun x => { x with entries := es, check := 0 }

/-- The hatch custody list written. -/
def Station.setCustody (st : Station) (es : List CustodyEntry) : Station :=
  st.onHatch fun h => { h with custody := es, custodyCheck := 0 }

/-- The inbound expected list written. -/
def Station.setExpected (st : Station) (es : List ExpectedEntry) : Station :=
  st.onHatch fun h => { h with expected := es, expectedCheck := 0 }

/-- The occupancy list written. -/
def Station.setOccupancy (st : Station) (ids : List Cart) : Station :=
  st.onDoor fun d => { d with occupancy := ids, check := 0 }

/-- A slot record written: its check agrees afresh, and its damage report is NONE (R88, R90). -/
def Station.putRecord (st : Station) (n : Nat) (r : Rec) : Station :=
  st.modifySlot n fun sl => { sl with record := r, difference := 0, damage := .none }

/-! ### The session and the lamps -/

/-- The courier session updated. -/
def Station.onSession (st : Station) (f : Session → Session) : Station :=
  st.onHatch fun h => { h with session := f h.session }

/-- The transfer engine's lamp request for a slot (R96); `off` withdraws it. DESIGN CHOICE (log entry 18):
the engine has one request for a slot, and its latest takes the place of an earlier one, so the on of a
place (R132) ends the flashing for a REFUSED entry that names the same slot. -/
def Station.askLamp (st : Station) (n : Nat) (l : Lamp) : Station :=
  st.onXfer fun x =>
    let others := x.lamps.filter fun p => decide (p.1 ≠ n)
    { x with lamps := if l = .off then others else others ++ [(n, l)] }

/-- The transfer engine withdraws its lamp request for the slot of an entry, if it has one. -/
def Station.withdrawLamp (st : Station) (slot : Option Nat) : Station :=
  match slot with
  | some n => st.askLamp n .off
  | none => st

end Sys2Proof
end

