-- ==== Sys2Proof/Machine/Motion.lean ====
section
/-! DEFINITION. The motion channel (sections 2.5 and 2.7), one machine in both roles. An operation
that may bring an arrival or a stall answers it as a report, which R37 gives the channel's owner. -/

namespace Sys2Proof

/-- What the channel reports to its owner (R37). -/
inductive Report where
  | arrived (e : MotionEnd)
  | stalled (c : StallCause)
  deriving DecidableEq, Repr

/-- The dead time (R31). -/
def deadTime : Ticks := ticksOfMs 500

/-- Both coils off: the dead-time timer is loaded if one was on, and the travel timer stops (R31). -/
def Motion.coilsOff (m : Motion) : Motion :=
  { m with
    coilA := false, coilB := false, travel := none
    dead := if m.coilA || m.coilB then some deadTime else m.dead }

/-- The channel takes an end's resting state (R33). -/
def Motion.rest (m : Motion) (e : MotionEnd) : Motion :=
  { m.coilsOff with state := .resting e, cause := none }

/-- The channel enters STALLED with a cause (R34, R35). -/
def Motion.stall (m : Motion) (c : StallCause) : Motion :=
  { m.coilsOff with state := .stalled, cause := some c }

/-- The coil of an end comes on and the travel timer is loaded (R31). -/
def Motion.switchOn (m : Motion) (e : MotionEnd) (limit : Ticks) : Motion :=
  { m with coilA := decide (e = .a), coilB := decide (e = .b), travel := some limit }

/-- The channel holds a moving state with both coils off: its drive is pending (R31). -/
def Motion.pending (m : Motion) : Option MotionEnd :=
  match m.state with
  | .moving e => if m.coilA || m.coilB then none else some e
  | .resting _ | .stalled => none

/-- A drive that comes due (R31); with a flap open it is a stop event instead (R161). -/
def Station.driveDue (st : Station) (e : MotionEnd) : Station × Option Report :=
  if st.flapBlocks then (st.onMotion (·.stall .interlock), some (.stalled .interlock))
  else (st.onMotion (·.switchOn e (ticksOfSec st.travelLimit)), none)

/-- The moving state toward an end with its coil driven, at once or pending while the dead time runs
(R31, R32, R36). -/
def Station.startDrive (st : Station) (e : MotionEnd) : Station × Option Report :=
  let st := st.onMotion fun m => { m.coilsOff with state := .moving e, cause := none }
  if st.motion.dead.isSome then (st, none) else st.driveDue e

/-- The channel rests at an end and reports it (R33, R37). -/
def Station.arriveAt (st : Station) (e : MotionEnd) : Station × Option Report :=
  (st.onMotion (·.rest e), some (.arrived e))

/-- A command given to the channel (R32). -/
def Station.command (st : Station) (e : MotionEnd) : Station × Option Report :=
  let st := st.onMotion fun m => { m with last := some e }
  match st.motion.state with
  | .moving e' => if e' = e then (st, none) else st.startDrive e
  | .resting e' =>
    if e' = e then (st, none)
    else if st.arrivalHolds e then st.arriveAt e else st.startDrive e
  | .stalled => if st.arrivalHolds e then st.arriveAt e else st.startDrive e

/-- The arrival condition of an end comes to hold (R33, R160). -/
def Station.arrivalComes (st : Station) (e : MotionEnd) : Station × Option Report :=
  match st.motion.state with
  | .moving e' => if e' = e then st.arriveAt e else (st, none)
  | .stalled => if st.motion.last = some e then st.arriveAt e else (st, none)
  | .resting _ => (st, none)

/-- The load leaves the end it rests at (R36, R160). -/
def Station.loadLeaves (st : Station) (e : MotionEnd) : Station × Option Report :=
  if st.motion.state = .resting e then st.startDrive e else (st, none)

/-- A stop event with the cause its owner names (R35). -/
def Station.stopEvent (st : Station) (c : StallCause) : Station × Option Report :=
  match st.motion.state with
  | .moving _ => (st.onMotion (·.stall c), some (.stalled c))
  | .resting _ | .stalled => (st, none)

/-- The travel timer's expiry (R34). -/
def Station.travelExpired (st : Station) : Station × Option Report :=
  if st.motion.travel.isSome then (st.onMotion (·.stall .travel), some (.stalled .travel))
  else (st, none)

/-- The dead-time timer's expiry (R31): a pending drive comes due. -/
def Station.deadExpired (st : Station) : Station × Option Report :=
  if st.motion.dead.isSome then
    let st := st.onMotion fun m => { m with dead := none }
    match st.motion.pending with
    | some e => st.driveDue e
    | none => (st, none)
  else (st, none)

/-- The motion channel at any start (R39): coils off, the dead time loaded, no command, no cause,
the state from the end switches. -/
def Station.startMotion (st : Station) : Station :=
  st.onMotion fun _ =>
    { state := st.motionFromSwitches, last := none, coilA := false, coilB := false,
      dead := some deadTime, travel := none, cause := none }

/-- The end of the channel an end switch stands at in a role; none where the role has no such
switch (section 2.5). -/
def EndSwitch.motionEnd (sw : EndSwitch) (r : Role) : Option MotionEnd :=
  match r, sw with
  | .bay, .openEnd => some .a
  | .bay, .closedEnd => some .b
  | .bay, .innerEnd => none
  | .hatch, .innerEnd => some .b
  | .hatch, .openEnd => none
  | .hatch, .closedEnd => none

/-- The level of an end switch set. -/
def Pins.setSwitch (p : Pins) (sw : EndSwitch) (closed : Bool) : Pins :=
  match sw with
  | .openEnd => { p with openEnd := closed }
  | .closedEnd => { p with closedEnd := closed }
  | .innerEnd => { p with innerEnd := closed }

/-- The level of a flap input set. -/
def Pins.setFlap (p : Pins) (f : Flap) (opened : Bool) : Pins :=
  match f with
  | .inner => { p with innerFlapOpen := opened }
  | .outer => { p with outerFlapOpen := opened }

end Sys2Proof
end

