-- ==== Sys2Proof/Machine/Climate.lean ====
section
/-! DEFINITION. The climate path of a BAY: the moisture unit (Chapter 1) and the dry-air unit
(sections 2.1 to 2.4). -/

namespace Sys2Proof

/-! ### The moisture unit -/

/-- The zero point corrected for temperature (R5). -/
def zeroAt (c : ConfigRecord) (temp : Int) : Int := c.p0 + Int.tdiv ((temp - 250) * c.k) 10

/-- A count that makes a measurement faulted (R6). -/
def countFaulted (c : ConfigRecord) (temp : Int) (p : Nat) : Bool :=
  decide (p < 8000) || decide ((p : Int) < zeroAt c temp - 1000) || decide (c.p100 + 1000 < p)

/-- A quotient rounded to the nearest whole number, one half upward (R7). -/
def roundHalfUp (n d : Int) : Int := (2 * n + d) / (2 * d)

/-- The raw RH of a valid count (R7). -/
def rawOf (c : ConfigRecord) (temp : Int) (p : Nat) : Nat :=
  (max 0 (min 1000 (roundHalfUp (((p : Int) - zeroAt c temp) * 1000) ((c.p100 : Int) - c.p0)))).toNat

/-- One step of the filter (R10). -/
def filterStep (alpha : Nat) (filtered raw : Nat) : Nat :=
  ((filtered : Int) + Int.tdiv ((raw : Int) - filtered) alpha).toNat

/-- The outcome of the classification on one side of the band (R13). -/
def Moisture.outside (m : Moisture) (side : Side) (s : Excursion) (excDelay : Nat) : Moisture :=
  if m.status = s then m
  else match m.delay with
    | some (p, n) =>
      if p = side then { m with delay := some (p, n) }
      else if excDelay = 0 then { m with status := s, delay := none }
      else { m with status := .inBand, delay := some (side, ticksOfSec excDelay) }
    | none =>
      if excDelay = 0 then { m with status := s, delay := none }
      else { m with status := .inBand, delay := some (side, ticksOfSec excDelay) }

/-- The classification of the filtered RH against the band (R13). -/
def Moisture.classify (m : Moisture) (c : ConfigRecord) : Moisture :=
  if m.status = .sensorFault then m
  else match m.filtered with
    | none => { m with status := .inBand, delay := none }
    | some f =>
      if (c.sp + c.band : Nat) < f then m.outside .above .high c.excDelay
      else if f + c.band < c.sp then m.outside .below .low c.excDelay
      else { m with status := .inBand, delay := none }

/-- A faulted measurement (R8, R11). -/
def Moisture.faulted (m : Moisture) : Moisture :=
  let m := { m with faultRun := min 255 (m.faultRun + 1) }
  if m.faultRun = 5 then { m with status := .sensorFault, delay := none } else m

/-- A valid measurement (R9, R10, R12). -/
def Moisture.valid (m : Moisture) (alpha raw : Nat) : Moisture :=
  { m with
    raw := some raw
    filtered := some (match m.filtered with
      | some f => if 5 ≤ m.faultRun then raw else filterStep alpha f raw
      | none => raw)
    faultRun := 0
    status := if m.status = .sensorFault then .inBand else m.status }

/-- A capture's completion judged, filtered and classified (R2, R6 to R13). -/
def Moisture.measure (m : Moisture) (c : ConfigRecord) (count : Option (BitVec 16)) : Moisture :=
  let m := { m with
    capturing := false
    latest := match count with
      | some p => .count p
      | none => .overflow }
  let m := match count with
    | none => m.faulted
    | some p =>
      if countFaulted c m.temp p.toNat then m.faulted
      else m.valid c.alphaDiv (rawOf c m.temp p.toNat)
  m.classify c

/-- The excursion delay timer's expiry (R14). -/
def Moisture.delayExpired (m : Moisture) : Moisture :=
  match m.delay with
  | some (.above, _) => { m with status := .high, delay := none }
  | some (.below, _) => { m with status := .low, delay := none }
  | none => m

/-- A measurement slot begins (R1, R2): the next begins 2 s later. -/
def Moisture.beginSlot (m : Moisture) : Moisture :=
  { m with capturing := true, slotTimer := some (ticksOfSec 2) }

/-- A temperature code taken in (R3). -/
def Moisture.takeTemp (m : Moisture) (code : BitVec 10) : Moisture :=
  match tempOfCode code with
  | some t => { m with temp := t }
  | none => m

/-! ### Demand, share, duty and on-time -/

/-- The demand computed from what the moisture unit hands on (R20). -/
def demandOf (c : ConfigRecord) (m : Moisture) : Nat :=
  if m.status = .sensorFault then c.fallbackDemand
  else match m.handedOn with
    | none => 0
    | some f => min 255 (((f : Int) - ((c.sp : Int) - c.db)).toNat * c.gain / 16)

/-- The demand a peer record adds to the total: that of an ALIVE peer of role BAY (R22, R171). -/
def Peer.bayDemand : Peer → Nat
  | .alive d =>
    match d.roleDemand with
    | some (.bay, n) => n
    | some (.hatch, _) | none => 0
  | .unheard | .lost | .silent _ => 0

/-- The total demand (R22). -/
def Station.totalDemand (st : Station) (d : Nat) : Nat :=
  d + (st.peers.records.map Peer.bayDemand).sum

/-- The share of a demand under a total (R22). -/
def shareOf (c : ConfigRecord) (d total : Nat) : Nat :=
  if d = 0 then 0 else min c.cap (c.capacity * d / total)

/-- The duty of a share, in per-mille (R23). -/
def dutyOf (c : ConfigRecord) (share : Nat) : Nat := min 1000 (share * 1000 / c.vfull)

/-- The valve period in ms. -/
def ConfigRecord.periodMs (c : ConfigRecord) : Nat := c.valvePeriod * 1000

/-- The on-time of a duty, in ms, clamped against MINPULSE (R23). -/
def onTimeOf (c : ConfigRecord) (duty : Nat) : Nat :=
  let t := duty * c.periodMs / 1000
  if t < c.minPulse then 0
  else if c.periodMs - t < c.minPulse then c.periodMs
  else t

/-- The computation of one measurement (R19 to R24): demand, share, duty and on-time, staged. -/
def Station.computeDemand (st : Station) : Station :=
  let d := demandOf st.cfg st.moist
  let s := shareOf st.cfg d (st.totalDemand d)
  st.onAir fun a =>
    { a with demand := d, airShare := s, staged := onTimeOf st.cfg (dutyOf st.cfg s) }

/-! ### The valve -/

/-- The valve as a period start drives it (R25). -/
def DryAir.drive (a : DryAir) (periodMs : Nat) : DryAir :=
  if a.forcedSafe then { a with valve := false, onTimer := none }
  else if a.applied = 0 then { a with valve := false, onTimer := none }
  else if a.applied = periodMs then { a with valve := true, onTimer := none }
  else { a with valve := true, onTimer := some (ticksOfMs a.applied) }

/-- A period start (R25): the timer goes on, the staged on-time is applied, the valve driven. -/
def Station.periodStart (st : Station) : Station :=
  st.onAir fun a =>
    { a with period := some (ticksOfSec st.cfg.valvePeriod), applied := a.staged }.drive
      st.cfg.periodMs

/-- The on-time timer's expiry (R25). -/
def DryAir.onTimeExpired (a : DryAir) : DryAir :=
  if a.onTimer.isSome then { a with valve := false, onTimer := none } else a

/-! ### Forced safe -/

/-- Forced safe should be present (R28). -/
def Station.forcedSafeHolds (st : Station) : Bool := st.confirmed || st.air.sealTimer.isSome

/-- The condition re-evaluated (R27, R28): turning present it cuts the valve and commands the damper
CLOSED; turning absent it commands OPEN; unchanged it does nothing. -/
def Station.evalForcedSafe (st : Station) : Station :=
  if st.forcedSafeHolds = st.air.forcedSafe then st
  else if st.forcedSafeHolds then
    ((st.onAir fun a => { a with forcedSafe := true, valve := false, onTimer := none }).command .b).1
  else ((st.onAir fun a => { a with forcedSafe := false }).command .a).1

/-- A DISCHARGE from a station of the neighbour set (R29). -/
def Station.neighbourDischarge (st : Station) (soakMinutes : Byte) : Station :=
  (st.onAir fun a =>
    { a with sealTimer := some (ticksOfMin (soakOfByte soakMinutes)) }).evalForcedSafe

/-- The neighbour seal timer's expiry (R29). -/
def Station.sealExpired (st : Station) : Station :=
  st.onlyIf st.air.sealTimer.isSome fun st =>
    (st.onAir fun a => { a with sealTimer := none }).evalForcedSafe

end Sys2Proof
end

