-- ==== Sys2Proof/Machine/Pulls.lean ====
section
/-! DEFINITION. The pull queue's shared operations (section 7.1) and the audit's movements of its
cursor (section 7.4), which follow every change of the queue. None of them reads a slot record. -/

namespace Sys2Proof

/-! ### The audit's cursor -/

/-- The lowest slot from `lo` to `hi` whose debounced copy is PRESENT (R116). -/
def SlotTable.firstPresent (t : SlotTable) (lo hi : Nat) : Option Nat :=
  (List.range' lo (hi + 1 - lo)).find? fun n => decide ((t.slot n).debounced = some true)

/-- The step timer's load (R121). -/
def Station.auditStep (st : Station) : Timer := some (ticksOfSec st.cfg.auditStepLimit)

/-- The audit takes the state RUNNING at a slot: its lamp is asked for and the step timer loaded
(R116, R119, R120). -/
def Station.auditAt (st : Station) (n : Nat) : Station :=
  st.onAudit fun a =>
    { a with
      state := .running, cursor := some n, finding := none, strayPending := false,
      step := st.auditStep, lamp := some n }

/-- The audit hands a reply to its requester (R122). -/
def Station.auditReply (st : Station) (o : ReplyOutcome) (d : Detail) : Station :=
  st.reply .pulls st.audit.requester kindAudit st.audit.reqSeq o (some d)

/-- The audit completes: COMPLETE with the counts, and IDLE (R119). DESIGN CHOICE (log entry 23): at IDLE
the range, cursor, counts and requester are cleared as a start clears them (R124). -/
def Station.auditComplete (st : Station) : Station :=
  let st := st.auditReply .complete
    (.counts st.audit.checked st.audit.repaired st.audit.mismatched)
  st.onAudit fun _ => .start

/-- Some pull entry is not in OUT (R120). -/
def Station.pullsWaiting (st : Station) : Bool :=
  st.pulls.entries.any fun e => decide (e.state ≠ .out)

/-- The suspension test (R120): an entry not in OUT suspends a RUNNING audit; none lets a SUSPENDED
one go on at the lowest PRESENT slot from its cursor onward, or complete. -/
def Station.suspensionTest (st : Station) : Station :=
  if st.pullsWaiting then
    st.onlyIf (decide (st.audit.state = .running)) fun st =>
      st.onAudit fun a => { a with state := .suspended, step := none, lamp := none }
  else
    st.onlyIf (decide (st.audit.state = .suspended)) fun st =>
      match st.table.firstPresent (st.audit.cursor.getD st.audit.first) st.audit.last with
      | some n => st.auditAt n
      | none => st.auditComplete

/-- The audit takes the state RUNNING at a slot and makes the suspension test (R116, R119). -/
def Station.auditRunAt (st : Station) (n : Nat) : Station := (st.auditAt n).suspensionTest

/-! ### The pull queue -/

/-- The queue is frozen: the station is not JOINED, or its fire state is confirmed (R110). -/
def Station.frozen (st : Station) : Bool := !st.joined || st.confirmed

/-- The states of the entries under R110: the oldest entry not in OUT is LIT unless the queue is
frozen, and every other entry not in OUT is WAITING. -/
def relit (frozen : Bool) : List PullEntry → List PullEntry
  | [] => []
  | e :: es =>
    if e.state = .out then e :: relit frozen es
    else { e with state := if frozen then .waiting else .lit } :: relit true es

/-- The slot of the LIT entry, whose lamp the queue asks for (R110). -/
def litSlot (es : List PullEntry) : Option Nat :=
  (es.find? fun e => decide (e.state = .lit)).map (·.slot)

/-- The lighting of R110 applied. -/
def Station.relight (st : Station) : Station :=
  let es := relit st.frozen st.pulls.entries
  (st.setPulls es).onPulls fun p => { p with lamp := litSlot es }

/-- What follows every change of the entries: the lighting of R110, then the suspension test of
R120. -/
def Station.pullsChanged (st : Station) : Station := st.relight.suspensionTest

/-- The REPLY CANCELLED to an entry's requester, with its slot (R111, R123). -/
def Station.replyCancelled (st : Station) (e : PullEntry) : Station :=
  st.reply .pulls e.requester kindCheckout e.reqSeq .cancelled (some (.slot e.slot))

/-- The entries that satisfy `p` are removed, each requester is answered CANCELLED in queue order,
and the lighting and the suspension test follow once all are removed (R111). -/
def Station.cancelPulls (st : Station) (p : PullEntry → Bool) : Station :=
  let gone := st.pulls.entries.filter p
  if gone.isEmpty then st
  else
    let st := st.setPulls (st.pulls.entries.filter fun e => !p e)
    (gone.foldl Station.replyCancelled st).pullsChanged

/-- The pull entry for a cartridge. -/
def Station.pullFor (st : Station) (c : Cart) : Option PullEntry :=
  st.pulls.entries.find? fun e => decide (e.cart = c)

/-- The entry for a cartridge takes a state (R111). -/
def Station.setPullState (st : Station) (c : Cart) (s : PullState) : Station :=
  st.setPulls (st.pulls.entries.map fun e => if e.cart = c then { e with state := s } else e)

/-- A new held set handed on: every entry in WAITING or LIT whose slot is now held is removed (R99,
R105, R111). -/
def Station.cancelHeld (st : Station) : Station :=
  st.cancelPulls fun e => decide (e.state ≠ .out) && st.isHeld e.slot

end Sys2Proof
end

