-- ==== Sys2Proof/Machine/Records.lean ====
section
/-! DEFINITION. Reading and writing slot records (R87 to R90, R94): every read that first finds a
record DAMAGED owes an alert and takes the record's pull entry away; every write makes the record
sound and tells the pull queue. -/

namespace Sys2Proof

/-- A read finds the record of a slot DAMAGED for the first time: its report becomes PENDING and is
offered, and an entry in WAITING or LIT for its stored cartridge id is removed (R89, R90). -/
def Station.noticeDamage (st : Station) (n : Nat) : Station :=
  let sl := st.table.slot n
  if !sl.sound ∧ sl.damage = .none then
    let st := (st.modifySlot n fun s => { s with damage := .pending st.line.made }).numbered
    let st := st.offerPlaces
    match sl.record.cart with
    | some c => st.cancelPulls fun e => decide (e.cart = c.id) && decide (e.state ≠ .out)
    | none => st
  else st

/-- The slots whose records a read would first find DAMAGED, in slot order. -/
def Station.unreported (st : Station) : List Nat :=
  (st.table.slots.zipIdx.filter fun p => !p.1.sound && decide (p.1.damage = .none)).map (·.2)

/-- Every record is read, in slot order (R88). -/
def Station.readAll (st : Station) : Station :=
  st.unreported.foldl Station.noticeDamage st

/-- A slot record is written (R88); a pull entry of the slot whose record is then in a state other
than FILED or OUT, or holds another cartridge, is removed (R111). -/
def Station.writeRecord (st : Station) (n : Nat) (r : Rec) : Station :=
  let keeps (e : PullEntry) : Bool :=
    match r with
    | .filed c | .out c _ => decide (c.id = e.cart)
    | _ => false
  (st.putRecord n r).cancelPulls fun e => decide (e.slot = n) && !keeps e

/-- What the lookup by cartridge id answers (R87). -/
inductive Lookup where
  | absent
  | sound (slot : Nat) (r : Rec)
  | damaged (slot : Nat)
  deriving DecidableEq, Repr

/-- The stored cartridge id of a slot's record is `c`. -/
def Slot.holds (sl : Slot) (c : Cart) : Bool :=
  decide (sl.record.cart.map CartData.id = some c)

/-- The lookup by cartridge id (R87): the slot whose sound record holds it; failing that, the
lowest-numbered slot whose damaged record holds it as stored; or none. -/
def SlotTable.lookup (t : SlotTable) (c : Cart) : Lookup :=
  match t.slots.zipIdx.find? fun p => p.1.sound && p.1.holds c with
  | some p => .sound p.2 p.1.record
  | none =>
    match t.slots.zipIdx.find? fun p => p.1.holds c with
    | some p => .damaged p.2
    | none => .absent

/-- The lookup found the cartridge. -/
def Lookup.found : Lookup → Bool
  | .absent => false
  | .sound .. | .damaged _ => true

/-- The transfer ref of a record is `t`. -/
def Rec.hasTref (r : Rec) (t : Tid) : Bool := decide (r.tref = some t)

/-- The place write (R94): from sound RESERVED with the transfer ref named. The answer says whether
it was made. -/
def Station.placeWrite (st : Station) (n : Nat) (t : Tid) : Station × Bool :=
  let st := st.noticeDamage n
  match (st.table.slot n).view with
  | .reserved c t' => if t' = t then (st.writeRecord n (.placing c t'), true) else (st, false)
  | _ => (st, false)

/-- The close-out write (R94): from sound DEPARTING with the transfer ref named, to VACANT. One that
finds another record is not made (R127). -/
def Station.closeOutWrite (st : Station) (n : Nat) (t : Tid) : Station :=
  let st := st.noticeDamage n
  match (st.table.slot n).view with
  | .departing _ t' => if t' = t then st.writeRecord n .vacant else st
  | _ => st

/-- The free write (R94): from sound RESERVED with the transfer ref named, to VACANT. The answer says
whether it was made. -/
def Station.freeWrite (st : Station) (n : Nat) (t : Tid) : Station × Bool :=
  let st := st.noticeDamage n
  match (st.table.slot n).view with
  | .reserved _ t' => if t' = t then (st.writeRecord n .vacant, true) else (st, false)
  | _ => (st, false)

/-- What the reserve write answers (R94, R130 rows 8 to 10). -/
inductive Reserved where
  | held
  | full
  | slot (n : Nat)
  deriving DecidableEq, Repr

/-- The reserve write (R94): the lowest-numbered sound VACANT slot outside the held set becomes
RESERVED; not made for an id the lookup finds (R87) or for want of a slot. -/
def Station.reserveWrite (st : Station) (c : Cart) (t : Tid) : Station × Reserved :=
  let st := st.readAll
  if (st.table.lookup c).found then (st, .held)
  else match (List.range 256).find? st.isFreeSlot with
    | none => (st, .full)
    | some n =>
      (st.writeRecord n
        (.reserved { id := c, exposure := 0, acclim := none, inspect := false, mark := none } t),
        .slot n)

/-- The set unplanned write (R94): from sound OUT. -/
def Station.setUnplanned (st : Station) (n : Nat) : Station :=
  match (st.table.slot n).view with
  | .out c _ => st.writeRecord n (.out c true)
  | _ => st

end Sys2Proof
end

