-- ==== Sys2Proof/Machine/Audit.lean ====
section
/-! DEFINITION. The audit (section 7.4): what a removal, an insertion, a scan and an abort do to it,
and the commands AUDIT and AUDIT_STEP_EXPIRY. -/

namespace Sys2Proof

/-- The audit is in one of the given states with its cursor at the slot. -/
def Audit.isAt (a : Audit) (n : Nat) (s : AuditState) : Bool :=
  decide (a.state = s) && decide (a.cursor = some n)

/-- A debounced removal at the cursor of a RUNNING audit moves it to READING (R117). -/
def Station.auditLifted (st : Station) (n : Nat) (f : Finding) : Station :=
  st.onlyIf (st.audit.isAt n .running) fun st =>
    st.onAudit fun a => { a with state := .reading, finding := some f, step := st.auditStep }

/-- The cursor moves to the next PRESENT slot of the range, or the audit completes (R119). -/
def Station.auditAdvance (st : Station) (n : Nat) : Station :=
  match st.table.firstPresent (n + 1) st.audit.last with
  | some m => st.auditRunAt m
  | none => st.auditComplete

/-- With stray pending set and the cursor record FILED with the finding's id, the record is written
STRAY (R119). -/
def Station.auditStray (st : Station) (n : Nat) : Station :=
  match st.audit.strayPending, st.audit.finding, (st.table.slot n).view with
  | true, some (.identified x), .filed c =>
    if c.id = x then st.writeRecord n .stray else st
  | _, _, _ => st

/-- The audit is told of a debounced insertion, after the slot table has decided it (R117, R119). -/
def Station.auditInserted (st : Station) (n : Nat) : Station :=
  if st.audit.isAt n .reading then st.auditRunAt n
  else if st.audit.isAt n .returning then (st.auditStray n).auditAdvance n
  else st

/-- The audit is aborted (R121): ABORTED with the cursor and the counts, and IDLE; a sound OUT record
at the cursor without a pull entry takes its unplanned flag. DESIGN CHOICE (log entry 23): at IDLE the
range, cursor, counts and requester are cleared as a start clears them (R124). -/
def Station.auditAbort (st : Station) : Station :=
  st.onlyIf (decide (st.audit.state ≠ .idle)) fun st =>
    let a := st.audit
    let st := st.auditReply .aborted (.cursorCounts a.cursor a.checked a.repaired a.mismatched)
    let st := st.onAudit fun _ => .start
    match a.cursor with
    | none => st
    | some n =>
      let st := st.noticeDamage n
      match (st.table.slot n).view with
      | .out c _ => if (st.pullFor c.id).isSome then st else st.setUnplanned n
      | _ => st

/-- One scan added to the tally (R118). -/
def Audit.count (a : Audit) (repaired mismatched : Bool) : Audit :=
  { a with
    checked := a.checked + 1
    repaired := a.repaired + (if repaired then 1 else 0)
    mismatched := a.mismatched + (if mismatched then 1 else 0) }

/-- The AUDIT-MISMATCH alert (R87, R118), handed with the pull queue's and audit's messages
(R122). -/
def Station.auditMismatch (st : Station) (n : Nat) (y : Cart) (second : Option Cart) : Station :=
  st.hand .pulls allAddr (.custodyAlert (alertBody .auditMismatch (some n) (some y) second))

/-- The fields an audit write gives the cursor record (R118). -/
def auditedCart (y : Cart) (m : Mark) : CartData :=
  { id := y, exposure := 0, acclim := none, inspect := true, mark := some m }

/-- How the audit's write of a scanned id stands to the other records (R87). -/
inductive Elsewhere where
  /-- No other record holds it, or a damaged one does: the cursor write is made. -/
  | free (mismatch : Bool)
  /-- A sound FILED record without a pull entry holds it: that one is rewritten UNKNOWN. -/
  | rewrite (slot : Nat)
  /-- Another record keeps it: no write at the cursor. -/
  | kept
  deriving DecidableEq, Repr

/-- The other record's part in an audit write (R87, R118). -/
def Station.elsewhere (st : Station) (y : Cart) : Elsewhere :=
  match st.table.lookup y with
  | .absent => .free false
  | .damaged _ => .free true
  | .sound m (.filed _) => if (st.pullFor y).isSome then .kept else .rewrite m
  | .sound _ _ => .kept

/-- The decision of an audit scan of `y` at cursor `n` (R118): the records, the alert and the counts.
The state becomes RETURNING in every case. -/
def Station.auditDecide (st : Station) (n : Nat) (y : Cart) : Station :=
  match st.audit.finding, (st.table.slot n).view with
  | some (.identified x), .out c u =>
    if c.id ≠ x then ((st.auditMismatch n y (some c.id)).onAudit (·.count false true))
    else if y = x then
      (st.writeRecord n (.out { c with mark := some .matched } u)).onAudit (·.count false false)
    else
      let st := st.readAll
      match st.elsewhere y with
      | .free _ =>
        ((st.writeRecord n (.out (auditedCart y .mismatch) false)).auditMismatch n y (some x)).onAudit
          (·.count false true)
      | .rewrite m =>
        (((st.writeRecord m .unknown).writeRecord n (.out (auditedCart y .mismatch) false)).auditMismatch
          n y (some x)).onAudit (·.count false true)
      | .kept =>
        (st.auditMismatch n y (some x)).onAudit fun a =>
          { a.count false true with strayPending := true }
  | some .unidentified, .vacant =>
    let st := st.readAll
    match st.elsewhere y with
    | .free false =>
      (st.writeRecord n (.out (auditedCart y .matched) false)).onAudit (·.count true false)
    | .free true =>
      ((st.writeRecord n (.out (auditedCart y .matched) false)).auditMismatch n y none).onAudit
        (·.count false true)
    | .rewrite m =>
      (((st.writeRecord m .unknown).writeRecord n (.out (auditedCart y .matched) false)).auditMismatch
        n y none).onAudit (·.count false true)
    | .kept => (st.auditMismatch n y none).onAudit (·.count false true)
  | _, r => (st.auditMismatch n y (r.cart.map CartData.id)).onAudit (·.count false true)

/-- A scan taken by the audit in READING (R118): decided at the cursor, then RETURNING with the step
timer reloaded. -/
def Station.auditScan (st : Station) (y : Cart) : Station :=
  match st.audit.cursor with
  | none => st
  | some n =>
    let st := (st.noticeDamage n).auditDecide n y
    st.onAudit fun a => { a with state := .returning, step := st.auditStep }

/-- An AUDIT request (R116), taken in. -/
def Station.takeAudit (src : Addr) (seq : Byte) (first last : Nat) (st : Station) : Station :=
  let refuse (o : ReplyOutcome) : Station := st.reply .pulls src kindAudit seq o
  if st.cfg.role = .hatch then refuse .role
  else if !st.joined then refuse .notReady
  else if st.isSealed then refuse .sealed
  else if st.confirmed then refuse .fire
  else if 255 < first ∨ 255 < last ∨ last < first then refuse .range
  else if st.audit.state ≠ .idle then refuse .busy
  else
    let begun : Audit := { Audit.start with first := first, last := last, requester := src,
                                            reqSeq := seq }
    match st.table.firstPresent first last with
    | some n =>
      (((st.onAudit fun _ => begun).auditAt n).reply .pulls src kindAudit seq .started
        (some (.slot n))).suspensionTest
    | none =>
      ((st.onAudit fun _ => begun).reply .pulls src kindAudit seq .started).auditComplete

end Sys2Proof
end

