-- ==== Sys2Proof/Machine/Transfer.lean ====
section
/-! DEFINITION. The transfer engine (Chapter 8): the table, openings, arrivals, closings, withdrawals
and claims, and the handling of its messages and timers. -/

namespace Sys2Proof

/-! ### The table -/

/-- The entry with a transfer id. -/
def Station.xferById (st : Station) (t : Tid) : Option XferEntry :=
  st.xfer.entries.find? fun e => decide (e.tid = t)

/-- The entry for a cartridge. -/
def Station.xferByCart (st : Station) (c : Cart) : Option XferEntry :=
  st.xfer.entries.find? fun e => decide (e.cart = c)

/-- The sending entry with a transfer id. -/
def Station.sendingById (st : Station) (t : Tid) : Option XferEntry :=
  st.xfer.entries.find? fun e => decide (e.tid = t) && !e.state.receiving

/-- The receiving entry with a transfer id, from a peer. -/
def Station.receivingById (st : Station) (t : Tid) (peer : Addr) : Option XferEntry :=
  st.xfer.entries.find? fun e =>
    decide (e.tid = t) && e.state.receiving && decide (e.peer = peer)

/-- A receiving entry EXPECTED for a cartridge (R113 row 3, R150 row 1). -/
def Station.expectedXfer (st : Station) (c : Cart) : Option XferEntry :=
  st.xfer.entries.find? fun e => decide (e.cart = c) && decide (e.state = .expected)

/-- A claim stands for a cartridge. -/
def Station.claimed (st : Station) (c : Cart) : Bool :=
  st.xfer.claims.any fun k => decide (k.cart = c)

/-- The entry with a transfer id rewritten. -/
def Station.modifyXfer (st : Station) (t : Tid) (f : XferEntry → XferEntry) : Station :=
  st.setXfers (st.xfer.entries.map fun e => if e.tid = t then f e else e)

/-- The entry with a transfer id removed, its timers with it. -/
def Station.removeXfer (st : Station) (t : Tid) : Station :=
  st.setXfers (st.xfer.entries.filter fun e => decide (e.tid ≠ t))

/-- The claim for a cartridge removed, its timer with it. -/
def Station.removeClaim (st : Station) (c : Cart) : Station :=
  st.onXfer fun x => { x with claims := x.claims.filter fun k => decide (k.cart ≠ c) }

/-- The counter advanced past the origin sequences in use (R126); 17 tries suffice for 16 entries. -/
def nextCounter (used : List Byte) : Nat → Byte → Byte
  | 0, c => c
  | k + 1, c => if used.contains (c + 1) then nextCounter used k (c + 1) else c + 1

/-- The engine hands a message to one station (R126). -/
def Station.sendXfer (st : Station) (dest : Addr) (b : Body) : Station := st.hand .transfers dest b

/-- The engine raises an alert (R144). -/
def Station.xferAlert (st : Station) (k : AlertKind) (slot : Option Nat) (c : Cart)
    (t : Option Tid) (r : Option Reason := none) : Station :=
  st.hand .transfers allAddr (.custodyAlert (alertBody k slot (some c) none t r))

/-! ### The hatch custody list, as the engine changes it -/

/-- A cartridge handed to the hatch unit joins the list HELD-OUTBOUND under a job (R148). -/
def Station.toHatchOutbound (st : Station) (c : Cart) (job : Job) : Station :=
  st.setCustody
    (st.hatch.custody ++ [{ cart := c, job := job, state := .heldOutbound, dest := none }])

/-- The OUTGOING custody entry of a cartridge leaves the list (R134, R142). -/
def Station.dropOutgoing (st : Station) (c : Cart) : Station :=
  st.setCustody (st.hatch.custody.filter fun e => !(decide (e.cart = c) && decide (e.state = .outgoing)))

/-- The OUTGOING custody entry of a cartridge returns to HELD-INBOUND (R131, R151). -/
def Station.returnOutgoing (st : Station) (c : Cart) : Station :=
  st.setCustody (st.hatch.custody.map fun e =>
    if e.cart = c ∧ e.state = .outgoing then { e with state := .heldInbound } else e)

/-! ### The sending side -/

/-- The peer of a record that is ALIVE and of a role (R171). -/
def PeerView.reachable (v : PeerView) (a : Addr) (r : Role) : Bool :=
  match v.records.getD a.toNat .unheard with
  | .alive d => decide (d.roleDemand.map Prod.fst = some r)
  | .unheard | .lost | .silent _ => false

/-- The role a direction needs at the peer (R128). -/
def Direction.peerRole : Direction → Role
  | .outbound => .hatch
  | .inbound => .bay

/-- The engine declines an opening (R128). -/
def Station.declines (st : Station) (d : Direction) (c : Cart) (peer : Addr) : Bool :=
  !st.joined || decide (16 ≤ st.xfer.entries.length) || (st.xferByCart c).isSome || st.claimed c
    || !st.peers.reachable peer d.peerRole

/-- A transfer opened (R128): a new id, a SENDING entry OFFERED, its OFFER handed to the peer. The
answer is the transfer id, or none where the engine declines and nothing changes. -/
def Station.openXfer (st : Station) (d : Direction) (c : Cart) (job : Job) (slot : Option Nat)
    (custody : Option Cart) (peer : Addr) : Station × Option Tid :=
  if st.declines d c peer then (st, none)
  else
    let k := nextCounter (st.xfer.entries.map (·.tid.oseq)) 17 st.xfer.counter
    let t : Tid := { origin := st.loader.own, oseq := k }
    let limit := ticksOfSec st.cfg.transitLimit
    let e : XferEntry :=
      { tid := t, cart := c, peer := peer, job := job, direction := d, state := .offered,
        attempts := 0, transit := if st.confirmed then .paused limit else .running limit,
        slot := slot, custody := custody, acceptedSlot := none, reply := none }
    let st := (st.setXfers (st.xfer.entries ++ [e])).onXfer fun x => { x with counter := k }
    (st.sendXfer peer (.offer t c job d.code), some t)

/-- The message an entry awaits a reply to, handed again (R129, R132, R146). -/
def Station.resend (st : Station) (e : XferEntry) : Station :=
  match e.state with
  | .offered => st.sendXfer e.peer (.offer e.tid e.cart e.job e.direction.code)
  | .arrived => st.sendXfer e.peer (.arrive e.tid)
  | _ => st

/-- An entry enters REFUSED (R131): its timers stop, the alert carries the reason; a BAY asks the
slot's lamp to flash, a HATCH removes the entry and its custody entry returns. -/
def Station.refused (st : Station) (e : XferEntry) (r : Reason) : Station :=
  let st := st.modifyXfer e.tid fun e =>
    { e with state := .refused, transit := .stopped, reply := none }
  let st := st.xferAlert .unanswered e.slot e.cart (some e.tid) (some r)
  match st.cfg.role with
  | .bay => match e.slot with
    | some n => st.askLamp n .flashing
    | none => st
  | .hatch => (st.removeXfer e.tid).returnOutgoing e.cart

/-- A sending entry closed by an arrival or a claim (R134, R142): the entry is removed with its
timers, after the close-out write and the lamp's withdrawal at a bay, or the removal of the OUTGOING
custody entry at a hatch; a LAPSED one gives LAPSE-RESOLVED. -/
def Station.closeSending (st : Station) (e : XferEntry) : Station :=
  let st := match st.cfg.role, e.slot with
    | .bay, some n => (st.closeOutWrite n e.tid).askLamp n .off
    | .bay, none => st
    | .hatch, _ => st.dropOutgoing e.cart
  let st := st.removeXfer e.tid
  st.onlyIf (decide (e.state = .lapsed)) (·.xferAlert .lapseResolved e.slot e.cart (some e.tid))

/-- A transfer withdrawn by its sender (R139). -/
def Station.withdrawSending (st : Station) (e : XferEntry) : Station :=
  let st := (st.withdrawLamp e.slot).removeXfer e.tid
  st.onlyIf (decide (e.state ≠ .refused)) (·.sendXfer e.peer (.withdraw e.tid))

/-! ### The receiving side -/

/-- The entry becomes ARRIVED and its ARRIVE is handed to the peer (R132). -/
def Station.becomeArrived (st : Station) (e : XferEntry) : Station :=
  (st.modifyXfer e.tid fun e => { e with state := .arrived, attempts := 0, reply := none }).sendXfer
    e.peer (.arrive e.tid)

/-- The place write for an entry's slot: the lamp asked for where it is made, a STRAY-ARRIVAL alert
where it is not (R127). The answer says whether it was made. -/
def Station.placeFor (st : Station) (e : XferEntry) : Station × Bool :=
  match e.slot with
  | none => (st, true)
  | some n =>
    match st.placeWrite n e.tid with
    | (st, true) => (st.askLamp n .on, true)
    | (st, false) => (st.xferAlert .strayArrival none e.cart (some e.tid), false)

/-- The scan of the cartridge of an EXPECTED entry (R132, R115). -/
def Station.arrival (st : Station) (e : XferEntry) : Station :=
  let st := match st.cfg.role with
    | .bay => (st.placeFor e).1
    | .hatch => st
  st.becomeArrived e

/-- A BAY's entry settled by what its slot's record holds (R133, R135): FILED with the cartridge, it
is removed; PLACING, it waits for the insertion; else the lamp is withdrawn and it is removed. -/
def Station.settleAtSlot (st : Station) (e : XferEntry) : Station :=
  match e.slot with
  | none => st.removeXfer e.tid
  | some n =>
    let st := st.noticeDamage n
    let give := (st.askLamp n .off).removeXfer e.tid
    match (st.table.slot n).view with
    | .filed c => if c.id = e.cart then st.removeXfer e.tid else give
    | .placing _ _ => st.modifyXfer e.tid fun e => { e with state := .placing, reply := none }
    | _ => give

/-- The receiver settles an ARRIVED entry whose custody is its own (R133, R135): a HATCH takes the
cartridge into its custody list, a BAY settles by the slot's record. -/
def Station.settleArrived (st : Station) (e : XferEntry) : Station :=
  match st.cfg.role with
  | .hatch => (st.removeXfer e.tid).toHatchOutbound e.cart e.job
  | .bay => st.settleAtSlot e

/-- The receiver takes custody on its own account, with the UNANSWERED alert (R133, R136). -/
def Station.takeCustody (st : Station) (e : XferEntry) (r : Option Reason) : Station :=
  (st.xferAlert .unanswered e.slot e.cart (some e.tid) r).settleArrived e

/-- An insertion at a RESERVED or PLACING slot told to the engine (R132, R135). -/
def Station.xferInserted (st : Station) (n : Nat) (t : Tid) (placing : Bool) : Station :=
  match st.xfer.entries.find? fun e => decide (e.tid = t) && e.state.receiving with
  | none => st
  | some e =>
    if placing then
      let st := st.askLamp n .off
      if e.state = .placing then st.removeXfer e.tid else st
    else if e.state = .expected then st.becomeArrived e
    else st

/-- An insertion at a DEPARTING slot told to the engine: the transfer is withdrawn (R139). -/
def Station.xferReturned (st : Station) (t : Tid) : Station :=
  match st.sendingById t with
  | none => st
  | some e => st.withdrawSending e

/-! ### Claims -/

/-- A claim made for an unmatched cartridge (R141); one that stands in an entry of the table makes none
(R125). -/
def Station.makeClaim (st : Station) (c : Cart) : Station :=
  if st.claimed c ∨ (st.xferByCart c).isSome then st
  else if 4 ≤ st.xfer.claims.length then st
  else if st.cfg.role = .hatch ∧ 32 ≤ st.placesTaken then
    st.hand .transfers allAddr (.custodyAlert (alertBody .custodyFull none (some c)))
  else
    (st.onXfer fun x =>
      { x with claims := x.claims ++ [{ cart := c, timer := ticksOfSec 2 }] }).sendXfer allAddr
      (.claim c)

/-- A claim ended by a CLOSE at a bay (R142): a slot reserved and placed, its lamp on, and a
RECEIVING entry in PLACING; without room, or under a transfer id that an entry of the table has
already (R125), a STRAY-ARRIVAL alert and no entry. -/
def Station.claimAtBay (st : Station) (src : Addr) (t : Tid) (c : Cart) (job : Job) : Station :=
  if 16 ≤ st.xfer.entries.length ∨ (st.xferById t).isSome then
    st.xferAlert .strayArrival none c (some t)
  else match st.reserveWrite c t with
    | (st, .held) => st.xferAlert .strayArrival none c (some t)
    | (st, .full) => st.xferAlert .strayArrival none c (some t)
    | (st, .slot n) =>
      let e : XferEntry :=
        { tid := t, cart := c, peer := src, job := job, direction := .inbound, state := .placing,
          attempts := 0, transit := .stopped, slot := some n, custody := none,
          acceptedSlot := none, reply := none }
      match st.placeFor e with
      | (st, true) => st.setXfers (st.xfer.entries ++ [e])
      | (st, false) => st

/-! ### Messages taken in: in JOINED alone (R125) -/

/-- The REFUSE an OFFER is answered with before row 8 of R130, if any. -/
def Station.offerRefusal (st : Station) (t : Tid) (c : Cart) (direction : Byte) : Option Reason :=
  let heldHere :=
    (st.xferById t).isSome || (st.xferByCart c).isSome || st.claimed c
      || (decide (st.cfg.role = .hatch) &&
        (st.hatch.custody.any (fun e => decide (e.cart = c))
          || st.hatch.session.manifest.any (fun m => decide (m.cart = c))
          || st.hatch.expected.any (fun e => decide (e.cart = c))))
  if heldHere then some .duplicate
  else if 16 ≤ st.xfer.entries.length then some .full
  else if st.isSealed then some .sealed
  else if st.confirmed then some .fire
  else if Direction.ofCode direction
      ≠ some (match st.cfg.role with | .bay => .inbound | .hatch => .outbound) then some .role
  else if st.cfg.role = .hatch ∧ 32 ≤ st.placesTaken then some .full
  else none

/-- The RECEIVING entry of an accepted OFFER (R130 row 10). -/
def expectedEntry (src : Addr) (t : Tid) (c : Cart) (job : Job) (role : Role) (slot : Option Nat) :
    XferEntry where
  tid := t
  cart := c
  peer := src
  job := job
  direction := match role with | .bay => .inbound | .hatch => .outbound
  state := .expected
  attempts := 0
  transit := .stopped
  slot := slot
  custody := none
  acceptedSlot := none
  reply := none

/-- The entry created and the ACCEPT handed to the OFFER's source (R130 row 10). -/
def Station.acceptOffer (st : Station) (src : Addr) (t : Tid) (c : Cart) (job : Job)
    (slot : Option Nat) : Station :=
  (st.setXfers (st.xfer.entries ++ [expectedEntry src t c job st.cfg.role slot])).sendXfer src
    (.accept t (slot.map slotByte))

/-- An OFFER taken in (R130). -/
def Station.takeOffer (src : Addr) (t : Tid) (c : Cart) (job : Job) (direction : Byte)
    (st : Station) : Station :=
  let refuse (st : Station) (r : Reason) : Station := st.sendXfer src (.refuse t r.code)
  st.onlyIf st.joined fun st =>
    match st.xferById t with
    | some e =>
      if e.peer = src ∧ e.cart = c then st.sendXfer src (.accept t (e.slot.map slotByte))
      else refuse st .duplicate
    | none =>
      match st.offerRefusal t c direction with
      | some r => refuse st r
      | none =>
        match st.cfg.role with
        | .hatch => st.acceptOffer src t c job none
        | .bay =>
          match st.reserveWrite c t with
          | (st, .held) => refuse st .duplicate
          | (st, .full) => refuse st .full
          | (st, .slot n) => st.acceptOffer src t c job (some n)

/-- An ACCEPT taken in (R131). -/
def Station.takeAccept (src : Addr) (t : Tid) (slot : Option Byte) (st : Station) : Station :=
  st.onlyIf st.joined fun st =>
    match st.sendingById t with
    | none => st.sendXfer src (.withdraw t)
    | some e =>
      if e.peer ≠ src then st
      else match e.state with
        | .offered | .unanswered =>
          st.modifyXfer t fun e =>
            { e with state := .accepted, acceptedSlot := slot, reply := none }
        | .refused => st.sendXfer e.peer (.withdraw t)
        | _ => st

/-- A REFUSE taken in (R131, R136). DEDUCED (log entry 18): a REFUSE UNKNOWN at an OFFERED or UNANSWERED
entry is a REFUSE under R131; R136's last sentence is taken of receiving entries. -/
def Station.takeRefuse (src : Addr) (t : Tid) (reason : Byte) (st : Station) : Station :=
  st.onlyIf st.joined fun st =>
    match st.xferById t with
    | none => st
    | some e =>
      if e.peer ≠ src then st
      else match e.state with
        | .offered | .unanswered => st.refused e (Reason.ofCode reason)
        | .arrived =>
          if Reason.ofCode reason = .unknown then st.takeCustody e (some .unknown) else st
        | _ => st

/-- An ARRIVE taken in (R134). DEDUCED (log entry 18): one whose transfer id names a RECEIVING entry of
this station names no entry that an ARRIVE can close, and is answered REFUSE UNKNOWN. -/
def Station.takeArrive (src : Addr) (t : Tid) (st : Station) : Station :=
  st.onlyIf st.joined fun st =>
    match st.sendingById t with
    | none => st.sendXfer src (.refuse t Reason.unknown.code)
    | some e =>
      if e.peer ≠ src then st.sendXfer src (.refuse t Reason.unknown.code)
      else (st.sendXfer src (.close t e.cart none)).closeSending e

/-- A CLOSE that ends a claim (R142). -/
def Station.closeClaim (src : Addr) (t : Tid) (c : Cart) (job : Option Job) (st : Station) :
    Station :=
  let job := job.getD (Config.jobNotCarried t c)
  let st := st.removeClaim c
  match st.cfg.role with
  | .hatch => st.toHatchOutbound c job
  | .bay => st.claimAtBay src t c job

/-- A CLOSE taken in (R135, R142). DEDUCED (log entry 18): one that matches a receiving entry by id and
source is taken for that entry, and a claim for the cartridge it carries stays. -/
def Station.takeClose (src : Addr) (t : Tid) (c : Cart) (job : Option Job) (st : Station) :
    Station :=
  st.onlyIf st.joined fun st =>
    match st.receivingById t src with
    | some e =>
      match e.state, st.cfg.role with
      | .expected, .hatch => st.settleArrived e
      | .expected, .bay =>
        match st.placeFor e with
        | (st, true) => st.modifyXfer t fun e => { e with state := .placing, reply := none }
        | (st, false) => st.removeXfer t
      | .arrived, _ => st.settleArrived e
      | _, _ => st
    | none =>
      if st.claimed c then st.closeClaim src t c job
      else st.sendXfer src (.refuse t Reason.unknown.code)

/-- The free of a reserved slot (R140): the lamp request for the slot is withdrawn where the write is not
made (R127), and left alone where it is. -/
def Station.freeSlot (st : Station) (n : Nat) (t : Tid) : Station :=
  match st.freeWrite n t with
  | (st, true) => st
  | (st, false) => st.askLamp n .off

/-- A WITHDRAW taken in (R140). -/
def Station.takeWithdraw (src : Addr) (t : Tid) (st : Station) : Station :=
  st.onlyIf st.joined fun st =>
    match st.receivingById t src with
    | none => st
    | some e =>
      if e.state = .expected then
        let st := match e.slot with
          | some n => st.freeSlot n t
          | none => st
        st.removeXfer t
      else st

/-- A CLAIM taken in (R142). -/
def Station.takeClaim (src : Addr) (c : Cart) (st : Station) : Station :=
  st.onlyIf st.joined fun st =>
    match st.xfer.entries.find? fun e => decide (e.cart = c) && !e.state.receiving with
    | none => st
    | some e =>
      let st := (st.sendXfer src (.close e.tid c (some e.job))).closeSending e
      st.onlyIf (decide (src ≠ e.peer) && decide (e.state ≠ .refused))
        (·.sendXfer e.peer (.withdraw e.tid))

/-! ### Timers -/

/-- A reply timer's expiry (R129, R132, R133). -/
def Station.replyExpired (t : Tid) (st : Station) : Station :=
  match st.xferById t with
  | none => st
  | some e =>
    if e.reply = none then st
    else if e.state = .offered ∨ e.state = .arrived then
      if e.attempts < 3 then
        (st.modifyXfer t fun e => { e with attempts := e.attempts + 1, reply := none }).resend e
      else if e.state = .offered then
        (st.modifyXfer t fun e => { e with state := .unanswered, reply := none }).xferAlert
          .unanswered e.slot e.cart (some t)
      else (st.modifyXfer t fun e => { e with reply := none }).takeCustody e none
    else st

/-- A transit timer's expiry (R138). A paused or stopped timer does not expire. -/
def Station.transitExpired (t : Tid) (st : Station) : Station :=
  match st.sendingById t with
  | none => st
  | some e =>
    match e.transit with
    | .running _ =>
      (st.modifyXfer t fun e =>
        { e with state := .lapsed, transit := .stopped, reply := none }).xferAlert .lapse e.slot e.cart
        (some t)
    | .stopped | .paused _ => st

/-- A claim timer's expiry (R143). -/
def Station.claimExpired (c : Cart) (st : Station) : Station :=
  if st.claimed c then
    let st := (st.removeClaim c).xferAlert .strayArrival none c none
    match st.cfg.role with
    | .bay => st
    | .hatch =>
      st.setCustody
        (st.hatch.custody ++ [{ cart := c, job := 0, state := .heldInbound, dest := none }])
  else st

/-- A transit timer as the fire state pauses it (R137). -/
def Transit.pause : Transit → Transit
  | .running n => .paused n
  | .paused n => .paused n
  | .stopped => .stopped

/-- A transit timer as the fire state lets it run on (R137). -/
def Transit.resume : Transit → Transit
  | .paused n => .running n
  | .running n => .running n
  | .stopped => .stopped

/-- Every transit timer paused or let run on (R137). -/
def Station.onTransits (st : Station) (f : Transit → Transit) : Station :=
  st.setXfers (st.xfer.entries.map fun e => { e with transit := f e.transit })

/-! ### QUERY by transfer id -/

/-- The remaining seconds of a transit timer (R145); whether a part of a second counts is free. -/
def remainingSeconds (left : Ticks) : Nat :=
  left / ticksOfSec 1 +
    (if left % ticksOfSec 1 = 0 then 0 else if Config.partSecondCounts left then 1 else 0)

/-- A transit timer as the image gives it: running, paused or stopped, with its remaining seconds. -/
def Transit.image : Transit → Nat × Option Nat
  | .running n => (0, some (remainingSeconds n))
  | .paused n => (1, some (remainingSeconds n))
  | .stopped => (2, none)

/-- The image of a transfer entry (R145). -/
def XferEntry.image (e : XferEntry) : XferImage where
  tid := e.tid
  cart := e.cart
  receiving := e.state.receiving
  peer := e.peer
  job := e.job
  direction := e.direction
  state := e.state
  attempts := e.attempts
  transit := if e.state.receiving then none else some e.transit.image
  acceptedSlot := e.acceptedSlot
  slot := e.slot
  custody := e.custody

/-- A QUERY by transfer id (R145). -/
def Station.takeQueryTransfer (src : Addr) (seq : Byte) (t : Tid) (st : Station) : Station :=
  match st.xferById t with
  | none => st.reply .transfers src kindQuery seq .notFound
  | some e => st.reply .transfers src kindQuery seq .done (some (.transfer e.image))

end Sys2Proof
end

