-- ==== Sys2Proof/Machine/Hatch.lean ====
section
/-! DEFINITION. The hatch unit (Chapter 9): its lists, the courier session, the drawer with its
encoder and flaps, and the reads, presses and requests it takes in. -/

namespace Sys2Proof

/-! ### The session's end -/

/-- A session that the events of R156 break off. -/
def SessionState.active : SessionState → Bool
  | .identified | .filling | .presenting | .receiving | .returning => true
  | .idle | .handed | .aborted => false

/-- The drawer is at rest IN. -/
def Station.atIn (st : Station) : Bool := decide (st.motion.state = .resting .b)

/-- The drawer is at rest OUT. -/
def Station.atOut (st : Station) : Bool := decide (st.motion.state = .resting .a)

/-- The count remaining for a session (R158). -/
def Station.remainingFor (st : Station) (d : Direction) (j : Job) : Nat :=
  match d with
  | .outbound =>
    (st.hatch.custody.filter fun e =>
      decide (e.job = j) && decide (e.state = .heldOutbound)).length
  | .inbound => (st.hatch.expected.filter fun e => decide (e.job = j)).length

/-- The HANDOVER of the session as it stands, with a count handed and its abort reason if any (R158);
DESIGN CHOICE (log entry 14): outcome HANDED is 0 and ABORTED 1. -/
def Station.handover (st : Station) (handed : Nat) (reason : Option AbortReason) : Station :=
  let s := st.hatch.session
  let d := s.direction.getD .outbound
  let j := s.job.getD 0
  st.hand .hatch allAddr (.handover
    { job := j, direction := d.code, handed := BitVec.ofNat 8 handed,
      remaining := BitVec.ofNat 8 (st.remainingFor d j),
      outcome := if reason.isSome then 1 else 0, reason := reason.map AbortReason.code })

/-- A HANDED or ABORTED session goes on to IDLE with the drawer at rest IN (R157). -/
def Station.settleSession (st : Station) : Station :=
  match st.hatch.session.state with
  | .handed | .aborted => st.onlyIf st.atIn (·.onSession fun _ => .idle)
  | _ => st

/-- The session enters HANDED or ABORTED and its timer stops (R154 to R156). -/
def Station.endSession (st : Station) (s : SessionState) (r : Option AbortReason) : Station :=
  st.onSession fun x => { x with state := s, timer := none, reason := r }

/-- The end of an ended session: the manifest is cleared and the drawer commanded IN; what the
channel reports of it can only be the arrival that R157 waits for, since a stall no longer touches
the session (R154, R156, R157). -/
def Station.bringIn (st : Station) : Station :=
  ((st.onSession fun x => { x with manifest := [] }).command .b).1.settleSession

/-- The session broken off (R156), steps 1 to 5. Releasing the places of an inbound manifest is the
clearing of the manifest, from which the places taken are counted. -/
def Station.abortSession (st : Station) (r : AbortReason) : Station :=
  st.onlyIf st.hatch.session.state.active fun st =>
    let st := st.endSession .aborted (some r)
    let st := st.setCustody (st.hatch.custody.map fun e =>
      if e.state = .inDrawer then { e with state := .heldOutbound } else e)
    (st.handover 0 (some r)).bringIn

/-- An outbound handover (R154), steps 1 to 4. -/
def Station.handOutbound (st : Station) : Station :=
  let items := st.hatch.session.manifest
  let st := st.endSession .handed none
  let st := st.setCustody (st.hatch.custody.filter fun e =>
    !(decide (e.state = .inDrawer) && items.any fun m => decide (m.cart = e.cart)))
  (st.handover items.length none).bringIn

/-- One cartridge of an inbound handover filed, its expected entry removed (R155). -/
def Station.fileInbound (st : Station) (j : Job) (c : Cart) : Station :=
  let dest := (st.hatch.expected.find? fun e => decide (e.cart = c)).map (·.dest)
  (st.setCustody
    (st.hatch.custody ++ [{ cart := c, job := j, state := .heldInbound, dest := dest }])).setExpected
    (st.hatch.expected.filter fun e => decide (e.cart ≠ c))

/-- An inbound handover at the drawer's arrival IN (R155). -/
def Station.handInbound (st : Station) : Station :=
  let s := st.hatch.session
  let st := st.endSession .handed none
  let st := s.manifest.foldl (fun st m => st.fileInbound (s.job.getD 0) m.cart) st
  ((st.handover s.manifest.length none).onSession fun x => { x with manifest := [] }).settleSession

/-- What the hatch unit does with a report of the drawer (R153, R155 to R157). -/
def Station.hatchReport (st : Station) (r : Report) : Station :=
  match r with
  | .arrived .a =>
    st.onlyIf (decide (st.hatch.session.state = .filling))
      (·.onSession fun x => { x with state := .presenting })
  | .arrived .b =>
    if st.hatch.session.state = .returning then st.handInbound else st.settleSession
  | .stalled c => st.abortSession c.abortReason

/-- A report of the channel taken by its owner (R37): the hatch unit, or the dry-air unit, which does
not act on it. -/
def Station.reported (p : Station × Option Report) : Station :=
  match p.2, p.1.cfg.role with
  | some r, .hatch => p.1.hatchReport r
  | some _, .bay => p.1
  | none, _ => p.1

/-- The session timer's expiry (R156). -/
def Station.sessionExpired (st : Station) : Station :=
  st.onlyIf st.hatch.session.timer.isSome fun st =>
    (st.onSession fun x => { x with timer := none }).abortSession .timeout

/-! ### The drawer -/

/-- The retry of a stalled drawer: its last command again, or IN before any (R161, R162). -/
def Station.retry (st : Station) : Station :=
  Station.reported (st.command (st.motion.last.getD .b))

/-- What a new value of the position counter brings (R160): the outer end's arrival condition comes
to hold, or a drawer resting OUT has been pushed back. -/
def Station.positionMoved (st : Station) (before : Nat) : Station :=
  let pos := st.hatch.position
  if before < st.cfg.posOut - 8 ∧ st.cfg.posOut - 8 ≤ pos then
    Station.reported (st.arrivalComes .a)
  else if st.cfg.posOut - 16 ≤ before ∧ pos < st.cfg.posOut - 16 then
    Station.reported (st.loadLeaves .a)
  else st

/-- The position counter set (R159). -/
def Station.setPosition (st : Station) (pos : Nat) : Station :=
  let before := st.hatch.position
  (st.onHatch fun h => { h with position := pos }).positionMoved before

/-- A transition of the encoder phases (R159, R160). -/
def Station.encoderChanged (st : Station) (a b : Bool) : Station :=
  let m := encoderMove st.hatch.refA st.hatch.refB a b
  let st := st.onHatch fun h => { h with refA := a, refB := b }
  match m with
  | .faulty => Station.reported (st.stopEvent .encoder)
  | m => st.setPosition (m.apply st.hatch.position)

/-- A flap has changed, the new levels in the pins (R161). -/
def Station.flapChanged (st : Station) (opened : Bool) : Station :=
  if opened then Station.reported (st.stopEvent .interlock)
  else st.onlyIf
    (st.flapsShut && decide (st.motion.state = .stalled)
      && decide (st.motion.cause = some .interlock)) Station.retry

/-- The closing of INNER-END: the counter to 0, and the arrival condition of the inner end (R159,
R160). -/
def Station.innerEndClosed (st : Station) : Station :=
  Station.reported ((st.setPosition 0).arrivalComes .b)

/-! ### Presses -/

/-- A press finds the drawer STALLED with both flaps shut (R153, R155, R162). -/
def Station.pressRetries (st : Station) : Bool :=
  decide (st.motion.state = .stalled) && st.flapsShut

/-- A SEND press (R153). -/
def Station.sendPressed (st : Station) : Station :=
  if st.pressRetries then st.retry
  else if st.hatch.session.state = .filling ∧ st.atIn ∧ st.flapsShut then
    Station.reported (st.command .a)
  else st

/-- A DONE press (R155). -/
def Station.donePressed (st : Station) : Station :=
  if st.pressRetries then st.retry
  else if st.hatch.session.state = .receiving ∧ st.atOut ∧ st.flapsShut then
    Station.reported ((st.onSession fun x => { x with state := .returning }).command .b)
  else st

/-! ### Reads -/

/-- An alert of the hatch unit, with the cartridge id alone (R158). -/
def Station.hatchAlert (st : Station) (k : AlertKind) (c : Cart) : Station :=
  st.hand .hatch allAddr (.custodyAlert (alertBody k none (some c)))

/-- The hatch custody entry for a cartridge. -/
def Station.custodyFor (st : Station) (c : Cart) : Option CustodyEntry :=
  st.hatch.custody.find? fun e => decide (e.cart = c)

/-- The inbound expected entry for a cartridge. -/
def Station.expectedFor (st : Station) (c : Cart) : Option ExpectedEntry :=
  st.hatch.expected.find? fun e => decide (e.cart = c)

/-- The drawer manifest holds a cartridge. -/
def Station.inManifest (st : Station) (c : Cart) : Bool :=
  st.hatch.session.manifest.any fun m => decide (m.cart = c)

/-- The custody entry for a cartridge takes a state. -/
def Station.setCustodyState (st : Station) (c : Cart) (s : CustodyState) : Station :=
  st.setCustody (st.hatch.custody.map fun e => if e.cart = c then { e with state := s } else e)

/-- A cartridge added at the end of the manifest, its flag clear. -/
def Session.load (s : Session) (c : Cart) : Session :=
  { s with manifest := s.manifest ++ [{ cart := c, confirmed := false }] }

/-- A session begun by a COURIER read (R152). -/
def Station.beginSession (st : Station) (s : SessionState) (d : Direction) (j : Job) : Station :=
  st.onSession fun _ =>
    { state := s, job := some j, direction := some d, timer := some (ticksOfSec st.cfg.sessionLimit),
      manifest := [], reason := none }

/-- A COURIER read from the outer reader (R152). -/
def Station.courierCard (st : Station) (number : Cart) : Station :=
  let j := jobOfCard number
  if st.hatch.session.state ≠ .idle then st
  else if st.confirmed then st
  else if !st.atIn ∨ !st.flapsShut then st
  else if st.hatch.custody.any (fun e => decide (e.state = .heldOutbound) && decide (e.job = j)) then
    st.beginSession .identified .outbound j
  else if st.hatch.expected.any (fun e => decide (e.job = j)) then
    Station.reported ((st.beginSession .receiving .inbound j).command .a)
  else st

/-- Loading (R153). -/
def Station.loadDrawer (st : Station) (c : Cart) : Station :=
  st.onlyIf (decide (st.hatch.session.manifest.length < 16)) fun st =>
    (st.setCustodyState c .inDrawer).onSession fun x => { x.load c with state := .filling }

/-- An expected cartridge filed from the inner reader (R150 row 3). -/
def Station.fileScanned (st : Station) (e : ExpectedEntry) : Station :=
  if st.placesTaken < 32 then
    (st.setCustody (st.hatch.custody ++
      [{ cart := e.cart, job := e.job, state := .heldInbound, dest := some e.dest }])).setExpected
      (st.hatch.expected.filter fun x => decide (x.cart ≠ e.cart))
  else st.hatchAlert .custodyFull e.cart

/-- An onward transfer (R151). -/
def Station.onward (st : Station) (e : CustodyEntry) (dest : Addr) : Station :=
  match st.openXfer .inbound e.cart e.job none (some e.cart) dest with
  | (st, some _) => st.setCustodyState e.cart .outgoing
  | (st, none) => st

/-- A return (R151, R139). -/
def Station.returned (st : Station) (c : Cart) : Station :=
  let st := match st.xfer.entries.find? fun e => decide (e.cart = c) && !e.state.receiving with
    | some e => st.withdrawSending e
    | none => st
  st.setCustodyState c .heldInbound

/-- A scan of a cartridge of the custody list (R150 rows 4 to 7). -/
def Station.scanCustody (st : Station) (e : CustodyEntry) : Station :=
  match e.state with
  | .heldOutbound =>
    let s := st.hatch.session
    if s.job = some e.job ∧ (s.state = .identified ∨ s.state = .filling) ∧ st.atIn
    then st.loadDrawer e.cart else st
  | .heldInbound =>
    match e.dest with
    | some d => st.onward e d
    | none => st
  | .outgoing => st.returned e.cart
  | .inDrawer => st

/-- A CARTRIDGE read from the inner reader (R150). -/
def Station.innerScan (st : Station) (c : Cart) : Station :=
  match st.expectedXfer c with
  | some e => st.arrival e
  | none =>
    if st.xfer.entries.any (fun e => decide (e.cart = c) && decide (e.state = .arrived))
        || st.claimed c || st.inManifest c then st
    else match st.expectedFor c with
      | some e => st.fileScanned e
      | none =>
        match st.custodyFor c with
        | some e => st.scanCustody e
        | none => st.makeClaim c

/-- A courier's scan in PRESENTING (R154). -/
def Station.presentScan (st : Station) (c : Cart) : Station :=
  if st.inManifest c then
    let flags := st.hatch.session.manifest.any fun m => decide (m.cart = c) && !m.confirmed
    let st := st.onSession fun x =>
      { x with manifest := x.manifest.map fun m =>
          if m.cart = c then { m with confirmed := true } else m }
    st.onlyIf (flags && st.hatch.session.manifest.all (·.confirmed)) Station.handOutbound
  else st.hatchAlert .strayArrival c

/-- A courier's scan in RECEIVING with the drawer at rest OUT (R155). -/
def Station.receiveScan (st : Station) (c : Cart) : Station :=
  let s := st.hatch.session
  if st.inManifest c then st
  else if !(st.hatch.expected.any fun e => decide (e.cart = c) && decide (some e.job = s.job)) then
    st.hatchAlert .strayArrival c
  else if 16 ≤ s.manifest.length then st
  else if 32 ≤ st.placesTaken then st.hatchAlert .custodyFull c
  else st.onSession (·.load c)

/-- A CARTRIDGE read from the outer reader (R147, R154, R155). -/
def Station.outerScan (st : Station) (c : Cart) : Station :=
  match st.hatch.session.state with
  | .presenting => st.presentScan c
  | .receiving => st.onlyIf st.atOut (·.receiveScan c)
  | _ => st

/-! ### Requests -/

/-- The cartridge is in a list of the hatch (R149). -/
def Station.hatchHolds (st : Station) (c : Cart) : Bool :=
  (st.expectedFor c).isSome || (st.custodyFor c).isSome || st.inManifest c
    || (st.xferByCart c).isSome || st.claimed c

/-- The cartridge is a stray in the hatch custody list (R148). -/
def Station.isStray (st : Station) (c : Cart) : Bool :=
  st.hatch.custody.any fun e =>
    decide (e.cart = c) && decide (e.state = .heldInbound) && e.dest.isNone

/-- A stray takes a job id and a destination (R149). -/
def Station.assignStray (st : Station) (c : Cart) (job : Job) (dest : Addr) : Station :=
  st.setCustody (st.hatch.custody.map fun e =>
    if e.cart = c then { e with job := job, dest := some dest } else e)

/-- A CHECKIN request (R149). -/
def Station.takeCheckin (src : Addr) (seq : Byte) (job : Job) (c : Cart) (dest : Addr)
    (st : Station) : Station :=
  let answer (st : Station) (o : ReplyOutcome) : Station := st.reply .hatch src kindCheckin seq o
  if st.cfg.role = .bay then answer st .role
  else if !st.joined then answer st .notReady
  else if st.isSealed then answer st .sealed
  else if !st.peers.reachable dest .bay then answer st .unreachable
  else if st.isStray c then answer (st.assignStray c job dest) .done
  else if st.hatchHolds c then answer st .duplicate
  else if 32 ≤ st.hatch.expected.length then answer st .full
  else answer (st.setExpected (st.hatch.expected ++ [⟨job, c, dest⟩])) .done

/-- A QUERY by cartridge id at a HATCH (R163). -/
def Station.hatchQuery (src : Addr) (seq : Byte) (c : Cart) (st : Station) : Station :=
  let answer (o : ReplyOutcome) (d : Option Detail) : Station := st.reply .hatch src kindQuery seq o d
  match st.custodyFor c with
  | some e => answer .done (some (.custody e.state e.job e.dest))
  | none =>
    match st.expectedFor c with
    | some e => answer .done (some (.expected e.job e.dest))
    | none => answer .notFound none

end Sys2Proof
end

