-- ==== Sys2Proof/Machine/SlotTable.lean ====
section
/-! DEFINITION. The slot table's own events (Chapter 6): the presence scan with its removals and
insertions, the minute sweep, the discharge marking, and the requests HOLD-SET, INSPECT-CLEAR and
QUERY. -/

namespace Sys2Proof

/-! ### Presence -/

/-- A cartridge is back at the slot of its OUT pull entry (R111): the entry waits again, or is removed
where the slot is held by now. -/
def Station.pullInserted (st : Station) (n : Nat) (c : Cart) : Station :=
  let mine (e : PullEntry) : Bool :=
    decide (e.cart = c) && decide (e.slot = n) && decide (e.state = .out)
  if st.pulls.entries.any mine then
    if st.isHeld n then st.cancelPulls mine else (st.setPullState c .waiting).pullsChanged
  else st

/-- A removal at a slot (R92), told to the pull queue (R111) or the audit (R117). The states that R92
says a removal cannot meet are left as they are. -/
def Station.removal (st : Station) (n : Nat) : Station :=
  let st := st.noticeDamage n
  match (st.table.slot n).view with
  | .filed c =>
    if (st.pullFor c.id).isSome then
      ((st.writeRecord n (.out c false)).setPullState c.id .out).pullsChanged
    else if st.audit.isAt n .running then
      (st.writeRecord n (.out c false)).auditLifted n (.identified c.id)
    else
      (st.writeRecord n (.out c true)).handAlert .slotTable
        (alertBody .unplannedRemoval (some n) (some c.id))
  | .stray | .unknown => (st.writeRecord n .vacant).auditLifted n .unidentified
  | _ => st

/-- The lowest-numbered sound PLACING record of the table. -/
def SlotTable.firstPlacing (t : SlotTable) : Option (Cart × Tid) :=
  t.slots.findSome? fun sl =>
    match sl.view with
    | .placing c tr => some (c.id, tr)
    | _ => none

/-- A cartridge of unknown identity is in a slot (R93): STRAY, with STRAY-INSERT and, while a record
is PLACING, WRONG-SLOT. The search for a PLACING record reads every record (R88). -/
def Station.strayInserted (st : Station) (n : Nat) : Station :=
  let st := (st.writeRecord n .stray).handAlert .slotTable (alertBody .strayInsert (some n) none)
  let st := st.readAll
  match st.table.firstPlacing with
  | some (c, t) =>
    st.handAlert .slotTable (alertBody .wrongSlot (some n) (some c) none (some t))
  | none => st

/-- The acclimatize remaining that an arrival gives (R93, R115). -/
def ConfigRecord.arrivalAcclim (c : ConfigRecord) : Option Nat :=
  if c.acclim = 0 then Option.none else some c.acclim

/-- An insertion decided by the slot's record (R93). The states that R93 says an insertion cannot meet
are left as they are. -/
def Station.insertionAt (st : Station) (n : Nat) : Station :=
  match (st.table.slot n).view with
  | .out c _ => (st.writeRecord n (.filed c)).pullInserted n c.id
  | .departing c t => (st.writeRecord n (.filed c)).xferReturned t
  | .reserved c t =>
    (st.writeRecord n (.filed { c with acclim := st.cfg.arrivalAcclim })).xferInserted n t false
  | .placing c t =>
    (st.writeRecord n (.filed { c with acclim := st.cfg.arrivalAcclim })).xferInserted n t true
  | .vacant | .unknown => st.strayInserted n
  | .filed _ | .stray | .unsettled => st

/-- An insertion at a slot (R93), after which the audit is told (R117, R119). -/
def Station.insertion (st : Station) (n : Nat) : Station :=
  ((st.noticeDamage n).insertionAt n).auditInserted n

/-- The debounced copy of a slot set. -/
def Station.setDebounced (st : Station) (n : Nat) (r : Bool) : Station :=
  st.modifySlot n fun sl => { sl with debounced := some r }

/-- A slot without a debounced copy whose reading agrees with the one before (R105, R106): the copy
takes the reading, an unsettled record is settled, and no change is taken. DESIGN CHOICE (log entry 19):
an unsettled record that is DAMAGED as well is settled by R106, its record written, and not only given a
copy as R105 has it for a DAMAGED one. -/
def Station.settleSlot (st : Station) (n : Nat) (r : Bool) : Station :=
  let st := st.setDebounced n r
  if (st.table.slot n).record = .unsettled then st.putRecord n (if r then .unknown else .vacant)
  else st

/-- The reading of one slot in a full scan (R91, R105, R106). -/
def Station.readSlot (st : Station) (n : Nat) (r : Bool) : Station :=
  let sl := st.table.slot n
  let st := st.modifySlot n fun s => { s with last := some r }
  if sl.debounced = some r ∨ sl.last ≠ some r then st
  else match sl.debounced with
    | none => st.settleSlot n r
    | some _ =>
      let st := st.setDebounced n r
      if r then st.insertion n else st.removal n

/-- A full scan: the readings of the slots in slot order, bit n for slot n, set for PRESENT (R91). -/
def Station.presenceScanned (st : Station) (readings : BitVec 256) : Station :=
  (List.range 256).foldl (fun st n => st.readSlot n (readings.getLsbD n)) st

/-! ### Sweeps over the records -/

/-- The cartridge fields of every sound record that `p` takes rewritten. -/
def SlotTable.mapRecords (t : SlotTable) (p : Rec → Bool) (f : CartData → CartData) : SlotTable :=
  { t with slots := t.slots.map fun sl =>
      if sl.sound && p sl.record then { sl with record := sl.record.mapCart f } else sl }

/-- A record that a minute sweep touches: FILED or OUT (R100). -/
def Rec.swept : Rec → Bool
  | .filed _ | .out .. => true
  | .vacant | .departing .. | .reserved .. | .placing .. | .stray | .unknown | .unsettled => false

/-- A record that a discharge marks: FILED (R101). -/
def Rec.isFiled : Rec → Bool
  | .filed _ => true
  | .vacant | .out .. | .departing .. | .reserved .. | .placing .. | .stray | .unknown
  | .unsettled => false

/-- One minute of a cartridge under an excursion status (R100). -/
def CartData.minute (limit : Nat) (s : Excursion) (c : CartData) : CartData :=
  match s with
  | .high | .low | .sensorFault =>
    let e := min 65535 (c.exposure + 1)
    { c with exposure := e, inspect := c.inspect || decide (limit ≤ e) }
  | .inBand =>
    { c with acclim := match c.acclim with
        | some (k + 2) => some (k + 1)
        | some _ | none => none }

/-- The minute timer's expiry (R100). -/
def Station.minuteExpired (st : Station) : Station :=
  st.onlyIf st.table.minute.isSome fun st =>
    let st := (st.onTable fun t => { t with minute := some (ticksOfSec 60) }).readAll
    st.onTable (·.mapRecords Rec.swept (CartData.minute st.cfg.expoLimit st.moist.status))

/-- The discharge marking (R101). -/
def Station.markDischarge (st : Station) : Station :=
  st.readAll.onTable (·.mapRecords Rec.isFiled fun c => { c with inspect := true })

/-! ### Requests -/

/-- A HOLD-SET request (R98, R99). -/
def Station.takeHoldSet (src : Addr) (seq extent endCode complement mode : Byte) (st : Station) :
    Station :=
  let answer (st : Station) (o : ReplyOutcome) : Station := st.reply .slotTable src kindHoldSet seq o
  if st.cfg.role = .hatch then answer st .role
  else if !st.joined then answer st .notReady
  else if st.isSealed then answer st .sealed
  else match holdOfBytes extent endCode complement mode with
    | none => answer st .range
    | some (h, m) =>
      if st.table.mode = .fixed then answer st .locked
      else if st.table.mode = .keyed ∧ !st.table.keyOn then answer st .locked
      else answer (st.onTable fun t => { t with hold := h, mode := m }).cancelHeld .done

/-- The clearing of a cartridge's exposure and inspect flag (R102). -/
def CartData.cleared (c : CartData) : CartData := { c with exposure := 0, inspect := false }

/-- A sound record that an INSPECT-CLEAR of ALL changes (R102): one with a cartridge id whose exposure
or inspect flag is not clear already. -/
def Slot.clearable (sl : Slot) : Bool :=
  sl.sound && match sl.record.cart with
    | some c => decide (c.cleared ≠ c)
    | none => false

/-- An INSPECT-CLEAR request (R102): `slot` names one slot, none names ALL. -/
def Station.takeInspectClear (src : Addr) (seq : Byte) (slot : Option Nat) (st : Station) : Station :=
  let answer (st : Station) (o : ReplyOutcome) (d : Option Detail := none) : Station :=
    st.reply .slotTable src kindInspectClear seq o d
  if st.cfg.role = .hatch then answer st .role
  else if !st.joined then answer st .notReady
  else if st.isSealed then answer st .sealed
  else match slot with
    | some n =>
      if 255 < n then answer st .range
      else
        let st := st.noticeDamage n
        let r := (st.table.slot n).view
        match r.cart with
        | none => answer st .notFound
        | some _ => answer (st.putRecord n (r.mapCart CartData.cleared)) .done
    | none =>
      let st := st.readAll
      let changed := (st.table.slots.filter Slot.clearable).length
      answer (st.onTable (·.mapRecords (fun _ => true) CartData.cleared)) .done
        (some (.number changed))

/-- The image of a slot's record (R103), as the record stands. The presence of a DAMAGED or an
unsettled one is that of its debounced copy, none while there is none (R89, R105). -/
def Station.recordImage (st : Station) (n : Nat) : RecordImage :=
  let sl := st.table.slot n
  if sl.sound then
    let c := sl.record.cart
    { slot := n
      presence := if sl.record = .unsettled then sl.debounced else some sl.record.presence
      state := sl.record.stateCode
      held := st.isHeld n, damaged := false, cart := c.map CartData.id
      unplanned := match sl.record with
        | .out _ u => some u
        | _ => none
      exposure := c.map CartData.exposure, acclim := c.bind CartData.acclim
      inspect := c.map CartData.inspect, mark := c.bind CartData.mark, tref := sl.record.tref }
  else
    { slot := n, presence := sl.debounced, state := Rec.unknown.stateCode, held := st.isHeld n
      damaged := true, cart := sl.record.cart.map CartData.id, unplanned := none, exposure := none
      acclim := none, inspect := none, mark := none, tref := none }

/-- The record of a slot read and answered with its image (R103). -/
def Station.answerRecord (st : Station) (src : Addr) (seq : Byte) (n : Nat) : Station :=
  let st := st.noticeDamage n
  st.reply .slotTable src kindQuery seq .done (some (.record (st.recordImage n)))

/-- A QUERY by slot (R103). -/
def Station.takeQuerySlot (src : Addr) (seq : Byte) (n : Nat) (st : Station) : Station :=
  if st.cfg.role = .hatch then st.reply .slotTable src kindQuery seq .role
  else if 255 < n then st.reply .slotTable src kindQuery seq .range
  else st.answerRecord src seq n

/-- A QUERY by cartridge id at a BAY (R103). -/
def Station.bayQuery (src : Addr) (seq : Byte) (c : Cart) (st : Station) : Station :=
  let st := st.readAll
  match st.table.lookup c with
  | .absent => st.reply .slotTable src kindQuery seq .notFound
  | .sound n _ | .damaged n => st.answerRecord src seq n

end Sys2Proof
end

