-- ==== Sys2Proof/Machine/Suppression.lean ====
section
/-! DEFINITION. The suppression controller (Chapter 4): the change of fire state with the blocks that
follow it, the confirmation, and what each event does in each fire state. -/

namespace Sys2Proof

/-! ### A change of fire state -/

/-- The fire state and the outputs it sets (R69). -/
def Suppression.take (s : Suppression) (f : FireState) : Suppression :=
  { s with
    fire := f, sounder := f.sounder, warning := f.warning, release := f.releaseOn,
    exhaust := f.exhaust }

/-- A waiting restart is gone (R177, R189). -/
def Station.abandonRestart (st : Station) : Station := st.onLoader fun l => { l with restartWait := none }

/-- The dry-air unit's part at a change of fire state (R28): it is present in role BAY alone (R19). -/
def Station.followAir (st : Station) : Station :=
  st.onlyIf (decide (st.cfg.role = .bay)) Station.evalForcedSafe

/-- The blocks that act on entry into a confirmed state, in the order of the table of section 4.9
(R70, R71): dry-air unit, pull queue, audit, transfer engine, hatch unit, configuration loader. -/
def Station.followConfirmed (st : Station) : Station :=
  ((((st.followAir.pullsChanged).auditAbort).onTransits Transit.pause).abortSession
    .fire).abandonRestart

/-- The blocks that act on exit from the confirmed states, in the same order (R70, R71, R73). -/
def Station.followUnconfirmed (st : Station) : Station :=
  (st.followAir.pullsChanged).onTransits Transit.resume

/-- A change of fire state (R55, R69, R71): made, made known to the blocks, and followed by one
FIRE-REPORT. -/
def Station.setFire (st : Station) (f : FireState) : Station :=
  let before := st.confirmed
  let st := st.onSupp (·.take f)
  let st :=
    if before = f.confirmed then st
    else if f.confirmed then st.followConfirmed
    else st.followUnconfirmed
  st.handFireReport

/-- Entry into COUNTDOWN (R63): the full PREDISCHARGE, and HELD at once where the hold switch reads
CLOSED. -/
def Station.enterCountdown (st : Station) : Station :=
  let st := (st.onSupp fun s =>
    { s with evacuation := none, countdown := some (ticksOfSec st.cfg.predischarge) }).setFire .countdown
  st.onlyIf st.supp.holdClosed fun st =>
    (st.onSupp fun s => { s with countdown := none }).setFire .held

/-! ### Confirmation -/

/-- The fire fields a peer record holds: present in ALIVE and SILENT (R56, R171). -/
def Peer.fireFields : Peer → Option (FireState × Ticks)
  | .alive d => d.fire
  | .silent d => d.fire
  | .unheard => none
  | .lost => none

/-- A neighbour's record counts for the confirmation (R56). -/
def Station.neighbourInFire (st : Station) (a : Addr) : Bool :=
  match (st.peers.records.getD a.toNat .unheard).fireFields with
  | some (f, age) => decide (f ≠ .normal) && decide (age ≤ ticksOfSec st.cfg.confWin)
  | none => false

/-- The confirmation condition (R56). -/
def Station.confirmationHolds (st : Station) : Bool :=
  (st.det.zoneA && st.det.zoneB)
    || (st.anyLatched && st.peers.neighbours.any st.neighbourInFire)

/-- A confirmation (R60). -/
def Station.confirm (st : Station) : Station :=
  if 0 < st.occupancyCount then
    (st.onSupp fun s => { s with evacuation := some (ticksOfSec st.cfg.evacLimit) }).setFire .evacuate
  else st.enterCountdown

/-- A latch of a SMOKE or HEAT loop taken in (R57 to R59). -/
def Station.takeLatch (st : Station) : Station :=
  if st.confirmed then st
  else if st.confirmationHolds then st.confirm
  else st.onlyIf (decide (st.supp.fire = .normal)) (·.setFire .prealarm)

/-- A latch of a MANUAL loop taken in (R61). -/
def Station.takeManualLatch (st : Station) : Station :=
  if st.confirmed then st
  else (st.onSupp fun s => { s with manual := true }).enterCountdown

/-- A latch event by its kind (R50, R58, R61); an UNUSED loop makes none (R42). -/
def Station.latched (st : Station) (k : LoopKind) : Station :=
  match k with
  | .unused => st
  | .smoke | .heat => st.takeLatch
  | .manual => st.takeManualLatch

/-- A STATUS or FIRE-REPORT of a station of the neighbour set, its record written (R57, R59). -/
def Station.neighbourTest (st : Station) : Station :=
  st.onlyIf (!st.confirmed && st.confirmationHolds) Station.confirm

/-! ### The sequence -/

/-- The door unit reports that its list has become empty (R62). -/
def Station.occupancyEmptied (st : Station) : Station :=
  st.onlyIf (decide (st.supp.fire = .evacuate)) Station.enterCountdown

/-- The evacuation timer's expiry (R62). -/
def Station.evacuationExpired (st : Station) : Station :=
  st.onlyIf st.supp.evacuation.isSome Station.enterCountdown

/-- A change of the filtered hold switch (R64): the input has held the level, and the filter rests. -/
def Station.holdSwitch (st : Station) (closed : Bool) : Station :=
  let st := (st.onPins fun p => { p with holdInput := closed }).onSupp fun s =>
    { s with holdClosed := closed, holdFilter := none }
  match st.supp.fire, closed with
  | .countdown, true => (st.onSupp fun s => { s with countdown := none }).setFire .held
  | .held, false => st.enterCountdown
  | _, _ => st

/-- The countdown timer's expiry (R65). -/
def Station.countdownExpired (st : Station) : Station :=
  st.onlyIf st.supp.countdown.isSome fun st =>
    let st := st.onSupp fun s => { s with countdown := none }
    if st.supp.lock then st.setFire .blocked
    else (st.onSupp fun s => { s with pulse := some (ticksOfSec st.cfg.releasePulse) }).setFire .release

/-- The release pulse timer's expiry (R66), steps 1 to 5. -/
def Station.pulseExpired (st : Station) : Station :=
  st.onlyIf st.supp.pulse.isSome fun st =>
    let st := st.onSupp fun s => { s with pulse := none, release := false, lock := true }
    let st := st.handFire (.discharge (BitVec.ofNat 8 st.cfg.soakTime))
    let st := st.onlyIf (decide (st.cfg.role = .bay)) Station.markDischarge
    (st.onSupp fun s => { s with soak := some (ticksOfMin st.cfg.soakTime) }).setFire .soak

/-- The soak timer's expiry (R68). -/
def Station.soakExpired (st : Station) : Station :=
  st.onlyIf st.supp.soak.isSome fun st =>
    (st.onSupp fun s => { s with soak := none }).setFire .vent

/-- A loop's latched alarm and alarm run cleared (R45). -/
def Loop.unlatch (l : Loop) : Loop := { l with latched := false, alarmRun := 0 }

/-- Every latched alarm, every alarm run count and both zone latches cleared (R45). -/
def Detection.unlatch (d : Detection) : Detection :=
  { d with
    loop0 := d.loop0.unlatch, loop1 := d.loop1.unlatch, loop2 := d.loop2.unlatch,
    loop3 := d.loop3.unlatch, zoneA := false, zoneB := false }

/-- An accepted RESTORE (R73). -/
def Station.restored (st : Station) : Station :=
  ((st.onDet Detection.unlatch).onSupp fun s =>
    { s with
      manual := false, evacuation := none, countdown := none, pulse := none,
      soak := none }).setFire .normal

/-- A fire state in which a RESTORE is refused BUSY (R72). -/
def FireState.restoreBusy : FireState → Bool
  | .evacuate | .countdown | .held | .release | .soak => true
  | .normal | .prealarm | .vent | .blocked => false

/-- A RESTORE request (R72, R73). -/
def Station.takeRestore (src : Addr) (seq : Byte) (st : Station) : Station :=
  let answer (st : Station) (o : ReplyOutcome) : Station :=
    st.reply .suppression src kindRestore seq o
  if !st.joined then answer st .notReady
  else if st.supp.fire = .normal then answer st .done
  else if st.supp.fire.restoreBusy then answer st .busy
  else if st.alarmReading then answer st .active
  else answer st.restored .done

end Sys2Proof
end

