-- ==== Sys2Proof/Machine/Detection.lean ====
section
/-! DEFINITION. The detection unit (Chapter 3): the ADC scan, the loop samples with their alarm and
trouble runs, and the release battery. -/

namespace Sys2Proof

/-- The channel that a scan samples after a channel (R41): the loops in their order, and in a long scan
the temperature and the release battery after them. -/
def AdcChannel.next (long : Bool) : AdcChannel → Option AdcChannel
  | .loop 0 => some (.loop 1)
  | .loop 1 => some (.loop 2)
  | .loop 2 => some (.loop 3)
  | .loop 3 => if long then some .temperature else none
  | .temperature => some .battery
  | .battery => none

/-- A channel has been sampled (R41): the scan goes on to the next where this was the one it samples. A
code of another channel leaves the scan where it is (log entry 7). -/
def Detection.sampled (d : Detection) (c : AdcChannel) : Detection :=
  if d.channel = some c then { d with channel := c.next d.longScan } else d

/-- An ADC scan begins (R41), at loop 0: a scan that begins with the count at 0 is a long one. -/
def Detection.beginScan (d : Detection) : Detection :=
  { d with
    channel := some (.loop 0)
    longScan := decide (d.scanCount = 0)
    scanCount := (d.scanCount + 1) % 8
    scanTimer := some (ticksOfMs 250) }

/-- The band is a fault band, OPEN or SHORT (R46). -/
def Band.faulty : Band → Bool
  | .opened | .shorted => true
  | .normal | .alarm => false

/-- The trouble a fault band names (R46, R47); the working bands name none. -/
def Band.trouble : Band → Trouble
  | .opened => .opened
  | .shorted => .shorted
  | .normal | .alarm => .none

/-- The alarm run after a sample (R44). -/
def Loop.alarm (l : Loop) (b : Band) (verification : Nat) : Loop :=
  let run := if b = .alarm then min verification (l.alarmRun + 1) else 0
  { l with
    band := some b, alarmRun := run
    latched := l.latched || decide (b = .alarm ∧ run = verification) }

/-- The trouble run after a sample (R46, R47). -/
def Loop.judgeTrouble (l : Loop) (b : Band) : Loop :=
  if l.trouble = .none then
    if b.faulty then
      if l.troubleRun + 1 = 4 then { l with trouble := b.trouble, troubleRun := 0 }
      else { l with troubleRun := l.troubleRun + 1 }
    else { l with troubleRun := 0 }
  else if b.faulty then { l with trouble := b.trouble, troubleRun := 0 }
  else if l.troubleRun + 1 = 4 then { l with trouble := .none, troubleRun := 0 }
  else { l with troubleRun := l.troubleRun + 1 }

/-- The zone latch of a zone set (R44, R48). -/
def Detection.latchZone (d : Detection) (z : Zone) : Detection :=
  match z with
  | .a => { d with zoneA := true }
  | .b => { d with zoneB := true }

/-- A loop code taken in (R42 to R48, R50): a latch made by it is handed to the suppression
controller, the zone latch set. -/
def Station.loopSampled (st : Station) (n : Fin 4) (code : BitVec 10) : Station :=
  let c := st.cfg.loop n
  if c.kind = .unused then st
  else
    let l := st.det.loop n
    let b := bandOfCode code
    let l' := (l.alarm b c.kind.verification).judgeTrouble b
    let st := st.onDet (·.setLoop n l')
    if l'.latched && !l.latched then (st.onDet (·.latchZone c.zone)).latched c.kind else st

/-- A battery code taken in (R49). -/
def Detection.takeBattery (d : Detection) (low : Nat) (code : BitVec 10) : Detection :=
  let against := if d.battery then decide (low ≤ code.toNat) else decide (code.toNat < low)
  if against then
    if d.batteryRun + 1 = 2 then { d with battery := !d.battery, batteryRun := 0 }
    else { d with batteryRun := d.batteryRun + 1 }
  else { d with batteryRun := 0 }

end Sys2Proof
end

