-- ==== Sys2Proof/Machine/ClimateCommands.lean ====
section
/-! DEFINITION. The meanings of the climate and motion commands (Chapters 1 and 2). -/

namespace Sys2Proof.Machine

/-- MEASUREMENT_SLOT (R1, R2). -/
def execMeasurementSlot (s : State) : Host.Outcome State Fault Refusal :=
  s.run fun st => st.onlyIf st.bay (·.onMoist Moisture.beginSlot)

/-- CAPTURE_COMPLETE (R2, R5 to R13, R16, R19): the count that the sensor gives changes in every state; a
capture's end, the row's own event, is the measurement, then the computation. -/
def execCaptureComplete (event : CaptureEvent) (s : State) : Host.Outcome State Fault Refusal :=
  s.run fun st =>
    match event with
    | .level count => st.onPins fun p => { p with sensor := count }
    | .complete count =>
      st.onlyIf st.bay fun st => (st.onMoist (·.measure st.cfg count)).computeDemand

/-- EXCURSION_DELAY_EXPIRY (R14). -/
def execExcursionDelayExpiry (s : State) : Host.Outcome State Fault Refusal :=
  s.run fun st => st.onlyIf st.bay (·.onMoist Moisture.delayExpired)

/-- TEMPERATURE_CODE (R3, R41): the code that the channel gives changes in every state; a sample, the
row's own event, goes to the moisture unit of a BAY and is discarded at a HATCH. -/
def execTemperatureCode (event : AdcEvent) (s : State) : Host.Outcome State Fault Refusal :=
  s.run fun st =>
    match event with
    | .level code => st.onPins fun p => { p with adcTemp := code }
    | .sample code =>
      st.onlyIf st.running fun st =>
        (st.onDet (·.sampled .temperature)).onlyIf st.bay (·.onMoist (·.takeTemp code))

/-- VALVE_PERIOD_EXPIRY (R25): a period start. -/
def execValvePeriodExpiry (s : State) : Host.Outcome State Fault Refusal :=
  s.run fun st => st.onlyIf (st.bay && st.air.period.isSome) Station.periodStart

/-- ON_TIME_EXPIRY (R25). -/
def execOnTimeExpiry (s : State) : Host.Outcome State Fault Refusal :=
  s.run fun st => st.onlyIf st.bay (·.onAir DryAir.onTimeExpired)

/-- NEIGHBOUR_SEAL_EXPIRY (R29, R28). -/
def execNeighbourSealExpiry (s : State) : Host.Outcome State Fault Refusal :=
  s.run fun st => st.onlyIf st.bay Station.sealExpired

/-- DEAD_TIME_EXPIRY (R31, R161): it may run out in any start state. -/
def execDeadTimeExpiry (s : State) : Host.Outcome State Fault Refusal :=
  s.run fun st => st.onlyIf st.live fun st => Station.reported st.deadExpired

/-- TRAVEL_EXPIRY (R34). -/
def execTravelExpiry (s : State) : Host.Outcome State Fault Refusal :=
  s.run fun st => st.onlyIf st.running fun st => Station.reported st.travelExpired

/-- END_SWITCH_CLOSE (R33, R159): the level of the pin changes in every state; the channel acts from
entry into LISTEN (R39). -/
def execEndSwitchClose (sw : EndSwitch) (s : State) : Host.Outcome State Fault Refusal :=
  s.run fun st =>
    let st := st.onPins (·.setSwitch sw true)
    st.onlyIf st.running fun st =>
      match st.cfg.role, sw with
      | .bay, .openEnd => Station.reported (st.arrivalComes .a)
      | .bay, .closedEnd => Station.reported (st.arrivalComes .b)
      | .hatch, .innerEnd => st.innerEndClosed
      | _, _ => st

/-- END_SWITCH_OPEN (R36): the level of the pin changes in every state; the channel acts from entry
into LISTEN (R39). -/
def execEndSwitchOpen (sw : EndSwitch) (s : State) : Host.Outcome State Fault Refusal :=
  s.run fun st =>
    let st := st.onPins (·.setSwitch sw false)
    st.onlyIf st.running fun st =>
      match sw.motionEnd st.cfg.role with
      | some e => Station.reported (st.loadLeaves e)
      | none => st

end Sys2Proof.Machine
end

