-- ==== Sys2Proof/Machine/Door.lean ====
section
/-! DEFINITION. The door unit (Chapter 5): the badge reads, the unlock pulse, OCCUPANCY-CLEAR and the
empty-bay check. -/

namespace Sys2Proof

/-- A door unlock pulse (R79). -/
def Station.unlockPulse (st : Station) : Station :=
  st.onDoor fun d => { d with output := true, unlock := some (ticksOfSec st.cfg.doorPulse) }

/-- The door unlock timer's expiry (R79). -/
def Door.unlockExpired (d : Door) : Door :=
  if d.unlock.isSome then { d with output := false, unlock := none } else d

/-- The empty-bay check at one slot (R82): its record is read, and one that counts is alerted. -/
def Station.emptyBayCheck (st : Station) (n : Nat) : Station :=
  let st := st.noticeDamage n
  match (st.table.slot n).view with
  | .out c u =>
    st.onlyIf (u || (st.pullFor c.id).isSome)
      (·.handAlert .door (alertBody .unscannedExit (some n) (some c.id)))
  | _ => st

/-- The list has become empty: the report to the suppression controller (R80), then the empty-bay
check over the slots in slot order (R82). -/
def Station.bayEmptied (st : Station) : Station :=
  (List.range 256).foldl Station.emptyBayCheck st.occupancyEmptied

/-- An ATTENDANT read at the bay door (R78). -/
def Station.badgeRead (st : Station) (id : Cart) : Station :=
  if st.door.occupancy.contains id then
    let st := (st.setOccupancy (st.door.occupancy.erase id)).unlockPulse
    st.onlyIf st.door.occupancy.isEmpty Station.bayEmptied
  else if st.confirmed then st
  else if 8 ≤ st.door.occupancy.length then st
  else (st.setOccupancy (st.door.occupancy ++ [id])).unlockPulse

/-- An OCCUPANCY-CLEAR request (R81). -/
def Station.takeOccupancyClear (src : Addr) (seq : Byte) (st : Station) : Station :=
  let answer (st : Station) (o : ReplyOutcome) : Station := st.reply .door src kindOccupancyClear seq o
  if st.cfg.role = .hatch then answer st .role
  else if !st.joined then answer st .notReady
  else if st.isSealed then answer st .sealed
  else if st.door.occupancy.isEmpty then answer st .done
  else answer (st.setOccupancy []).bayEmptied .done

end Sys2Proof
end

