-- ==== Sys2Proof/Machine/Peers.lean ====
section
/-! DEFINITION. The peer view (Chapter 10): what messages and silence do to its records, and the
messages whose handling begins with it. -/

namespace Sys2Proof

/-- One record rewritten; an address without a record changes nothing (R165). -/
def Station.modifyPeer (st : Station) (a : Addr) (f : Peer → Peer) : Station :=
  st.onPeers fun v => { v with records := v.records.modify a.toNat f }

/-- What an ALIVE or SILENT record holds; an UNHEARD or LOST one has every optional field absent and
the interval 10 s until one is reported (R168). -/
def Peer.data : Peer → PeerData
  | .alive d => d
  | .silent d => d
  | .unheard => { age := 0, interval := 10, roleDemand := none, fire := none }
  | .lost => { age := 0, interval := 10, roleDemand := none, fire := none }

/-- A record refreshed without writing its fields (R168). -/
def Peer.refresh (p : Peer) : Peer := .alive { p.data with age := 0 }

/-- A record written whole by a STATUS with a known fire state (R166). -/
def Peer.ofStatus (b : StatusBody) (f : FireState) : Peer :=
  .alive
    { age := 0, interval := intervalOfByte b.interval, roleDemand := some (b.role, b.demand.toNat)
      fire := some (f, 0) }

/-- The fire fields written by a FIRE-REPORT (R167). -/
def Peer.takeFire (p : Peer) (f : FireState) : Peer :=
  .alive { p.data with age := 0, fire := some (f, 0) }

/-- Membership of the neighbour set (R165, R171). -/
def Station.isNeighbour (st : Station) (a : Addr) : Bool := st.peers.neighbours.contains a

/-- A STATUS taken in (R166). -/
def Station.takeStatus (src : Addr) (b : StatusBody) (st : Station) : Station :=
  match FireState.ofCode b.fire with
  | none => st.modifyPeer src Peer.refresh
  | some f =>
    (st.modifyPeer src fun _ => Peer.ofStatus b f).onlyIf (st.isNeighbour src) Station.neighbourTest

/-- A FIRE-REPORT taken in (R167). -/
def Station.takeFireReport (src : Addr) (b : FireReportBody) (st : Station) : Station :=
  match FireState.ofCode b.fire with
  | none => st.modifyPeer src Peer.refresh
  | some f =>
    (st.modifyPeer src (·.takeFire f)).onlyIf (st.isNeighbour src) Station.neighbourTest

/-- Any other message of a peer: the record is refreshed, then the owning block acts (R168). -/
def Station.refreshed (src : Addr) (f : Station → Station) (st : Station) : Station :=
  f (st.modifyPeer src Peer.refresh)

/-- A DISCHARGE taken in (R168, R29): the dry-air unit of a BAY acts on one from a neighbour. -/
def Station.takeDischarge (src : Addr) (soakMinutes : Byte) (st : Station) : Station :=
  (st.modifyPeer src Peer.refresh).onlyIf
    (decide (st.cfg.role = .bay) && st.isNeighbour src) (·.neighbourDischarge soakMinutes)

/-- An ALIVE record whose heard age has reached three of the peer's beacon intervals becomes SILENT; one
whose age a message has set back has not reached the threshold (R169). -/
def Peer.fallSilent : Peer → Peer
  | .alive d => if d.silentFor 3 then .silent d else .alive d
  | .silent d => .silent d
  | .unheard => .unheard
  | .lost => .lost

/-- A record whose heard age has reached ten of the peer's beacon intervals becomes LOST (R169). -/
def Peer.fallLost : Peer → Peer
  | .alive d => if d.silentFor 10 then .lost else .alive d
  | .silent d => if d.silentFor 10 then .lost else .silent d
  | .unheard => .unheard
  | .lost => .lost

/-! ### The source of a message -/

/-- Entry into CLASH (R177), from LISTEN or JOINED: the attempt stops, the queue and what the blocks
held pending are gone, the timers of the line stop, a waiting restart is abandoned (R189), and the
pull queue freezes (R110). In CLASH already, no further effect. -/
def Station.enterClash (st : Station) : Station :=
  if st.loader.state = .clash then st
  else
    ((st.onLoader fun l =>
        { l with state := .clash, listenTimer := none, restartWait := none }).onLine fun l =>
      { l with
        queue := [], pend := [], attempt := .none, permit := false, beacon := none,
        faultTimer := none }).pullsChanged

/-- A message of a station kind taken in (R176 rows 2 and 6): from the own address it is a clash, from
a station it is handled, from any other source it is discarded. -/
def Station.fromPeer (src : Addr) (f : Station → Station) (st : Station) : Station :=
  st.onlyIf st.running fun st =>
    if src = st.loader.own then st.enterClash
    else st.onlyIf (isStation src) f

/-- A message of a console kind taken in (R176 rows 2 and 5): from the own address it is a clash, from
a console it is handled, from any other source it is discarded. -/
def Station.fromConsole (src : Addr) (f : Station → Station) (st : Station) : Station :=
  st.onlyIf st.running fun st =>
    if src = st.loader.own then st.enterClash
    else st.onlyIf (isConsole src) f

end Sys2Proof
end

