-- ==== Sys2Proof/Machine/FireCommands.lean ====
section
/-! DEFINITION. The meanings of the detection, suppression and door commands (Chapters 3
to 5). -/

namespace Sys2Proof.Machine

/-- ADC_SCAN (R41). -/
def execAdcScan (s : State) : Host.Outcome State Fault Refusal :=
  s.run fun st => st.onlyIf st.running (·.onDet Detection.beginScan)

/-- LOOP_SAMPLE (R41 to R50, R57 to R61): the code that the channel gives changes in every state; a
sample, the row's own event, is taken in where the detection unit runs. -/
def execLoopSample (loop : Fin 4) (event : AdcEvent) (s : State) :
    Host.Outcome State Fault Refusal :=
  s.run fun st =>
    match event with
    | .level code => st.onPins (·.setLoopCode loop code)
    | .sample code =>
      st.onlyIf st.running fun st => (st.onDet (·.sampled (.loop loop))).loopSampled loop code

/-- BATTERY_CODE (R41, R49): as LOOP_SAMPLE. -/
def execBatteryCode (event : AdcEvent) (s : State) : Host.Outcome State Fault Refusal :=
  s.run fun st =>
    match event with
    | .level code => st.onPins fun p => { p with adcBattery := code }
    | .sample code =>
      st.onlyIf st.running fun st =>
        st.onDet fun d => (d.sampled .battery).takeBattery st.cfg.batteryLow code

/-- HOLD_SWITCH_CHANGE (R64): the level of the input changes in every state, and its filter follows it
from entry into LISTEN on; a change of the filtered reading is the row's own event. -/
def execHoldSwitchChange (event : SwitchEvent) (s : State) : Host.Outcome State Fault Refusal :=
  s.run fun st =>
    match event with
    | .level closed =>
      (st.onPins fun p => { p with holdInput := closed }).onlyIf st.running (·.onSupp fun x =>
        { x with holdFilter := filterSwitch x.holdFilter x.holdClosed closed })
    | .filtered closed => st.onlyIf st.running (·.holdSwitch closed)

/-- EVACUATION_EXPIRY (R62). -/
def execEvacuationExpiry (s : State) : Host.Outcome State Fault Refusal :=
  s.run fun st => st.onlyIf st.running Station.evacuationExpired

/-- COUNTDOWN_EXPIRY (R65). -/
def execCountdownExpiry (s : State) : Host.Outcome State Fault Refusal :=
  s.run fun st => st.onlyIf st.running Station.countdownExpired

/-- RELEASE_PULSE_EXPIRY (R66). -/
def execReleasePulseExpiry (s : State) : Host.Outcome State Fault Refusal :=
  s.run fun st => st.onlyIf st.running Station.pulseExpired

/-- SOAK_EXPIRY (R68). -/
def execSoakExpiry (s : State) : Host.Outcome State Fault Refusal :=
  s.run fun st => st.onlyIf st.running Station.soakExpired

/-- RESTORE (R72, R73). -/
def execRestore (src : Addr) (seq : Byte) (s : State) : Host.Outcome State Fault Refusal :=
  s.run (Station.fromConsole src (Station.takeRestore src seq))

/-- ATTENDANT_READ (R76, R78): a read of reader A at a bay door. -/
def execAttendantRead (cls : TagClass) (number : Cart) (s : State) :
    Host.Outcome State Fault Refusal :=
  s.run fun st => st.onlyIf (st.bay && decide (cls = .attendant)) (·.badgeRead number)

/-- DOOR_UNLOCK_EXPIRY (R79). -/
def execDoorUnlockExpiry (s : State) : Host.Outcome State Fault Refusal :=
  s.run fun st => st.onlyIf st.bay (·.onDoor Door.unlockExpired)

/-- OCCUPANCY_CLEAR (R81). -/
def execOccupancyClear (src : Addr) (seq : Byte) (s : State) : Host.Outcome State Fault Refusal :=
  s.run (Station.fromConsole src (Station.takeOccupancyClear src seq))

end Sys2Proof.Machine
end

