-- ==== Sys2Proof/Machine/HatchCommands.lean ====
section
/-! DEFINITION. The meanings of the courier hatch commands (Chapter 9). -/

namespace Sys2Proof.Machine

/-- CHECKIN (R149). -/
def execCheckin (src : Addr) (seq : Byte) (job : Job) (cart : Cart) (dest : Addr) (s : State) :
    Host.Outcome State Fault Refusal :=
  s.run (Station.fromConsole src (Station.takeCheckin src seq job cart dest))

/-- INNER_READ (R147, R150). -/
def execInnerRead (cls : TagClass) (number : Cart) (s : State) : Host.Outcome State Fault Refusal :=
  s.run fun st =>
    st.onlyIf (st.hatchUnit && st.joined && decide (cls = .cartridge)) (·.innerScan number)

/-- COURIER_READ (R147, R152). -/
def execCourierRead (number : Cart) (s : State) : Host.Outcome State Fault Refusal :=
  s.run fun st => st.onlyIf (st.hatchUnit && st.joined) (·.courierCard number)

/-- OUTER_CARTRIDGE_READ (R147, R154, R155). -/
def execOuterCartridgeRead (cart : Cart) (s : State) : Host.Outcome State Fault Refusal :=
  s.run fun st => st.onlyIf (st.hatchUnit && st.joined) (·.outerScan cart)

/-- SEND_PRESS (R147, R153, R162): the level of the button changes in every state, and its timer follows it
from entry into LISTEN on; the press that counts, the button held for 50 ms, is the row's own event. -/
def execSendPress (s : State) (event : ButtonEvent := .press) : Host.Outcome State Fault Refusal :=
  s.run fun st =>
    match event with
    | .level down =>
      (st.onPins fun p => { p with sendDown := down }).onlyIf st.hatchUnit (·.onHatch fun h =>
        { h with sendTimer := holdButton h.sendTimer st.pins.sendDown down })
    | .press =>
      st.onlyIf st.hatchUnit fun st =>
        ((st.onPins fun p => { p with sendDown := true }).onHatch fun h =>
          { h with sendTimer := none }).sendPressed

/-- DONE_PRESS (R147, R155, R162): as SEND_PRESS. -/
def execDonePress (s : State) (event : ButtonEvent := .press) : Host.Outcome State Fault Refusal :=
  s.run fun st =>
    match event with
    | .level down =>
      (st.onPins fun p => { p with doneDown := down }).onlyIf st.hatchUnit (·.onHatch fun h =>
        { h with doneTimer := holdButton h.doneTimer st.pins.doneDown down })
    | .press =>
      st.onlyIf st.hatchUnit fun st =>
        ((st.onPins fun p => { p with doneDown := true }).onHatch fun h =>
          { h with doneTimer := none }).donePressed

/-- SESSION_TIMER_EXPIRY (R156). -/
def execSessionTimerExpiry (s : State) : Host.Outcome State Fault Refusal :=
  s.run fun st => st.onlyIf st.hatchUnit Station.sessionExpired

/-- ENCODER_TRANSITION (R159, R160): the levels of the pins change in every state; the hatch unit acts
from entry into LISTEN (R147). -/
def execEncoderTransition (phaseA phaseB : Bool) (s : State) : Host.Outcome State Fault Refusal :=
  s.run fun st =>
    (st.onPins fun p => { p with phaseA := phaseA, phaseB := phaseB }).onlyIf st.hatchUnit
      (·.encoderChanged phaseA phaseB)

/-- FLAP_CHANGE (R161): the level of the pin changes in every state; the hatch unit acts from entry into
LISTEN (R147). -/
def execFlapChange (flap : Flap) (opened : Bool) (s : State) : Host.Outcome State Fault Refusal :=
  s.run fun st =>
    (st.onPins (·.setFlap flap opened)).onlyIf st.hatchUnit (·.flapChanged opened)

end Sys2Proof.Machine
end

