-- ==== Sys2Proof/Machine/CheckOut.lean ====
section
/-! DEFINITION. Check-out and the check station (sections 7.1 and 7.2): CHECKOUT, CANCEL, and the
reads of reader B. -/

namespace Sys2Proof

/-- A record's refusal of a CHECKOUT, from HELD to BUSY in the order of R108. -/
def Station.recordRefusal (st : Station) (n : Nat) (r : Rec) : Option ReplyOutcome :=
  if st.isHeld n then some .held
  else if (r.cart.map CartData.inspect).getD false then some .inspect
  else if (r.cart.bind CartData.acclim).isSome then some .acclimatizing
  else match r with
    | .filed _ => none
    | _ => some .busy

/-- An accepted CHECKOUT (R108): the entry joins at the end, QUEUED is handed on, and the lighting and
the suspension test follow. -/
def Station.queuePull (st : Station) (e : PullEntry) : Station :=
  ((st.setPulls (st.pulls.entries ++ [e])).reply .pulls e.requester kindCheckout e.reqSeq .queued
    (some (.slot e.slot))).pullsChanged

/-- The tests of a CHECKOUT from the lookup's answer on (R108). -/
def Station.checkoutLookup (st : Station) (src : Addr) (seq : Byte) (c : Cart) (job : Job)
    (hatch : Addr) : Station :=
  let refuse (o : ReplyOutcome) : Station := st.reply .pulls src kindCheckout seq o
  match st.table.lookup c with
  | .absent => refuse .notFound
  | .damaged _ => if (st.pullFor c).isSome then refuse .duplicate else refuse .damaged
  | .sound n r =>
    if (st.pullFor c).isSome then refuse .duplicate
    else match st.recordRefusal n r with
      | some o => refuse o
      | none =>
        if !st.peers.reachable hatch .hatch then refuse .unreachable
        else if 16 ≤ st.pulls.entries.length then refuse .full
        else st.queuePull
          { cart := c, slot := n, job := job, hatch := hatch, requester := src, reqSeq := seq,
            state := .waiting }

/-- The tests of a CHECKOUT (R108). -/
def Station.checkoutTests (st : Station) (src : Addr) (seq : Byte) (c : Cart) (job : Job)
    (hatch : Addr) : Station :=
  let refuse (o : ReplyOutcome) : Station := st.reply .pulls src kindCheckout seq o
  if st.cfg.role = .hatch then refuse .role
  else if !st.joined then refuse .notReady
  else if st.isSealed then refuse .sealed
  else if st.confirmed then refuse .fire
  else st.readAll.checkoutLookup src seq c job hatch

/-- A CHECKOUT request (R108); one sent to ALL is taken by a BAY whose lookup finds the cartridge
(R109). -/
def Station.takeCheckout (src : Addr) (seq : Byte) (toAll : Bool) (c : Cart) (job : Job) (hatch : Addr)
    (st : Station) : Station :=
  if toAll then
    if st.cfg.role = .hatch then st
    else
      let st := st.readAll
      st.onlyIf (st.table.lookup c).found (·.checkoutTests src seq c job hatch)
  else st.checkoutTests src seq c job hatch

/-- A CANCEL request (R112). -/
def Station.takeCancel (src : Addr) (seq : Byte) (c : Cart) (st : Station) : Station :=
  let answer (st : Station) (o : ReplyOutcome) : Station := st.reply .pulls src kindCancel seq o
  if st.cfg.role = .hatch then answer st .role
  else if !st.joined then answer st .notReady
  else if st.isSealed then answer st .sealed
  else match st.pullFor c with
    | none => answer st .notFound
    | some e =>
      if e.state = .out then answer st .busy
      else answer (st.cancelPulls fun x => decide (x.cart = c)) .done

/-- A departure (R114). The depart write is the pull queue's own, so the entry is removed without a
reply. -/
def Station.departure (st : Station) (e : PullEntry) : Station :=
  let st := st.noticeDamage e.slot
  let lost := st.cancelPulls fun x => decide (x.cart = e.cart)
  match (st.table.slot e.slot).view with
  | .out c _ =>
    if c.id = e.cart then
      match st.openXfer .outbound e.cart e.job (some e.slot) none e.hatch with
      | (st, some t) =>
        (st.putRecord e.slot (.departing c t)).setPulls
          (st.pulls.entries.filter fun x => decide (x.cart ≠ e.cart))
      | (st, none) => st
    else lost
  | _ => lost

/-- The WRONG-CARTRIDGE alert (R113 rows 5 and 6). -/
def Station.wrongCartridge (st : Station) (n : Nat) (c : Cart) : Station :=
  st.hand .pulls allAddr (.custodyAlert (alertBody .wrongCartridge (some n) (some c)))

/-- A scan that no audit, pull or transfer awaits (R113 rows 4 to 7). -/
def Station.strangeScan (st : Station) (c : Cart) : Station :=
  let st := st.readAll
  match st.table.lookup c with
  | .absent => st.makeClaim c
  | .damaged _ => st
  | .sound n (.out ..) => st.wrongCartridge n c
  | .sound n (.filed _) => st.wrongCartridge n c
  | .sound _ _ => st

/-- A CARTRIDGE read at the check station (R113). -/
def Station.checkStation (st : Station) (c : Cart) : Station :=
  if st.audit.state = .reading then st.auditScan c
  else match st.pulls.entries.find? fun e => decide (e.cart = c) && decide (e.state = .out) with
    | some e => st.departure e
    | none =>
      match st.expectedXfer c with
      | some e => st.arrival e
      | none => st.strangeScan c

end Sys2Proof
end

