-- ==== Sys2Proof/Machine/Image.lean ====
section
/-! DEFINITION. The range check of the configuration image (section 12.1, R185): every field set or
with a default, and within its range. -/

namespace Sys2Proof

/-- A field within its range. -/
def inRange (lo hi n : Nat) : Option Nat := if lo ≤ n ∧ n ≤ hi then some n else none

/-- A field without a default. -/
def mustBe (lo hi : Nat) (x : Option Nat) : Option Nat := x.bind (inRange lo hi)

/-- A field with a default. -/
def orDefault (lo hi d : Nat) (x : Option Nat) : Option Nat := inRange lo hi (x.getD d)

/-- The role of its place in the list BAY, HATCH. -/
def Role.ofPlace (n : Nat) : Role := if n = 0 then .bay else .hatch

/-- TX_ORDER of its place in the list. -/
def TxOrder.ofPlace (n : Nat) : TxOrder := if n = 0 then .custodyFirst else .routineFirst

/-- A loop kind of its place in the list. -/
def LoopKind.ofPlace (n : Nat) : LoopKind :=
  match n with
  | 0 => .unused
  | 1 => .smoke
  | 2 => .heat
  | _ => .manual

/-- One loop's fields, UNUSED and A by default. -/
def RawLoop.check (l : RawLoop) : Option LoopConfig :=
  (orDefault 0 3 0 l.kind).bind fun k => (orDefault 0 1 0 l.zone).map fun z =>
    { kind := .ofPlace k, zone := if z = 0 then .a else .b }

/-- The neighbour set: at most four addresses, each 0 to 23, empty by default. -/
def checkNeighbours (x : Option (List Nat)) : Option (List Addr) :=
  let l := x.getD []
  if l.length ≤ 4 ∧ l.all (fun a => decide (a ≤ 23)) then some (l.map (BitVec.ofNat 8)) else none

/-- K, from −64 to 63. -/
def checkK (x : Option Int) : Option Int :=
  x.bind fun k => if -64 ≤ k ∧ k ≤ 63 then some k else none

/-- ALPHA_DIV: 1, 2, 4, 8 or 16. -/
def checkAlpha (x : Option Nat) : Option Nat :=
  x.bind fun a => if [1, 2, 4, 8, 16].contains a then some a else none

/-- The hold setting and protection mode of the image. DESIGN CHOICE (log entry 9): the complement is
coded as a flag, 1 set and 0 clear, and not as its place in the list of section 12.1. -/
def RawImage.checkHold (i : RawImage) : Option (HoldSetting × HoldMode) :=
  (mustBe 0 8 i.holdExtent).bind fun e => (mustBe 0 1 i.holdEnd).bind fun d =>
  (mustBe 0 1 i.holdComplement).bind fun c => (mustBe 0 2 i.holdMode).map fun m =>
    ({ extent := e, holdEnd := if d = 0 then .low else .high, complement := decide (c = 1) },
      if m = 0 then .opened else if m = 1 then .keyed else .fixed)

/-- The configuration record an image gives, with every field at its default; none where a field is
unset without a default or lies outside its range, MINPULSE and P100 within their limits against
VALVE_PERIOD and P0 included (R185). -/
def RawImage.check (i : RawImage) : Option ConfigRecord := do
  let role ← mustBe 0 1 i.role
  let beacon ← orDefault 1 10 2 i.beacon
  let neighbours ← checkNeighbours i.neighbours
  let txOrder ← orDefault 0 1 0 i.txOrder
  let loop0 ← i.loop0.check
  let loop1 ← i.loop1.check
  let loop2 ← i.loop2.check
  let loop3 ← i.loop3.check
  let confWin ← orDefault 10 300 60 i.confWin
  let evacLimit ← orDefault 30 600 120 i.evacLimit
  let predischarge ← orDefault 10 60 30 i.predischarge
  let releasePulse ← orDefault 1 10 3 i.releasePulse
  let soakTime ← orDefault 10 120 20 i.soakTime
  let batteryLow ← mustBe 0 1023 i.batteryLow
  let p0 ← mustBe 8000 60000 i.p0
  let p100 ← mustBe (p0 + 1000) 65000 i.p100
  let k ← checkK i.k
  let sp ← mustBe 200 700 i.sp
  let band ← mustBe 10 100 i.band
  let db ← mustBe 0 100 i.db
  let gain ← mustBe 1 255 i.gain
  let alphaDiv ← checkAlpha i.alphaDiv
  let excDelay ← mustBe 0 600 i.excDelay
  let fallbackDemand ← mustBe 0 255 i.fallbackDemand
  let capacity ← mustBe 1 4095 i.capacity
  let cap ← mustBe 1 4095 i.cap
  let vfull ← mustBe 1 4095 i.vfull
  let valvePeriod ← mustBe 4 60 i.valvePeriod
  let minPulse ← mustBe 100 (min 5000 (valvePeriod * 250)) i.minPulse
  let damperTravel ← mustBe 5 60 i.damperTravel
  let drawerTravel ← mustBe 5 60 i.drawerTravel
  let expoLimit ← mustBe 1 65535 i.expoLimit
  let acclim ← mustBe 0 10080 i.acclim
  let hold ← i.checkHold
  let transitLimit ← orDefault 60 3600 300 i.transitLimit
  let sessionLimit ← orDefault 60 1800 600 i.sessionLimit
  let auditStepLimit ← orDefault 60 1800 600 i.auditStepLimit
  let posOut ← mustBe 256 4000 i.posOut
  let doorPulse ← orDefault 1 15 5 i.doorPulse
  some
    { role := .ofPlace role, beacon := beacon, neighbours := neighbours, txOrder := .ofPlace txOrder
      loop0 := loop0, loop1 := loop1, loop2 := loop2, loop3 := loop3, confWin := confWin
      evacLimit := evacLimit, predischarge := predischarge, releasePulse := releasePulse
      soakTime := soakTime, batteryLow := batteryLow, p0 := p0, p100 := p100, k := k, sp := sp
      band := band, db := db, gain := gain, alphaDiv := alphaDiv, excDelay := excDelay
      fallbackDemand := fallbackDemand, capacity := capacity, cap := cap, vfull := vfull
      valvePeriod := valvePeriod, minPulse := minPulse, damperTravel := damperTravel
      drawerTravel := drawerTravel, expoLimit := expoLimit, acclim := acclim, hold := hold.1
      holdMode := hold.2, transitLimit := transitLimit, sessionLimit := sessionLimit
      auditStepLimit := auditStepLimit, posOut := posOut, doorPulse := doorPulse }

end Sys2Proof
end

