-- ==== Sys2Proof/Machine/LineAccess.lean ====
section
/-! DEFINITION. The line interface's access to the line (sections 11.4 and 11.5): attempts, LINE-FAULT,
and the composing of STATUS. -/

namespace Sys2Proof

/-! ### STATUS -/

/-- The STATUS body of the station as its items stand (R182). -/
def Station.statusBody (st : Station) : StatusBody where
  fire := st.supp.fire.code
  zoneA := st.det.zoneA
  zoneB := st.det.zoneB
  lock := st.supp.lock
  role := st.cfg.role
  loopOpen := st.loopOpenItem
  loopShort := st.loopShortItem
  battery := st.det.battery
  stall := st.stallItem
  sensorFault := st.sensorFaultItem
  sealedFlag := st.isSealed
  neighbourSeal := st.neighbourSealFlag
  filtered :=
    if st.cfg.role = .bay then st.moist.handedOn.map (BitVec.ofNat 16) else none
  occupancy := BitVec.ofNat 4 st.occupancyCount
  excursion := if st.cfg.role = .bay then st.moist.status else .inBand
  demand := BitVec.ofNat 8 st.reportedDemand
  places := BitVec.ofNat 16 (if st.cfg.role = .bay then st.freeSlots else st.hatch.custody.length)
  interval := BitVec.ofNat 8 st.cfg.beacon

/-- A STATUS composed and offered to the queue (R182); counting the free slots reads every record of
a BAY (R88, R104). -/
def Station.sendStatus (st : Station) : Station :=
  let st := st.onlyIf (decide (st.cfg.role = .bay)) Station.readAll
  (st.onLine (·.offerStatus (.status st.statusBody))).select

/-- The beacon timer loaded with the station's own interval (R182). -/
def Station.loadBeacon (st : Station) : Station :=
  st.onLine fun l => { l with beacon := some (ticksOfSec st.cfg.beacon) }

/-- The beacon timer's expiry (R182). -/
def Station.beaconExpired (st : Station) : Station :=
  st.onlyIf st.line.beacon.isSome (·.loadBeacon.sendStatus)

/-! ### Attempts -/

/-- The line is idle (R174, R180 step 1). -/
def Station.lineBecomesIdle (st : Station) : Station :=
  (st.onLine fun l => { l with idle := true }).select

/-- A character is heard during the wait of an access delay (R180 step 3). -/
def Line.heard (l : Line) : Line :=
  { l with
    idle := false
    attempt := match l.attempt with
      | .waiting _ _ => .none
      | a => a }

/-- The frame of a queued message (R175). -/
def QMsg.frame (own : Addr) (q : QMsg) : List Byte :=
  frameOf { dest := q.dest, src := own, seq := q.seq, body := q.body }

/-- The access delay runs out and the frame is sent (R180 step 4). -/
def Line.startSending (l : Line) (own : Addr) : Line :=
  match l.attempt with
  | .waiting m _ =>
    match l.queue.find? fun q => decide (q.made = m) with
    | some q => { l with attempt := .sending m (q.frame own), idle := false, echo := none }
    | none => { l with attempt := .none }
  | .none => l
  | .sending _ _ => l

/-- The frame being sent. -/
def Attempt.frame (a : Attempt) : Option (List Byte) :=
  match a with
  | .sending _ f => some f
  | .none => Option.none
  | .waiting _ _ => Option.none

/-- A success (R180, R181): the message leaves the queue and the line state is NORMAL. The frame has yet
to be judged as the station's own readback, when the line is idle again (R174, R176 row 1). -/
def Line.succeed (l : Line) (m : Nat) : Line :=
  { l.remove m with
    attempt := .none, failures := 0, backoff := false, permit := false, state := .normal,
    faultTimer := if l.state = .lineFault then none else l.faultTimer
    echo := l.attempt.frame }

/-- A failure (R180, R181): the sixteenth brings LINE-FAULT. -/
def Line.fail (l : Line) : Line :=
  let n := min 16 (l.failures + 1)
  let l := { l with attempt := .none, failures := n, backoff := true }
  if n = 16 ∧ l.state = .normal then
    { l with state := .lineFault, faultTimer := some (ticksOfSec 1) }
  else l

/-- A readback failure of the frame being sent (R180). -/
def Line.readbackFails (l : Line) : Line :=
  match l.attempt with
  | .sending _ _ => l.fail
  | .none => l
  | .waiting _ _ => l

/-- The LINE-FAULT timer's expiry (R181): one attempt is permitted where the queue holds a message.
DEDUCED (log entry 22): an expiry that finds an attempt still under way permits none beside it. -/
def Line.faultExpired (l : Line) : Line :=
  { l with
    faultTimer := some (ticksOfSec 1)
    permit := !l.queue.isEmpty && decide (l.attempt = .none) }

/-- The LINE-FAULT timer's expiry taken (R181). DESIGN CHOICE (log entry 22): where the line is idle
already, the message is selected at once and the expiry is the idle point of its access delay. -/
def Station.lineFaultExpired (st : Station) : Station :=
  st.onlyIf (decide (st.line.state = .lineFault) && st.line.faultTimer.isSome) fun st =>
    (st.onLine Line.faultExpired).select

end Sys2Proof
end

