-- ==== Sys2Proof/Machine/Start.lean ====
section
/-! DEFINITION. The configuration loader (Chapter 12): the start with each block's start table, the
image, the retention check, LISTEN, JOINED, the supply, the reset line and RESTART. -/

namespace Sys2Proof

/-! ### A start -/

/-- The volatile state of a slot at a start (R105), before the retained presence is read. -/
def Slot.start (sl : Slot) : Slot := { sl with debounced := none, last := none, damage := .none }

/-- The volatile state of a transfer entry at a start (R146): its reply timer stopped. The transit timer is
a field of the retained entry, left as it stands (R188) until entry into LISTEN sets it. -/
def XferEntry.start (e : XferEntry) : XferEntry := { e with reply := none }

/-- The release lock after a start (R75): clear after power-up; else kept, and set where the start cuts
a release pulse short. -/
def Suppression.lockAfter (s : Suppression) (k : StartKind) : Bool :=
  match k with
  | .powerUp => false
  | .resetLine => s.lock || s.release

/-- A start begins in LOADING (R185, R189): every block's volatile state as its start table gives
(R18, R38, R39, R53, R75, R85, R105, R124, R146, R164, R173, R184), the retained collections kept. -/
def Station.beginStart (st : Station) (k : StartKind) : Station :=
  Station.startMotion
    { st with
      loader :=
        { st.loader with
          state := .loading, faultCode := 0, startKind := k, listenTimer := none,
          restartWait := none, joinedFor := 0 }
      moist := .start
      air := .start
      det := .start
      supp := .start (st.supp.lockAfter k)
      door := { st.door with unlock := none, output := false }
      table :=
        { st.table with
          slots := st.table.slots.map Slot.start, keyOn := false, keyFilter := none, minute := none,
          scanTimer := none }
      pulls := { st.pulls with lamp := none }
      audit := .start
      xfer :=
        { st.xfer with entries := st.xfer.entries.map XferEntry.start, claims := [], lamps := [] }
      hatch :=
        { st.hatch with
          session := .idle, position := 0, refA := st.pins.phaseA, refB := st.pins.phaseB,
          sendTimer := none, doneTimer := none }
      peers := .start
      line := .start st.line.made }

/-- A start with the reset line's effects, which an accepted RESTART makes (R189). -/
def Station.restartNow (st : Station) : Station := st.beginStart .resetLine

/-- Every output held off (R189), a running release pulse ended with the release lock set (R75). -/
def Station.outputsOff (st : Station) : Station :=
  { st with
    air := { st.air with valve := false, onTimer := none }
    motion := st.motion.coilsOff
    supp :=
      { st.supp with
        lock := st.supp.lock || st.supp.release, pulse := none, sounder := false,
        warning := false, release := false, exhaust := false }
    door := { st.door with output := false, unlock := none }
    pulls := { st.pulls with lamp := none }
    audit := { st.audit with lamp := none }
    xfer := { st.xfer with lamps := [] }
    line := { st.line with attempt := .none } }

/-- The supply fails: nothing runs, and no output is driven (R75). -/
def Station.losePower (st : Station) : Station :=
  st.outputsOff.onLoader fun l => { l with powered := false }

/-- The reset line asserted (R189). -/
def Station.assertReset (st : Station) : Station :=
  st.outputsOff.onLoader fun l => { l with resetAsserted := true }

/-- The reset line released: a start begins, where the part has its supply (R189). -/
def Station.releaseReset (st : Station) : Station :=
  let st := st.onLoader fun l => { l with resetAsserted := false }
  st.onlyIf st.loader.powered (·.beginStart .resetLine)

/-- What retained memory has suffered while the supply was off (R186, R88). DESIGN CHOICE (log entry 2): a
slot record that decays keeps the fields it stores, and its check alone comes to differ from them. -/
def Station.decay (st : Station) (d : Decay) : Station :=
  match d with
  | .marker => st.onRetention fun r => { r with markerGood := false }
  | .collection .pullQueue x => st.onPulls fun p => { p with check := p.check ^^^ x }
  | .collection .transferTable x => st.onXfer fun t => { t with check := t.check ^^^ x }
  | .collection .custodyList x => st.onHatch fun h => { h with custodyCheck := h.custodyCheck ^^^ x }
  | .collection .expectedList x =>
    st.onHatch fun h => { h with expectedCheck := h.expectedCheck ^^^ x }
  | .collection .occupancyList x => st.onDoor fun o => { o with check := o.check ^^^ x }
  | .slotRecord n x => st.modifySlot n fun sl => { sl with difference := sl.difference ^^^ x }

/-- A power-up (R186): retained memory as the time without supply has left it, and a start. -/
def Station.powerUp (st : Station) (decay : List Decay) : Station :=
  ((decay.foldl Station.decay st).onLoader fun l => { l with powered := true }).beginStart .powerUp

/-! ### LOADING -/

/-- A start ends in FAULT with a code (R185, R188). -/
def Station.fault (st : Station) (code : Nat) : Station :=
  st.onLoader fun l => { l with state := .fault, faultCode := code }

/-- The neighbour set of the view (R165): an address given twice counts once, and the own address
names no neighbour. -/
def neighbourSet (own : Addr) (l : List Addr) : List Addr :=
  l.dedup.filter fun a => decide (a ≠ own)

/-- The configuration record installed, and SELFTEST (R185, R173). -/
def Station.install (st : Station) (own : Addr) (c : ConfigRecord) : Station :=
  (st.onLoader fun l => { l with state := .selftest, own := own, cfg := c }).onPeers fun v =>
    { v with neighbours := neighbourSet own c.neighbours }

/-- The straps and the image read in LOADING, tested in the order of R185. -/
def Station.imageRead (st : Station) (straps : BitVec 5) (r : ImageRead) : Station :=
  if !r.answered then st.fault 1
  else if !r.checkOk then st.fault 2
  else match r.image.check with
    | none => st.fault 3
    | some c => if 23 < straps.toNat then st.fault 5 else st.install (straps.setWidth 8) c

/-! ### SELFTEST: retention, and the start rules of the blocks -/

/-- Every collection's check agrees with its contents (R186). -/
def Station.checksAgree (st : Station) : Bool :=
  decide (st.pulls.check = 0) && decide (st.xfer.check = 0) && decide (st.hatch.custodyCheck = 0)
    && decide (st.hatch.expectedCheck = 0) && decide (st.door.check = 0)

/-- Retention is lost (R186): at a power-up the marker or a check fails; at any start the role differs
from the kept one. -/
def Station.retentionLost (st : Station) : Bool :=
  (decide (st.loader.startKind = .powerUp) && !(st.retention.markerGood && st.checksAgree))
    || decide (st.retention.role ≠ some st.cfg.role)

/-- A slot marked for the rebuild (R106). -/
def Slot.mark (sl : Slot) : Slot := { sl with record := .unsettled, difference := 0 }

/-- Retention lost: the collections emptied with fresh checks, the slot table marked for the rebuild,
the marker written with the role (R186). -/
def Station.emptyRetained (st : Station) : Station :=
  ((((((st.setPulls []).setXfers []).onXfer fun x => { x with counter := 0 }).setCustody
    []).setExpected []).setOccupancy []).onTable (fun t => { t with slots := t.slots.map Slot.mark })
  |>.onRetention fun _ => { markerGood := true, role := some st.cfg.role }

/-- The debounced copy and last reading of a slot at a start (R105): a sound record's presence; none
for a damaged one. DEDUCED (log entry 15): none for an unsettled one too, where a reset line or RESTART
start comes before the rebuild of R106 has settled it; the rebuild goes on in LISTEN. -/
def Slot.fromRecord (sl : Slot) : Slot :=
  let p := if sl.sound && decide (sl.record ≠ .unsettled) then some sl.record.presence else none
  { sl with debounced := p, last := p }

/-- The inspect flag restored where the exposure is at or above the limit (R105). -/
def CartData.limit (n : Nat) (c : CartData) : CartData :=
  { c with inspect := c.inspect || decide (n ≤ c.exposure) }

/-- A sound OUT record without a pull entry takes its unplanned flag (R124). -/
def Station.markUnplanned (st : Station) (n : Nat) : Station :=
  match (st.table.slot n).view with
  | .out c false => if (st.pullFor c.id).isSome then st else st.setUnplanned n
  | _ => st

/-- The start rules of a BAY's slot table and pull queue (R105, R124). -/
def Station.startBay (st : Station) : Station :=
  let st := st.onTable fun t => { t with slots := t.slots.map Slot.fromRecord }
  let st := st.readAll.onTable (·.mapRecords (fun _ => true) (CartData.limit st.cfg.expoLimit))
  (List.range 256).foldl Station.markUnplanned st.cancelHeld

/-- The start rules that both roles share (R105, R110, R124, R164): the hold setting from the image,
LIT entries to WAITING, IN-DRAWER entries to HELD-OUTBOUND. -/
def Station.startLists (st : Station) : Station :=
  ((st.onTable fun t => { t with hold := st.cfg.hold, mode := st.cfg.holdMode }).setPulls
    (relit true st.pulls.entries)).setCustody
    (st.hatch.custody.map fun e =>
      if e.state = .inDrawer then { e with state := .heldOutbound } else e)

/-- Retention settled and each block's start rules applied to its collection (R186). -/
def Station.settleRetention (st : Station) : Station :=
  let st := if st.retentionLost then st.emptyRetained else st
  let st := st.startLists
  st.onlyIf (decide (st.cfg.role = .bay)) Station.startBay

/-! ### LISTEN -/

/-- A transit timer at entry into LISTEN (R146). -/
def XferEntry.listen (limit : Ticks) (confirmed : Bool) (e : XferEntry) : XferEntry :=
  match e.state with
  | .offered | .accepted | .unanswered =>
    { e with transit := if confirmed then .paused limit else .running limit }
  | .lapsed | .refused | .expected | .arrived | .placing => { e with transit := .stopped }

/-- The record of an entry's slot is PLACING under its transfer. -/
def Station.placingFor (st : Station) (n : Nat) (t : Tid) : Bool :=
  match (st.table.slot n).view with
  | .placing _ t' => decide (t' = t)
  | _ => false

/-- The lamp request of an entry at entry into LISTEN (R146): a BAY's. DESIGN CHOICE (log entry 18): where a
REFUSED entry and a RECEIVING one name one slot, the engine's request is that of the later in the table. -/
def Station.listenLamp (st : Station) (e : XferEntry) : Station :=
  match st.cfg.role, e.slot with
  | .bay, some n =>
    if e.state = .refused then st.askLamp n .flashing
    else if e.state.receiving && st.placingFor n e.tid then st.askLamp n .on
    else st
  | .bay, none => st
  | .hatch, _ => st

/-- The transfer engine at entry into LISTEN (R146). -/
def Station.listenXfers (st : Station) : Station :=
  let limit := ticksOfSec st.cfg.transitLimit
  let st := st.setXfers (st.xfer.entries.map (XferEntry.listen limit st.confirmed))
  st.xfer.entries.foldl Station.listenLamp st

/-- The motion channel at entry into LISTEN (R39, R164): its state from the switches again, then its
first command. -/
def Station.listenMotion (st : Station) : Station :=
  let st := st.onMotion fun m => { m with state := st.motionFromSwitches }
  Station.reported (st.command
    (match st.cfg.role with
      | .bay => if st.air.forcedSafe then .b else .a
      | .hatch => .b))

/-- The units of a BAY that begin at entry into LISTEN: the first measurement slot (R1), the first
period start (R25), the minute timer (R100), the key switch's filter (R98), the first full scan, which is
due at once (R91). -/
def Station.listenBay (st : Station) : Station :=
  ((st.onMoist Moisture.beginSlot).periodStart).onTable fun t =>
    { t with
      minute := some (ticksOfSec 60), keyFilter := filterSwitch none t.keyOn st.pins.keyInput,
      scanTimer := some 0 }

/-- Entry into LISTEN (R187): every block begins its field work. -/
def Station.enterListen (st : Station) : Station :=
  let st := st.onLoader fun l =>
    { l with state := .listen, listenTimer := some (ticksOfSec (3 * st.cfg.beacon)) }
  let st := st.onDet Detection.beginScan
  let st := st.onSupp fun s =>
    { s with holdFilter := filterSwitch none s.holdClosed st.pins.holdInput }
  let st := st.onlyIf (decide (st.cfg.role = .bay)) Station.listenBay
  st.listenXfers.listenMotion

/-- The end of SELFTEST (R186, R187). -/
def Station.selftested (st : Station) (memoryOk : Bool) : Station :=
  if memoryOk then st.settleRetention.enterListen else st.fault 4

/-! ### JOINED -/

/-- An entry hands its OFFER or ARRIVE again at entry into JOINED, with attempts 0 (R146). -/
def Station.rejoinXfer (st : Station) (e : XferEntry) : Station :=
  match e.state with
  | .offered | .arrived => (st.modifyXfer e.tid fun x => { x with attempts := 0 }).resend e
  | _ => st

/-- Entry into JOINED (R187): the first STATUS and the beacon timer (R182), the lighting (R110), the
OFFERs and ARRIVEs again (R146), the pending damage reports (R90). -/
def Station.enterJoined (st : Station) : Station :=
  let st := st.onLoader fun l => { l with state := .joined, listenTimer := none, joinedFor := 0 }
  let st := st.loadBeacon.sendStatus.pullsChanged
  (st.xfer.entries.foldl Station.rejoinXfer st).offerPlaces

/-! ### RESTART -/

/-- A RESTART request (R189). -/
def Station.takeRestart (src : Addr) (seq : Byte) (st : Station) : Station :=
  let answer (st : Station) (o : ReplyOutcome) : Station := st.reply .loader src kindRestart seq o
  if st.loader.state = .clash then st
  else if !st.joined then answer st .notReady
  else if st.confirmed then answer st .busy
  else
    let wait : RestartWait := { made := st.line.made, timer := some (ticksOfSec 2) }
    answer
      (st.onLoader fun l => { l with restartWait := some (l.restartWait.getD wait) }) .done

/-- The DONE of a waiting restart stands in the queue (R189). -/
def Station.doneQueued (st : Station) : Bool :=
  match st.loader.restartWait with
  | some w => st.line.queue.any fun q => decide (q.made = w.made)
  | none => false

/-- A successful attempt (R180): the message leaves the queue and the freed place is offered; where the
message is the DONE of a waiting restart, the start is made instead (R189). -/
def Station.transmitted (st : Station) : Station :=
  match st.line.attempt with
  | .sending m _ =>
    if st.loader.restartWait.map (·.made) = some m then st.restartNow
    else (st.onLine (·.succeed m)).offerPlaces
  | .none => st
  | .waiting _ _ => st

end Sys2Proof
end

