-- ==== Sys2Proof/Machine/Receive.lean ====
section
/-! DEFINITION. The receive filter (R174, R176) and the delivery of each kind of message to the block
that owns it (section 11.5). -/

namespace Sys2Proof

/-- A QUERY by cartridge id, by the role's owner of it (R103, R163). -/
def Station.takeQueryCartridge (src : Addr) (seq : Byte) (c : Cart) (st : Station) : Station :=
  match st.cfg.role with
  | .bay => st.bayQuery src seq c
  | .hatch => st.hatchQuery src seq c

/-- A received QUERY by what it names; an alternative that names none is judged as a slot outside the
range (R103, log entry 14). -/
def Station.takeQuery (src : Addr) (seq : Byte) (sel : QuerySel) (st : Station) : Station :=
  match sel with
  | .slot n => st.takeQuerySlot src seq n.toNat
  | .cart c => st.takeQueryCartridge src seq c
  | .transfer t => st.takeQueryTransfer src seq t
  | .other _ => st.takeQuerySlot src seq 256

/-- A received INSPECT-CLEAR by what it names; an alternative that names none is judged as a slot
outside the range (R102, log entry 14). -/
def ClearSel.slot? (sel : ClearSel) : Option Nat :=
  match sel with
  | .slot n => some n.toNat
  | .all => none
  | .other _ => some 256

/-- A body of a console kind (R176). -/
def Body.isRequest : Body → Bool
  | .checkout .. | .checkin .. | .cancel _ | .holdSet .. | .inspectClear _ | .audit ..
  | .restore | .occupancyClear | .query _ | .restart => true
  | .status _ | .fireReport _ | .discharge _ | .custodyAlert _ | .offer .. | .accept ..
  | .refuse .. | .arrive _ | .claim _ | .close .. | .withdraw _ | .handover _ | .reply _ => false

/-- A body of CHECKOUT, the one console kind that may be addressed to ALL (R176 row 7). -/
def Body.isCheckout : Body → Bool
  | .checkout .. => true
  | _ => false

/-- A delivered message at the block that owns its kind (R168, section 11.5). -/
def Station.deliver (st : Station) (m : RxMsg) : Station :=
  match m.body with
  | .status b => st.takeStatus m.src b
  | .fireReport b => st.takeFireReport m.src b
  | .discharge x => st.takeDischarge m.src x
  | .custodyAlert _ => st.refreshed m.src id
  | .offer t c j d => st.refreshed m.src (Station.takeOffer m.src t c j d)
  | .accept t s => st.refreshed m.src (Station.takeAccept m.src t s)
  | .refuse t r => st.refreshed m.src (Station.takeRefuse m.src t r)
  | .arrive t => st.refreshed m.src (Station.takeArrive m.src t)
  | .claim c => st.refreshed m.src (Station.takeClaim m.src c)
  | .close t c j => st.refreshed m.src (Station.takeClose m.src t c j)
  | .withdraw t => st.refreshed m.src (Station.takeWithdraw m.src t)
  | .handover _ => st.refreshed m.src id
  | .reply _ => st.refreshed m.src id
  | .checkout c j h => st.takeCheckout m.src m.seq (decide (m.dest = allAddr)) c j h
  | .checkin j c d => st.takeCheckin m.src m.seq j c d
  | .cancel c => st.takeCancel m.src m.seq c
  | .holdSet e d c o => st.takeHoldSet m.src m.seq e d c o
  | .inspectClear sel => st.takeInspectClear m.src m.seq sel.slot?
  | .audit f l => st.takeAudit m.src m.seq f.toNat l.toNat
  | .restore => st.takeRestore m.src m.seq
  | .occupancyClear => st.takeOccupancyClear m.src m.seq
  | .query sel => st.takeQuery m.src m.seq sel
  | .restart => st.takeRestart m.src m.seq

/-- The message repeats the last one heard from its source less than 1 s ago (R176 row 4). -/
def Station.isDuplicate (st : Station) (m : RxMsg) : Bool :=
  match st.line.lastHeard.getD m.src.toNat none with
  | some (q, t) => decide (q = m.seq) && decide (st.now - t < ticksOfSec 1)
  | none => false

/-- The last-heard entry of the message's source takes its sequence and the time (R176). -/
def Station.hear (st : Station) (m : RxMsg) : Station :=
  st.onLine fun l => { l with lastHeard := l.lastHeard.set m.src.toNat (some (m.seq, st.now)) }

/-- A message is discarded by rows 5 to 7 of R176, or for a source that is no address (R175). -/
def RxMsg.wrongClass (m : RxMsg) : Bool :=
  if isStation m.src then m.body.isRequest
  else if isConsole m.src then
    !m.body.isRequest || (decide (m.dest = allAddr) && !m.body.isCheckout)
  else true

/-- A message through the receive filter from row 2 on (R176). -/
def Station.filter (st : Station) (m : RxMsg) : Station :=
  if m.src = st.loader.own then st.enterClash
  else if m.dest ≠ st.loader.own ∧ m.dest ≠ allAddr then st
  else
    let again := st.isDuplicate m
    let st := st.hear m
    if again || m.wrongClass then st else st.deliver m

/-- A frame that has ended on the idle line (R174, R176). Row 1, the station's own readback: the frame
being sent, or the one sent whole that has yet to be judged, which is judged by this. -/
def Station.receive (st : Station) (bs : List Byte) : Station :=
  if st.line.attempt.frame = some bs then st
  else if st.line.echo = some bs then st.onLine fun l => { l with echo := none }
  else match parseFrame bs with
    | none => st
    | some m => st.filter m

end Sys2Proof
end

