-- ==== Sys2Proof/Machine/LineCommands.lean ====
section
/-! DEFINITION. The meanings of the peer view and vault line commands (Chapters 10
and 11). -/

namespace Sys2Proof.Machine

/-- STATUS (R166, R57). -/
def execStatus (src : Addr) (body : StatusBody) (s : State) : Host.Outcome State Fault Refusal :=
  s.run (Station.fromPeer src (Station.takeStatus src body))

/-- FIRE-REPORT (R167, R57). -/
def execFireReport (src : Addr) (body : FireReportBody) (s : State) :
    Host.Outcome State Fault Refusal :=
  s.run (Station.fromPeer src (Station.takeFireReport src body))

/-- DISCHARGE (R29, R168). -/
def execDischarge (src : Addr) (soakMinutes : Byte) (s : State) :
    Host.Outcome State Fault Refusal :=
  s.run (Station.fromPeer src (Station.takeDischarge src soakMinutes))

/-- CUSTODY-ALERT (R168): the peer is refreshed; its owners are the consoles. -/
def execCustodyAlert (src : Addr) (_body : AlertBody) (s : State) :
    Host.Outcome State Fault Refusal :=
  s.run (Station.fromPeer src (Station.refreshed src id))

/-- HANDOVER (R168): the peer is refreshed; its owners are the consoles. -/
def execHandover (src : Addr) (_body : HandoverBody) (s : State) :
    Host.Outcome State Fault Refusal :=
  s.run (Station.fromPeer src (Station.refreshed src id))

/-- PEER_SILENT (R169). -/
def execPeerSilent (addr : Addr) (s : State) : Host.Outcome State Fault Refusal :=
  s.run fun st => st.onlyIf st.running (·.modifyPeer addr Peer.fallSilent)

/-- PEER_LOST (R169). -/
def execPeerLost (addr : Addr) (s : State) : Host.Outcome State Fault Refusal :=
  s.run fun st => st.onlyIf st.running (·.modifyPeer addr Peer.fallLost)

/-- FRAME_RECEIVE (R174, R176, R177). -/
def execFrameReceive (bytes : List Byte) (s : State) : Host.Outcome State Fault Refusal :=
  s.run fun st => st.onlyIf st.running (·.receive bytes)

/-- BEACON_EXPIRY (R182). -/
def execBeaconExpiry (s : State) : Host.Outcome State Fault Refusal :=
  s.run fun st => st.onlyIf st.joined Station.beaconExpired

/-- LINE_FAULT_EXPIRY (R181). -/
def execLineFaultExpiry (s : State) : Host.Outcome State Fault Refusal :=
  s.run fun st => st.onlyIf st.joined Station.lineFaultExpired

/-- LINE_IDLE (R174, R180 step 1). -/
def execLineIdle (s : State) : Host.Outcome State Fault Refusal :=
  s.run fun st => st.onlyIf st.live Station.lineBecomesIdle

/-- ACCESS_DELAY_EXPIRY (R180 step 4). -/
def execAccessDelayExpiry (s : State) : Host.Outcome State Fault Refusal :=
  s.run fun st => st.onlyIf st.joined fun st => st.onLine (·.startSending st.loader.own)

/-- CHARACTER_DURING_WAIT (R180 step 3). -/
def execCharacterDuringWait (s : State) : Host.Outcome State Fault Refusal :=
  s.run fun st => st.onlyIf st.live (·.onLine Line.heard)

/-- TRANSMIT_SUCCESS (R178 to R181, R189). -/
def execTransmitSuccess (s : State) : Host.Outcome State Fault Refusal :=
  s.run fun st => st.onlyIf st.joined Station.transmitted

/-- READBACK_FAILURE (R180, R181). -/
def execReadbackFailure (s : State) : Host.Outcome State Fault Refusal :=
  s.run fun st => st.onlyIf st.joined (·.onLine Line.readbackFails)

end Sys2Proof.Machine
end

