-- ==== Sys2Proof/Machine/SlotCommands.lean ====
section
/-! DEFINITION. The meanings of the slot table, pull queue and audit commands (Chapters 6
and 7). -/

namespace Sys2Proof.Machine

/-- PRESENCE_SCAN (R91 to R93, R105, R106): the readings that the matrix gives change in every state; a
full scan, the row's own event, is taken in from entry into LISTEN on, and the next follows 500 ms
later. -/
def execPresenceScan (event : MatrixEvent) (s : State) : Host.Outcome State Fault Refusal :=
  s.run fun st =>
    match event with
    | .level readings => st.onPins fun p => { p with matrix := readings }
    | .scan readings =>
      st.onlyIf st.bay fun st =>
        ((st.onPins fun p => { p with matrix := readings }).onTable fun t =>
          { t with scanTimer := some (ticksOfMs 500) }).presenceScanned readings

/-- MINUTE_TIMER_EXPIRY (R100). -/
def execMinuteTimerExpiry (s : State) : Host.Outcome State Fault Refusal :=
  s.run fun st => st.onlyIf st.bay Station.minuteExpired

/-- KEY_SWITCH_CHANGE (R98): the level of the input changes in every state, and its filter follows it
from entry into LISTEN on; a change of the filtered reading is the row's own event. -/
def execKeySwitchChange (event : SwitchEvent) (s : State) : Host.Outcome State Fault Refusal :=
  s.run fun st =>
    match event with
    | .level on =>
      (st.onPins fun p => { p with keyInput := on }).onlyIf st.bay (·.onTable fun t =>
        { t with keyFilter := filterSwitch t.keyFilter t.keyOn on })
    | .filtered on =>
      st.onlyIf st.bay fun st => (st.onPins fun p => { p with keyInput := on }).onTable fun t =>
        { t with keyOn := on, keyFilter := none }

/-- HOLD_SET (R98, R99). -/
def execHoldSet (src : Addr) (seq extent endCode complement mode : Byte) (s : State) :
    Host.Outcome State Fault Refusal :=
  s.run (Station.fromConsole src (Station.takeHoldSet src seq extent endCode complement mode))

/-- INSPECT_CLEAR (R102). -/
def execInspectClear (src : Addr) (seq : Byte) (slot : Option Nat) (s : State) :
    Host.Outcome State Fault Refusal :=
  s.run (Station.fromConsole src (Station.takeInspectClear src seq slot))

/-- QUERY by slot (R103). -/
def execQuerySlot (src : Addr) (seq : Byte) (slot : Nat) (s : State) :
    Host.Outcome State Fault Refusal :=
  s.run (Station.fromConsole src (Station.takeQuerySlot src seq slot))

/-- QUERY by cartridge id (R103, R163). -/
def execQueryCartridge (src : Addr) (seq : Byte) (cart : Cart) (s : State) :
    Host.Outcome State Fault Refusal :=
  s.run (Station.fromConsole src (Station.takeQueryCartridge src seq cart))

/-- CHECKOUT (R108, R109). -/
def execCheckout (src : Addr) (seq : Byte) (toAll : Bool) (cart : Cart) (job : Job) (hatch : Addr) (s : State) :
    Host.Outcome State Fault Refusal :=
  s.run (Station.fromConsole src (Station.takeCheckout src seq toAll cart job hatch))

/-- CANCEL (R112). -/
def execCancel (src : Addr) (seq : Byte) (cart : Cart) (s : State) :
    Host.Outcome State Fault Refusal :=
  s.run (Station.fromConsole src (Station.takeCancel src seq cart))

/-- CHECK_STATION_SCAN (R113): a read of reader B at a bay. -/
def execCheckStationScan (cls : TagClass) (number : Cart) (s : State) :
    Host.Outcome State Fault Refusal :=
  s.run fun st =>
    st.onlyIf (st.bay && st.joined && decide (cls = .cartridge)) (·.checkStation number)

/-- AUDIT (R116). -/
def execAudit (src : Addr) (seq : Byte) (first last : Nat) (s : State) :
    Host.Outcome State Fault Refusal :=
  s.run (Station.fromConsole src (Station.takeAudit src seq first last))

/-- AUDIT_STEP_EXPIRY (R121). -/
def execAuditStepExpiry (s : State) : Host.Outcome State Fault Refusal :=
  s.run fun st => st.onlyIf (st.bay && st.audit.step.isSome) Station.auditAbort

end Sys2Proof.Machine
end

