-- ==== Sys2Proof/Machine/StartCommands.lean ====
section
/-! DEFINITION. The meanings of the start commands (Chapter 12, R75): the supply, the reset
line, the phases of a start, and RESTART. -/

namespace Sys2Proof.Machine

/-- POWER_UP (R186): a start with the effects of a power-up. -/
def execPowerUp (decay : List Decay) (s : State) : Host.Outcome State Fault Refusal :=
  s.run fun st => st.powerUp decay

/-- RESET_LINE_ASSERT (R189): every output is held off and nothing runs. -/
def execResetLineAssert (s : State) : Host.Outcome State Fault Refusal :=
  s.run fun st => st.assertReset

/-- RESET_LINE_RELEASE (R189): a start with the effects of the reset line. -/
def execResetLineRelease (s : State) : Host.Outcome State Fault Refusal :=
  s.run fun st => st.releaseReset

/-- IMAGE_READ_COMPLETE (R185): in LOADING the straps and the image are tested. -/
def execImageReadComplete (straps : BitVec 5) (read : ImageRead) (s : State) :
    Host.Outcome State Fault Refusal :=
  s.run fun st =>
    st.onlyIf (st.live && decide (st.loader.state = .loading)) (·.imageRead straps read)

/-- SELFTEST_COMPLETE (R186, R187): in SELFTEST, FAULT with code 4, or retention settled and LISTEN. -/
def execSelftestComplete (memoryOk : Bool) (s : State) : Host.Outcome State Fault Refusal :=
  s.run fun st =>
    st.onlyIf (st.live && decide (st.loader.state = .selftest)) (·.selftested memoryOk)

/-- LISTEN_END (R187): from LISTEN the station enters JOINED. -/
def execListenEnd (s : State) : Host.Outcome State Fault Refusal :=
  s.run fun st =>
    st.onlyIf (st.live && decide (st.loader.state = .listen)) Station.enterJoined

/-- RESTART (R189). -/
def execRestart (src : Addr) (seq : Byte) (s : State) : Host.Outcome State Fault Refusal :=
  s.run (Station.fromConsole src (Station.takeRestart src seq))

/-- RESTART_TIMER_EXPIRY (R189): a waiting restart makes its start. -/
def execRestartTimerExpiry (s : State) : Host.Outcome State Fault Refusal :=
  s.run fun st =>
    st.onlyIf (st.joined && st.loader.restartWait.isSome) Station.restartNow

/-- RESTART_START (R189): the DONE of a waiting restart leaves the queue by a successful attempt. -/
def execRestartStart (s : State) : Host.Outcome State Fault Refusal :=
  s.run fun st => st.onlyIf (st.joined && st.doneQueued) Station.restartNow

/-- POWER_LOSS (R75): the supply fails; a running release pulse ends, and nothing runs. -/
def execPowerLoss (s : State) : Host.Outcome State Fault Refusal :=
  s.run fun st => st.losePower

end Sys2Proof.Machine
end

