-- ==== Sys2Proof/Machine/TransferCommands.lean ====
section
/-! DEFINITION. The meanings of the transfer commands (Chapter 8). -/

namespace Sys2Proof.Machine

/-- QUERY by transfer id (R145). -/
def execQueryTransfer (src : Addr) (seq : Byte) (tid : Tid) (s : State) :
    Host.Outcome State Fault Refusal :=
  s.run (Station.fromConsole src (Station.takeQueryTransfer src seq tid))

/-- OFFER (R130). -/
def execOffer (src : Addr) (tid : Tid) (cart : Cart) (job : Job) (direction : Byte) (s : State) :
    Host.Outcome State Fault Refusal :=
  s.run (Station.fromPeer src (Station.refreshed src (Station.takeOffer src tid cart job direction)))

/-- ACCEPT (R131). -/
def execAccept (src : Addr) (tid : Tid) (slot : Option Byte) (s : State) :
    Host.Outcome State Fault Refusal :=
  s.run (Station.fromPeer src (Station.refreshed src (Station.takeAccept src tid slot)))

/-- REFUSE (R131, R136). -/
def execRefuse (src : Addr) (tid : Tid) (reason : Byte) (s : State) :
    Host.Outcome State Fault Refusal :=
  s.run (Station.fromPeer src (Station.refreshed src (Station.takeRefuse src tid reason)))

/-- ARRIVE (R134). -/
def execArrive (src : Addr) (tid : Tid) (s : State) : Host.Outcome State Fault Refusal :=
  s.run (Station.fromPeer src (Station.refreshed src (Station.takeArrive src tid)))

/-- CLOSE (R135, R142). -/
def execClose (src : Addr) (tid : Tid) (cart : Cart) (job : Option Job) (s : State) :
    Host.Outcome State Fault Refusal :=
  s.run (Station.fromPeer src (Station.refreshed src (Station.takeClose src tid cart job)))

/-- WITHDRAW (R140). -/
def execWithdraw (src : Addr) (tid : Tid) (s : State) : Host.Outcome State Fault Refusal :=
  s.run (Station.fromPeer src (Station.refreshed src (Station.takeWithdraw src tid)))

/-- CLAIM (R142). -/
def execClaim (src : Addr) (cart : Cart) (s : State) : Host.Outcome State Fault Refusal :=
  s.run (Station.fromPeer src (Station.refreshed src (Station.takeClaim src cart)))

/-- REPLY_TIMER_EXPIRY (R129, R132, R133). -/
def execReplyTimerExpiry (tid : Tid) (s : State) : Host.Outcome State Fault Refusal :=
  s.run fun st => st.onlyIf st.running (Station.replyExpired tid)

/-- TRANSIT_EXPIRY (R138). -/
def execTransitExpiry (tid : Tid) (s : State) : Host.Outcome State Fault Refusal :=
  s.run fun st => st.onlyIf st.running (Station.transitExpired tid)

/-- CLAIM_TIMER_EXPIRY (R143). -/
def execClaimTimerExpiry (cart : Cart) (s : State) : Host.Outcome State Fault Refusal :=
  s.run fun st => st.onlyIf st.running (Station.claimExpired cart)

end Sys2Proof.Machine
end

