-- ==== Sys2Proof/Machine/Dispatch.lean ====
section
/-! DEFINITION. The dispatch: one arm per command, each a direct call of its meaning. -/

namespace Sys2Proof.Machine

/-- The effect of a command on everything but the queue of commands. -/
def exec (i : Instr) (s : State) : Host.Outcome State Fault Refusal :=
  match i with
  | .powerUp decay => Sys2Proof.Machine.execPowerUp decay s
  | .resetLineAssert => Sys2Proof.Machine.execResetLineAssert s
  | .resetLineRelease => Sys2Proof.Machine.execResetLineRelease s
  | .imageReadComplete straps read => Sys2Proof.Machine.execImageReadComplete straps read s
  | .selftestComplete memoryOk => Sys2Proof.Machine.execSelftestComplete memoryOk s
  | .listenEnd => Sys2Proof.Machine.execListenEnd s
  | .restart src seq => Sys2Proof.Machine.execRestart src seq s
  | .restartTimerExpiry => Sys2Proof.Machine.execRestartTimerExpiry s
  | .restartStart => Sys2Proof.Machine.execRestartStart s
  | .measurementSlot => Sys2Proof.Machine.execMeasurementSlot s
  | .captureComplete event => Sys2Proof.Machine.execCaptureComplete event s
  | .excursionDelayExpiry => Sys2Proof.Machine.execExcursionDelayExpiry s
  | .adcScan => Sys2Proof.Machine.execAdcScan s
  | .loopSample loop event => Sys2Proof.Machine.execLoopSample loop event s
  | .temperatureCode event => Sys2Proof.Machine.execTemperatureCode event s
  | .batteryCode event => Sys2Proof.Machine.execBatteryCode event s
  | .valvePeriodExpiry => Sys2Proof.Machine.execValvePeriodExpiry s
  | .onTimeExpiry => Sys2Proof.Machine.execOnTimeExpiry s
  | .neighbourSealExpiry => Sys2Proof.Machine.execNeighbourSealExpiry s
  | .deadTimeExpiry => Sys2Proof.Machine.execDeadTimeExpiry s
  | .travelExpiry => Sys2Proof.Machine.execTravelExpiry s
  | .endSwitchClose sw => Sys2Proof.Machine.execEndSwitchClose sw s
  | .endSwitchOpen sw => Sys2Proof.Machine.execEndSwitchOpen sw s
  | .holdSwitchChange event => Sys2Proof.Machine.execHoldSwitchChange event s
  | .evacuationExpiry => Sys2Proof.Machine.execEvacuationExpiry s
  | .countdownExpiry => Sys2Proof.Machine.execCountdownExpiry s
  | .releasePulseExpiry => Sys2Proof.Machine.execReleasePulseExpiry s
  | .soakExpiry => Sys2Proof.Machine.execSoakExpiry s
  | .restore src seq => Sys2Proof.Machine.execRestore src seq s
  | .attendantRead cls number => Sys2Proof.Machine.execAttendantRead cls number s
  | .doorUnlockExpiry => Sys2Proof.Machine.execDoorUnlockExpiry s
  | .occupancyClear src seq => Sys2Proof.Machine.execOccupancyClear src seq s
  | .presenceScan event => Sys2Proof.Machine.execPresenceScan event s
  | .minuteTimerExpiry => Sys2Proof.Machine.execMinuteTimerExpiry s
  | .keySwitchChange event => Sys2Proof.Machine.execKeySwitchChange event s
  | .holdSet src seq extent endCode complement mode => Sys2Proof.Machine.execHoldSet src seq extent endCode complement mode s
  | .inspectClear src seq slot => Sys2Proof.Machine.execInspectClear src seq slot s
  | .querySlot src seq slot => Sys2Proof.Machine.execQuerySlot src seq slot s
  | .queryCartridge src seq cart => Sys2Proof.Machine.execQueryCartridge src seq cart s
  | .queryTransfer src seq tid => Sys2Proof.Machine.execQueryTransfer src seq tid s
  | .checkout src seq toAll cart job hatch => Sys2Proof.Machine.execCheckout src seq toAll cart job hatch s
  | .cancel src seq cart => Sys2Proof.Machine.execCancel src seq cart s
  | .checkStationScan cls number => Sys2Proof.Machine.execCheckStationScan cls number s
  | .audit src seq first last => Sys2Proof.Machine.execAudit src seq first last s
  | .auditStepExpiry => Sys2Proof.Machine.execAuditStepExpiry s
  | .offer src tid cart job direction => Sys2Proof.Machine.execOffer src tid cart job direction s
  | .accept src tid slot => Sys2Proof.Machine.execAccept src tid slot s
  | .refuse src tid reason => Sys2Proof.Machine.execRefuse src tid reason s
  | .arrive src tid => Sys2Proof.Machine.execArrive src tid s
  | .close src tid cart job => Sys2Proof.Machine.execClose src tid cart job s
  | .withdraw src tid => Sys2Proof.Machine.execWithdraw src tid s
  | .claim src cart => Sys2Proof.Machine.execClaim src cart s
  | .replyTimerExpiry tid => Sys2Proof.Machine.execReplyTimerExpiry tid s
  | .transitExpiry tid => Sys2Proof.Machine.execTransitExpiry tid s
  | .claimTimerExpiry cart => Sys2Proof.Machine.execClaimTimerExpiry cart s
  | .checkin src seq job cart dest => Sys2Proof.Machine.execCheckin src seq job cart dest s
  | .innerRead cls number => Sys2Proof.Machine.execInnerRead cls number s
  | .courierRead number => Sys2Proof.Machine.execCourierRead number s
  | .outerCartridgeRead cart => Sys2Proof.Machine.execOuterCartridgeRead cart s
  | .sendPress event => Sys2Proof.Machine.execSendPress s event
  | .donePress event => Sys2Proof.Machine.execDonePress s event
  | .sessionTimerExpiry => Sys2Proof.Machine.execSessionTimerExpiry s
  | .encoderTransition phaseA phaseB => Sys2Proof.Machine.execEncoderTransition phaseA phaseB s
  | .flapChange flap opened => Sys2Proof.Machine.execFlapChange flap opened s
  | .status src body => Sys2Proof.Machine.execStatus src body s
  | .fireReport src body => Sys2Proof.Machine.execFireReport src body s
  | .discharge src soakMinutes => Sys2Proof.Machine.execDischarge src soakMinutes s
  | .custodyAlert src body => Sys2Proof.Machine.execCustodyAlert src body s
  | .handover src body => Sys2Proof.Machine.execHandover src body s
  | .peerSilent addr => Sys2Proof.Machine.execPeerSilent addr s
  | .peerLost addr => Sys2Proof.Machine.execPeerLost addr s
  | .frameReceive bytes => Sys2Proof.Machine.execFrameReceive bytes s
  | .beaconExpiry => Sys2Proof.Machine.execBeaconExpiry s
  | .lineFaultExpiry => Sys2Proof.Machine.execLineFaultExpiry s
  | .lineIdle => Sys2Proof.Machine.execLineIdle s
  | .accessDelayExpiry => Sys2Proof.Machine.execAccessDelayExpiry s
  | .characterDuringWait => Sys2Proof.Machine.execCharacterDuringWait s
  | .transmitSuccess => Sys2Proof.Machine.execTransmitSuccess s
  | .readbackFailure => Sys2Proof.Machine.execReadbackFailure s
  | .powerLoss => Sys2Proof.Machine.execPowerLoss s

end Sys2Proof.Machine
end

