-- ==== Sys2Proof/Machine/Time.lean ====
section
/-! DEFINITION. The passing of time (log entry 6, DESIGN CHOICE): what the machine does while no
command waits. One tick is one bit time of 8 µs. A timer that has run out gives its expiry command, an
ADC scan under way its next sample, a capture under way its end; with none of these, every running timer
and age moves on by one tick. -/

namespace Sys2Proof

/-- A timer one tick later. -/
def Timer.tick (t : Timer) : Timer := t.map (· - 1)

/-- A command that is due where a timer has run out. -/
def Timer.due (t : Timer) (i : Instr) : List Instr := if t = some 0 then [i] else []

/-- A transit timer one tick later. -/
def Transit.tick : Transit → Transit
  | .running n => .running (n - 1)
  | .paused n => .paused n
  | .stopped => .stopped

/-- The ages of what a peer record holds, one tick later (R169, R170). -/
def PeerData.tick (d : PeerData) : PeerData :=
  { d with age := d.age + 1, fire := d.fire.map fun p => (p.1, p.2 + 1) }

/-- A peer record one tick later. -/
def Peer.tick : Peer → Peer
  | .alive d => .alive d.tick
  | .silent d => .silent d.tick
  | .unheard => .unheard
  | .lost => .lost

/-- The wait of an access delay one tick later. -/
def Attempt.tick (a : Attempt) : Attempt :=
  match a with
  | .waiting m n => .waiting m (n - 1)
  | .none => .none
  | .sending m f => .sending m f

/-- Every timer, age and phase one tick later. -/
def Station.tick (st : Station) : Station :=
  { st with
    loader :=
      { st.loader with
        listenTimer := Timer.tick st.loader.listenTimer
        restartWait := st.loader.restartWait.map fun w => { w with timer := Timer.tick w.timer }
        joinedFor := if st.loader.state = .joined then st.loader.joinedFor + 1 else 0 }
    moist :=
      { st.moist with
        delay := st.moist.delay.map fun p => (p.1, p.2 - 1)
        slotTimer := Timer.tick st.moist.slotTimer }
    air :=
      { st.air with
        period := Timer.tick st.air.period, onTimer := Timer.tick st.air.onTimer
        sealTimer := Timer.tick st.air.sealTimer }
    motion :=
      { st.motion with dead := Timer.tick st.motion.dead, travel := Timer.tick st.motion.travel }
    det := { st.det with scanTimer := Timer.tick st.det.scanTimer }
    supp :=
      { st.supp with
        evacuation := Timer.tick st.supp.evacuation, countdown := Timer.tick st.supp.countdown
        pulse := Timer.tick st.supp.pulse, soak := Timer.tick st.supp.soak
        holdFilter := Timer.tick st.supp.holdFilter }
    door := { st.door with unlock := Timer.tick st.door.unlock }
    table :=
      { st.table with
        minute := Timer.tick st.table.minute, keyFilter := Timer.tick st.table.keyFilter
        scanTimer := Timer.tick st.table.scanTimer }
    audit := { st.audit with step := Timer.tick st.audit.step }
    xfer :=
      { st.xfer with
        entries := st.xfer.entries.map fun e =>
          { e with
            transit := if st.running then e.transit.tick else e.transit
            reply := Timer.tick e.reply }
        claims := st.xfer.claims.map fun k => { k with timer := k.timer - 1 } }
    hatch :=
      { st.hatch with
        session := { st.hatch.session with timer := Timer.tick st.hatch.session.timer }
        sendTimer := Timer.tick st.hatch.sendTimer, doneTimer := Timer.tick st.hatch.doneTimer }
    peers := { st.peers with records := st.peers.records.map Peer.tick }
    line :=
      { st.line with
        beacon := Timer.tick st.line.beacon, faultTimer := Timer.tick st.line.faultTimer
        attempt := st.line.attempt.tick }
    now := st.now + 1 }

/-- The thresholds of silence a peer record has reached (R169). -/
def Peer.due (a : Nat) : Peer → List Instr
  | .alive d =>
    if d.silentFor 3 then [.peerSilent (BitVec.ofNat 8 a)] else []
  | .silent d =>
    if d.silentFor 10 then [.peerLost (BitVec.ofNat 8 a)] else []
  | .unheard => []
  | .lost => []

/-- The expiries due of a transfer entry; a transit timer runs from entry into LISTEN on (R146). -/
def XferEntry.due (running : Bool) (e : XferEntry) : List Instr :=
  Timer.due e.reply (.replyTimerExpiry e.tid)
    ++ (if running ∧ e.transit = .running 0 then [.transitExpiry e.tid] else [])

/-- The sample that the ADC scan under way makes next, of what its channel gives (R41). -/
def Station.sampleDue (st : Station) : List Instr :=
  match st.det.channel with
  | some (.loop n) => [.loopSample n (.sample (st.pins.loopCode n))]
  | some .temperature => [.temperatureCode (.sample st.pins.adcTemp)]
  | some .battery => [.batteryCode (.sample st.pins.adcBattery)]
  | none => []

/-- The end of the capture under way, with the count that the sensor gives (R2). -/
def Station.captureDue (st : Station) : List Instr :=
  if st.moist.capturing then [.captureComplete (.complete st.pins.sensor)] else []

/-- The access delay has run out. -/
def Attempt.due (a : Attempt) : List Instr :=
  match a with
  | .waiting _ 0 => [.accessDelayExpiry]
  | .waiting _ (_ + 1) => []
  | .none => []
  | .sending _ _ => []

/-- The commands due: the expiries of the timers that have run out, block by block. -/
def Station.due (st : Station) : List Instr :=
  Timer.due st.loader.listenTimer .listenEnd
    ++ Timer.due (st.loader.restartWait.bind (·.timer)) .restartTimerExpiry
    ++ Timer.due st.moist.slotTimer .measurementSlot
    ++ Timer.due (st.moist.delay.map (·.2)) .excursionDelayExpiry
    ++ st.sampleDue
    ++ Timer.due st.det.scanTimer .adcScan
    ++ st.captureDue
    ++ Timer.due st.air.period .valvePeriodExpiry
    ++ Timer.due st.air.onTimer .onTimeExpiry
    ++ Timer.due st.air.sealTimer .neighbourSealExpiry
    ++ Timer.due st.motion.dead .deadTimeExpiry
    ++ Timer.due st.motion.travel .travelExpiry
    ++ Timer.due st.supp.evacuation .evacuationExpiry
    ++ Timer.due st.supp.countdown .countdownExpiry
    ++ Timer.due st.supp.pulse .releasePulseExpiry
    ++ Timer.due st.supp.soak .soakExpiry
    ++ Timer.due st.supp.holdFilter (.holdSwitchChange (.filtered st.pins.holdInput))
    ++ Timer.due st.door.unlock .doorUnlockExpiry
    ++ Timer.due st.table.scanTimer (.presenceScan (.scan st.pins.matrix))
    ++ Timer.due st.table.minute .minuteTimerExpiry
    ++ Timer.due st.table.keyFilter (.keySwitchChange (.filtered st.pins.keyInput))
    ++ Timer.due st.audit.step .auditStepExpiry
    ++ (st.xfer.entries.map (XferEntry.due st.running)).flatten
    ++ (st.xfer.claims.map fun k => Timer.due (some k.timer) (.claimTimerExpiry k.cart)).flatten
    ++ Timer.due st.hatch.session.timer .sessionTimerExpiry
    ++ Timer.due st.hatch.sendTimer (.sendPress .press)
    ++ Timer.due st.hatch.doneTimer (.donePress .press)
    ++ (st.peers.records.zipIdx.map fun p => p.1.due p.2).flatten
    ++ Timer.due st.line.beacon .beaconExpiry
    ++ Timer.due st.line.faultTimer .lineFaultExpiry
    ++ st.line.attempt.due

/-- The machine while no command waits (log entry 6): without supply or under the reset line nothing
moves; else the first command due is put in the queue, or time moves on by one tick. -/
def Machine.State.idle (s : Machine.State) : Machine.State :=
  if s.station.live then
    match s.station.due with
    | i :: _ => { s with pending := [i] }
    | [] => { s with station := s.station.tick }
  else s

end Sys2Proof
end

