-- ==== Sys2Proof/Safety.lean ====
section
/-! DEFINITION. What a safe station is, in the terms the statements use: the laws the manual gives for
all of a station's life. -/

namespace Sys2Proof

/-- The machine with its station replaced, its queue of commands as it was. -/
def Machine.State.put (s : Machine.State) (st : Station) : Machine.State := { s with station := st }

/-- The station takes a request in: its units run, and the source is a console (R175, R176). -/
@[reducible] def Station.hearsConsole (st : Station) (src : Addr) : Prop :=
  st.running = true ∧ src ≠ st.loader.own ∧ 24 ≤ src.toNat ∧ src.toNat ≤ 31

/-- The station takes a peer's message in: its units run, and the source is another station (R175,
R176). -/
@[reducible] def Station.hearsPeer (st : Station) (src : Addr) : Prop :=
  st.running = true ∧ src ≠ st.loader.own ∧ src.toNat < 24

/-- The fire state, with the four outputs it sets (the table of section 4.8). -/
def Suppression.inState (s : Suppression) (f : FireState) (sounder warning release exhaust : Bool) :
    Suppression :=
  { s with fire := f, sounder := sounder, warning := warning, release := release, exhaust := exhaust }

/-- The two coil outputs are never on together (R31). -/
@[reducible] def Station.coilsApart (st : Station) : Prop := ¬(st.motion.coilA = true ∧ st.motion.coilB = true)

/-- The release output is never driven while the release lock is set (R65). -/
@[reducible] def Station.releaseLawful (st : Station) : Prop := st.supp.release = true → st.supp.lock = false

/-- A coil drives in the moving state toward its end alone, and never while the dead time runs (R31);
before LISTEN and in FAULT no motion is under way (R39, R188). -/
structure Station.DriveLawful (st : Station) : Prop where
  towardA : st.motion.coilA = true → st.motion.state = .moving .a
  towardB : st.motion.coilB = true → st.motion.state = .moving .b
  deadTime : st.motion.coilA = true ∨ st.motion.coilB = true → st.motion.dead = none
  atRest : st.loader.state = .loading ∨ st.loader.state = .selftest ∨ st.loader.state = .fault →
    ∀ e, st.motion.state ≠ .moving e

/-- The transmit queue holds at most 16 messages (R178). -/
@[reducible] def Station.queueBounded (st : Station) : Prop := st.line.queue.length ≤ 16

/-- The occupancy list holds at most 8 distinct badge ids (R77). -/
@[reducible] def Station.occupancyLawful (st : Station) : Prop :=
  st.door.occupancy.length ≤ 8 ∧ st.door.occupancy.Nodup

/-- The pull queue holds at most 16 entries (R107). -/
@[reducible] def Station.pullsBounded (st : Station) : Prop := st.pulls.entries.length ≤ 16

/-- The transmit queue takes what is handed to it and nothing more happens on the line: the station is
JOINED, no block holds a message pending, no slot owes a damage report, the queue has room for `n`
more, and the line is not idle, so no attempt is selected. -/
structure Station.Quiet (st : Station) (n : Nat) : Prop where
  joined : st.joined = true
  pend : st.line.pend = []
  sound : ∀ sl ∈ st.table.slots, sl.difference = 0 ∧ sl.damage = .none
  room : st.line.queue.length + n ≤ 16
  busy : st.line.idle = false

/-- Every DAMAGED record has been found and its report is owed or given (R90): no read finds another. -/
@[reducible] def Station.damageReported (st : Station) : Prop :=
  ∀ sl ∈ st.table.slots, sl.difference = 0 ∨ sl.damage ≠ .none

/-- A cartridge id stands in at most one sound record (R87). -/
def Station.idsUnique (st : Station) : Prop :=
  ∀ (m n : Nat) (a b : Slot) (c d : CartData), st.table.slots[m]? = some a →
    st.table.slots[n]? = some b → a.difference = 0 → b.difference = 0 →
    a.record.cart = some c → b.record.cart = some d → c.id = d.id → m = n

/-- A station whose record of one slot is written: its check agrees, its damage report is NONE. -/
def Station.withRecord (st : Station) (n : Nat) (r : Rec) : Station :=
  { st with
    table := { st.table with
      slots := st.table.slots.modify n fun sl =>
        { sl with record := r, difference := 0, damage := .none } } }

/-- A station whose pull queue holds the given entries. -/
def Station.withPulls (st : Station) (es : List PullEntry) : Station :=
  { st with pulls := { st.pulls with entries := es, check := 0 } }

/-- A message at the end of the transmit queue, with the next sender sequence. -/
def Line.post (l : Line) (k : Blk) (dest : Addr) (b : Body) : Line :=
  { l with
    queue := l.queue ++ [{ made := l.made, blk := k, dest := dest, seq := l.seq + 1, body := b }]
    seq := l.seq + 1
    made := l.made + 1 }

/-- A station whose queue has taken one more message. -/
def Station.post (st : Station) (k : Blk) (dest : Addr) (b : Body) : Station :=
  { st with line := st.line.post k dest b }

/-- A REPLY to a console at the end of the queue. -/
def Station.postReply (st : Station) (k : Blk) (console : Addr) (kind seq : Byte) (o : ReplyOutcome)
    (d : Option Detail := none) : Station :=
  st.post k console (.reply { kind := kind, seq := seq, outcome := o.code, detail := d })

/-- No FIRE-REPORT stands in the queue. -/
@[reducible] def Station.noReport (st : Station) : Prop := ∀ q ∈ st.line.queue, q.body.isFireReport = false

/-- A CUSTODY-ALERT to ALL of the transfer engine, by the code of its kind (R144, R183). -/
def Station.engineAlert (st : Station) (kind : Byte) (slot : Option Nat) (c : Cart) (t : Option Tid)
    (reason : Option Byte) : Station :=
  st.hand .transfers 255 (.custodyAlert
    { kind := kind, slot := slot.map (BitVec.ofNat 8), cart := some c, cart2 := none, tid := t
      reason := reason })

/-- What R125 says of the transfer table and the claim list: at most 16 entries and 4 claims, no two of
one transfer id, no two of one cartridge, none of a claimed cartridge. -/
structure Station.TransfersLawful (st : Station) : Prop where
  room : st.xfer.entries.length ≤ 16
  tids : (st.xfer.entries.map XferEntry.tid).Nodup
  carts : (st.xfer.entries.map XferEntry.cart).Nodup
  claimRoom : st.xfer.claims.length ≤ 4
  claimCarts : (st.xfer.claims.map Claim.cart).Nodup
  apart : ∀ e ∈ st.xfer.entries, ∀ k ∈ st.xfer.claims, e.cart ≠ k.cart

/-- An on-time R23 can give: 0, the whole period, or one that keeps MINPULSE from both, in ms. -/
@[reducible] def onTimeLawful (c : ConfigRecord) (t : Nat) : Prop :=
  t = 0 ∨ t = c.valvePeriod * 1000 ∨ (c.minPulse ≤ t ∧ t + c.minPulse ≤ c.valvePeriod * 1000)

/-- The stage and the applied on-time are lawful ones of the installed record, and 0 while none has been
installed since the start began (R23 to R25, R38). -/
structure Station.StageLawful (st : Station) : Prop where
  staged : onTimeLawful st.cfg st.air.staged
  applied : onTimeLawful st.cfg st.air.applied
  loading : st.loader.state = .loading → st.air.staged = 0 ∧ st.air.applied = 0

/-- A body that a frame can carry and a station read back: a REPLY with its detail as received, of 1
to 36 bytes, and an alternative that names none under a code of its own (R175, R183). -/
def Body.carried : Body → Prop
  | .reply b => match b.detail with
    | none => True
    | some (.raw bs) => 1 ≤ bs.length ∧ bs.length ≤ 36
    | some _ => False
  | .inspectClear (.other x) => x ≠ 0 ∧ x ≠ 1
  | .query (.other x) => x ≠ 0 ∧ x ≠ 1 ∧ x ≠ 2
  | _ => True

/-- The command a delivered message is (section 11.5); none for a REPLY, whose owners are the consoles. -/
def RxMsg.command (m : RxMsg) : Option Instr :=
  match m.body with
  | .status b => some (.status m.src b)
  | .fireReport b => some (.fireReport m.src b)
  | .discharge x => some (.discharge m.src x)
  | .custodyAlert b => some (.custodyAlert m.src b)
  | .offer t c j d => some (.offer m.src t c j d)
  | .accept t n => some (.accept m.src t n)
  | .refuse t r => some (.refuse m.src t r)
  | .arrive t => some (.arrive m.src t)
  | .claim c => some (.claim m.src c)
  | .close t c j => some (.close m.src t c j)
  | .withdraw t => some (.withdraw m.src t)
  | .handover b => some (.handover m.src b)
  | .checkout c j h => some (.checkout m.src m.seq (decide (m.dest = 255)) c j h)
  | .checkin j c d => some (.checkin m.src m.seq j c d)
  | .cancel c => some (.cancel m.src m.seq c)
  | .holdSet e d c o => some (.holdSet m.src m.seq e d c o)
  | .inspectClear (.slot n) => some (.inspectClear m.src m.seq (some n.toNat))
  | .inspectClear .all => some (.inspectClear m.src m.seq none)
  | .inspectClear (.other _) => some (.inspectClear m.src m.seq (some 256))
  | .audit f l => some (.audit m.src m.seq f.toNat l.toNat)
  | .restore => some (.restore m.src m.seq)
  | .occupancyClear => some (.occupancyClear m.src m.seq)
  | .query (.slot n) => some (.querySlot m.src m.seq n.toNat)
  | .query (.cart c) => some (.queryCartridge m.src m.seq c)
  | .query (.transfer t) => some (.queryTransfer m.src m.seq t)
  | .query (.other _) => some (.querySlot m.src m.seq 256)
  | .restart => some (.restart m.src m.seq)
  | .reply _ => none

end Sys2Proof
end

