-- ==== Sys2Proof/Certificates/Slice0/Obligations.lean ====
section
/-! DEFINITION. The statements for the provers. Each says in its docstring which rules of spec/ it
formalises. `s.put st` is the machine `s` with its station replaced by `st` and its queue of commands
kept, so an equation `exec c s = .next (s.put { s.station with … })` says what the command changes and
that nothing else of the machine changes. -/

open Sys2Proof

/-! ### Every command -/

/-- A step runs the command at the front of the queue, on the machine with the queue's rest. -/
def Obligations.StepRunsFront : Prop :=
  ∀ (c : Instr) (s : Machine.State),
    Machine.step { s with pending := c :: s.pending } = Machine.exec c s

/-- With no command waiting: a station without supply or under the reset line rests; else the first
command that is due joins the queue, and with none due every timer and age moves on by one tick. The
model's choice (log entry 6): the manual gives the station no step without an event.

Time that passes while nothing is due: after any number of ticks every running timer has come down
by as many, a stopped one is stopped, a transit timer before LISTEN stands (R146), every age and the
clock have grown by as many, and nothing else has changed. A tick of 8 µs is the model's choice (log
entry 6).

What is due: the expiry of each timer that has come down to 0 (that of a switch's filter is the
event the input has held for, that of a button's the press that counts, that of the scan timer a
full scan of what the matrix gives), a transit timer that is running, from LISTEN on, alone; the
next sample of an ADC scan under way, of what its channel gives, and the end of a capture under way,
with the count the sensor gives; and the silence of a peer: SILENT at three of its beacon intervals
for an ALIVE record, LOST at ten for a SILENT one (R169). -/
def Obligations.IdleStepPassesTime : Prop :=
  (∀ s : Machine.State, s.pending = [] →
     (s.station.live = false → Machine.step s = .next s) ∧
     (s.station.live = true → ∀ c rest, s.station.due = c :: rest →
       Machine.step s = .next { s with pending := [c] }) ∧
     (s.station.live = true → s.station.due = [] → Machine.step s = .next (s.put s.station.tick))) ∧
  (∀ (st : Station) (k : Nat),
     let down (t : Timer) : Timer := t.map (· - (k + 1))
     let older (d : PeerData) : PeerData :=
       { d with age := d.age + (k + 1), fire := d.fire.map fun f => (f.1, f.2 + (k + 1)) }
     Station.tick^[k + 1] st = { st with
       loader := { st.loader with
         listenTimer := down st.loader.listenTimer
         restartWait := st.loader.restartWait.map fun w => { w with timer := down w.timer }
         joinedFor := if st.loader.state = .joined then st.loader.joinedFor + (k + 1) else 0 }
       moist := { st.moist with
         delay := st.moist.delay.map fun p => (p.1, p.2 - (k + 1))
         slotTimer := down st.moist.slotTimer }
       air := { st.air with
         period := down st.air.period, onTimer := down st.air.onTimer
         sealTimer := down st.air.sealTimer }
       motion := { st.motion with dead := down st.motion.dead, travel := down st.motion.travel }
       det := { st.det with scanTimer := down st.det.scanTimer }
       supp := { st.supp with
         evacuation := down st.supp.evacuation, countdown := down st.supp.countdown
         pulse := down st.supp.pulse, soak := down st.supp.soak
         holdFilter := down st.supp.holdFilter }
       door := { st.door with unlock := down st.door.unlock }
       table := { st.table with
         minute := down st.table.minute, keyFilter := down st.table.keyFilter
         scanTimer := down st.table.scanTimer }
       audit := { st.audit with step := down st.audit.step }
       xfer := { st.xfer with
         entries := st.xfer.entries.map fun e =>
           { e with
             reply := down e.reply
             transit := if st.running = false then e.transit else match e.transit with
               | .running n => .running (n - (k + 1))
               | .paused n => .paused n
               | .stopped => .stopped }
         claims := st.xfer.claims.map fun c => { c with timer := c.timer - (k + 1) } }
       hatch := { st.hatch with
         session := { st.hatch.session with timer := down st.hatch.session.timer }
         sendTimer := down st.hatch.sendTimer, doneTimer := down st.hatch.doneTimer }
       peers := { st.peers with
         records := st.peers.records.map fun p =>
           match p with
           | .alive d => .alive (older d)
           | .silent d => .silent (older d)
           | .unheard => .unheard
           | .lost => .lost }
       line := { st.line with
         beacon := down st.line.beacon, faultTimer := down st.line.faultTimer
         attempt := match st.line.attempt with
           | .waiting m n => .waiting m (n - (k + 1))
           | .sending m f => .sending m f
           | .none => .none }
       now := st.now + (k + 1) }) ∧
  (∀ (st : Station) (c : Instr), st.peers.records.length ≤ 256 →
     (c ∈ st.due ↔
       (c = .listenEnd ∧ st.loader.listenTimer = some 0)
       ∨ (c = .restartTimerExpiry ∧ ∃ w, st.loader.restartWait = some w ∧ w.timer = some 0)
       ∨ (c = .measurementSlot ∧ st.moist.slotTimer = some 0)
       ∨ (c = .excursionDelayExpiry ∧ ∃ side, st.moist.delay = some (side, 0))
       ∨ (∃ n, c = .loopSample n (.sample (st.pins.loopCode n)) ∧ st.det.channel = some (.loop n))
       ∨ (c = .temperatureCode (.sample st.pins.adcTemp) ∧ st.det.channel = some .temperature)
       ∨ (c = .batteryCode (.sample st.pins.adcBattery) ∧ st.det.channel = some .battery)
       ∨ (c = .adcScan ∧ st.det.scanTimer = some 0)
       ∨ (c = .captureComplete (.complete st.pins.sensor) ∧ st.moist.capturing = true)
       ∨ (c = .valvePeriodExpiry ∧ st.air.period = some 0)
       ∨ (c = .onTimeExpiry ∧ st.air.onTimer = some 0)
       ∨ (c = .neighbourSealExpiry ∧ st.air.sealTimer = some 0)
       ∨ (c = .deadTimeExpiry ∧ st.motion.dead = some 0)
       ∨ (c = .travelExpiry ∧ st.motion.travel = some 0)
       ∨ (c = .evacuationExpiry ∧ st.supp.evacuation = some 0)
       ∨ (c = .countdownExpiry ∧ st.supp.countdown = some 0)
       ∨ (c = .releasePulseExpiry ∧ st.supp.pulse = some 0)
       ∨ (c = .soakExpiry ∧ st.supp.soak = some 0)
       ∨ (c = .holdSwitchChange (.filtered st.pins.holdInput) ∧ st.supp.holdFilter = some 0)
       ∨ (c = .doorUnlockExpiry ∧ st.door.unlock = some 0)
       ∨ (c = .presenceScan (.scan st.pins.matrix) ∧ st.table.scanTimer = some 0)
       ∨ (c = .minuteTimerExpiry ∧ st.table.minute = some 0)
       ∨ (c = .keySwitchChange (.filtered st.pins.keyInput) ∧ st.table.keyFilter = some 0)
       ∨ (c = .auditStepExpiry ∧ st.audit.step = some 0)
       ∨ (∃ e ∈ st.xfer.entries, c = .replyTimerExpiry e.tid ∧ e.reply = some 0)
       ∨ (∃ e ∈ st.xfer.entries, c = .transitExpiry e.tid ∧ e.transit = .running 0 ∧
           st.running = true)
       ∨ (∃ k ∈ st.xfer.claims, c = .claimTimerExpiry k.cart ∧ k.timer = 0)
       ∨ (c = .sessionTimerExpiry ∧ st.hatch.session.timer = some 0)
       ∨ (c = .sendPress .press ∧ st.hatch.sendTimer = some 0)
       ∨ (c = .donePress .press ∧ st.hatch.doneTimer = some 0)
       ∨ (∃ (a : Addr) (d : PeerData), c = .peerSilent a ∧
           st.peers.records[a.toNat]? = some (.alive d) ∧ 3 * d.interval * 125000 ≤ d.age)
       ∨ (∃ (a : Addr) (d : PeerData), c = .peerLost a ∧
           st.peers.records[a.toNat]? = some (.silent d) ∧ 10 * d.interval * 125000 ≤ d.age)
       ∨ (c = .beaconExpiry ∧ st.line.beacon = some 0)
       ∨ (c = .lineFaultExpiry ∧ st.line.faultTimer = some 0)
       ∨ (c = .accessDelayExpiry ∧ ∃ m, st.line.attempt = .waiting m 0)))

/-- Every command has an outcome in every state: it answers a next state, and it leaves the commands
that wait after it as they are. The model's form (log entry 7): a command is an event that has
happened. -/
def Obligations.EveryCommandCompletes : Prop :=
  ∀ (c : Instr) (s : Machine.State), ∃ st : Station, Machine.exec c s = .next (s.put st)

/-! ### Chapter 1: moisture -/

/-- R1, R2: a measurement slot begins in a running BAY: the capture is under way, the next slot
follows in 2 s, and nothing else changes. Where no moisture unit runs a slot and a capture's end
have no effect. A change of the count that the sensor gives changes that input alone, in every
state: the model's form (log entry 9).

R3, R41: a temperature code in a running BAY. A code from 1 to 1022 gives the temperature, the code
times 1650 divided by 1023 rounded down, less 500; a code of 0 or 1023 leaves it; a HATCH discards
every code. The scan under way goes on to its next channel. The temperature lies from -499 to 1148
after every valid code, code 443 gives 214 and code 444 gives 216, and a start leaves the reference
250.

R41: an ADC scan begins every 250 ms where the detection unit runs; one that begins with the scan
count at 0 is a long scan, and the count goes on from 7 to 0. Elsewhere no scan begins. The scan
samples loop 0 first, then the loops in their order, and in a long scan the temperature and the
release battery after loop 3: a code of the channel it samples next takes it on to the one after,
and one of any other channel leaves it there, which is the model's choice (log entry 7). A change of
the code that a channel gives changes that input alone, in every state (log entry 9).

R14: the excursion delay timer's expiry in a running BAY sets HIGH for the pending side ABOVE and
LOW for BELOW and stops the timer; a stopped timer does not expire. Taken before a measurement, a
filtered RH back in band then returns the status to IN-BAND at once; taken after a measurement that
found it back in band, no expiry follows. An expiry acts whatever time stands on its timer: the
model's form (log entry 7). -/
def Obligations.SamplesAndExcursionDelay : Prop :=
  (∀ s : Machine.State,
     (s.station.bay = true →
       Machine.exec .measurementSlot s = .next (s.put { s.station with
         moist := { s.station.moist with capturing := true, slotTimer := some (ticksOfSec 2) } })) ∧
     (s.station.bay = false → Machine.exec .measurementSlot s = .next s ∧
       ∀ count, Machine.exec (.captureComplete (.complete count)) s = .next s) ∧
     ∀ count, Machine.exec (.captureComplete (.level count)) s = .next (s.put { s.station with
       pins := { s.station.pins with sensor := count } })) ∧
  ((∀ (s : Machine.State) (code : BitVec 10),
     (s.station.bay = true → 1 ≤ code.toNat → code.toNat ≤ 1022 → ∃ t : Int,
       Machine.exec (.temperatureCode (.sample code)) s = .next (s.put { s.station with
         det := s.station.det.sampled .temperature
         moist := { s.station.moist with temp := t } }) ∧
       (t + 500) * 1023 ≤ code.toNat * 1650 ∧ (code.toNat * 1650 : Int) < (t + 501) * 1023 ∧
       -499 ≤ t ∧ t ≤ 1148 ∧ (code = 443 → t = 214) ∧ (code = 444 → t = 216)) ∧
     (s.station.running = true → code.toNat = 0 ∨ code.toNat = 1023 ∨ s.station.bay = false →
       Machine.exec (.temperatureCode (.sample code)) s = .next (s.put { s.station with
         det := s.station.det.sampled .temperature })) ∧
     (s.station.running = false → Machine.exec (.temperatureCode (.sample code)) s = .next s)) ∧
   ∀ (st : Station) (k : StartKind), (st.beginStart k).moist.temp = 250) ∧
  (∀ s : Machine.State,
     (s.station.running = true →
       let d := s.station.det
       Machine.exec .adcScan s = .next (s.put { s.station with
         det := { d with
           channel := some (.loop 0), longScan := decide (d.scanCount = 0), scanCount := (d.scanCount + 1) % 8
           scanTimer := some (ticksOfMs 250) } })) ∧
     (s.station.running = false → Machine.exec .adcScan s = .next s ∧
       ∀ n code, Machine.exec (.loopSample n (.sample code)) s = .next s ∧
         Machine.exec (.batteryCode (.sample code)) s = .next s) ∧
     (∀ (d : Detection) (c : AdcChannel),
       (d.channel ≠ some c → d.sampled c = d) ∧
       (d.channel = some c → d.sampled c = { d with
         channel := match c with
           | .loop 0 => some (.loop 1)
           | .loop 1 => some (.loop 2)
           | .loop 2 => some (.loop 3)
           | .loop 3 => if d.longScan = true then some .temperature else none
           | .temperature => some .battery
           | .battery => none })) ∧
     ∀ code : BitVec 10,
       let gives (p : Pins) : Host.Outcome Machine.State Machine.Fault Machine.Refusal :=
         .next (s.put { s.station with pins := p })
       let p := s.station.pins
       Machine.exec (.loopSample 0 (.level code)) s = gives { p with adcLoop0 := code } ∧
       Machine.exec (.loopSample 1 (.level code)) s = gives { p with adcLoop1 := code } ∧
       Machine.exec (.loopSample 2 (.level code)) s = gives { p with adcLoop2 := code } ∧
       Machine.exec (.loopSample 3 (.level code)) s = gives { p with adcLoop3 := code } ∧
       Machine.exec (.temperatureCode (.level code)) s = gives { p with adcTemp := code } ∧
       Machine.exec (.batteryCode (.level code)) s = gives { p with adcBattery := code }) ∧
  ((∀ s : Machine.State, s.station.bay = true →
     (∀ n, s.station.moist.delay = some (.above, n) →
       Machine.exec .excursionDelayExpiry s = .next (s.put { s.station with
         moist := { s.station.moist with status := .high, delay := none } })) ∧
     (∀ n, s.station.moist.delay = some (.below, n) →
       Machine.exec .excursionDelayExpiry s = .next (s.put { s.station with
         moist := { s.station.moist with status := .low, delay := none } })) ∧
     (s.station.moist.delay = none → Machine.exec .excursionDelayExpiry s = .next s)) ∧
   (∀ (s t u : Machine.State) (count : Option (BitVec 16)) (f : Nat), s.station.bay = true →
     s.station.moist.delay.isSome → s.station.moist.status ≠ .sensorFault →
     Machine.exec .excursionDelayExpiry s = .next t →
     Machine.exec (.captureComplete (.complete count)) t = .next u →
     u.station.moist.filtered = some f → u.station.moist.status ≠ .sensorFault →
     f ≤ s.station.cfg.sp + s.station.cfg.band → s.station.cfg.sp ≤ f + s.station.cfg.band →
     u.station.moist.status = .inBand) ∧
   (∀ (s t : Machine.State) (count : Option (BitVec 16)) (f : Nat), s.station.bay = true →
     Machine.exec (.captureComplete (.complete count)) s = .next t → t.station.moist.filtered = some f →
     t.station.moist.status ≠ .sensorFault →
     f ≤ s.station.cfg.sp + s.station.cfg.band → s.station.cfg.sp ≤ f + s.station.cfg.band →
     Machine.exec .excursionDelayExpiry t = .next t))

/-- R6, R8, R11, R16: the completion of a capture that gives a faulted measurement: an overflow, or
a count below 8,000, below P0T − 1000 or above P100 + 1000, P0T being P0 plus the correction of R5.
The raw and the filtered RH stay, the run of faults grows up to 255, and the fifth of a run brings
SENSOR-FAULT with the delay timer stopped. In SENSOR-FAULT a further one changes nothing else. The
moisture unit and the dry-air unit alone change.

R5, R7, R9, R10, R12: the completion of a capture that gives a valid measurement under a record with
P0 below P100. The raw RH is the nearest whole number to (P − P0T) × 1000 / (P100 − P0), one half
upward, clamped to 0 … 1000. The filter starts afresh where there is no filtered RH or the run of
faults had reached 5, and else moves by the difference divided by ALPHA_DIV truncated toward zero.
The run of faults is 0 and SENSOR-FAULT has ended. -/
def Obligations.MeasurementJudgedAndFiltered : Prop :=
  (∀ (s : Machine.State) (count : Option (BitVec 16)), s.station.bay = true →
     (∀ p, count = some p →
       p.toNat < 8000
       ∨ (p.toNat : Int) < s.station.cfg.p0
           + ((s.station.moist.temp - 250) * s.station.cfg.k).tdiv 10 - 1000
       ∨ s.station.cfg.p100 + 1000 < p.toNat) →
     ∃ (m : Moisture) (a : DryAir),
       Machine.exec (.captureComplete (.complete count)) s = .next (s.put { s.station with moist := m, air := a }) ∧
       m.raw = s.station.moist.raw ∧ m.filtered = s.station.moist.filtered ∧
       m.temp = s.station.moist.temp ∧ m.slotTimer = s.station.moist.slotTimer ∧
       m.capturing = false ∧
       m.faultRun = min 255 (s.station.moist.faultRun + 1) ∧
       (s.station.moist.faultRun = 4 → m.status = .sensorFault ∧ m.delay = none) ∧
       (s.station.moist.faultRun ≠ 4 → s.station.moist.status = .sensorFault →
         m.status = .sensorFault ∧ m.delay = s.station.moist.delay) ∧
       (s.station.moist.faultRun ≠ 4 → s.station.moist.status ≠ .sensorFault →
         m.status ≠ .sensorFault)) ∧
  (∀ (s : Machine.State) (p : BitVec 16), s.station.bay = true →
     let c := s.station.cfg
     let zero : Int := c.p0 + ((s.station.moist.temp - 250) * c.k).tdiv 10
     c.p0 < c.p100 → 8000 ≤ p.toNat → zero - 1000 ≤ p.toNat → p.toNat ≤ c.p100 + 1000 →
     ∃ (m : Moisture) (a : DryAir) (q : Int) (raw filtered : Nat),
       Machine.exec (.captureComplete (.complete (some p))) s
         = .next (s.put { s.station with moist := m, air := a }) ∧
       (2 * q - 1) * ((c.p100 : Int) - c.p0) ≤ 2 * ((p.toNat - zero) * 1000) ∧
       2 * ((p.toNat - zero) * 1000) < (2 * q + 1) * ((c.p100 : Int) - c.p0) ∧
       (raw : Int) = max 0 (min 1000 q) ∧
       m.raw = some raw ∧ m.filtered = some filtered ∧ m.faultRun = 0 ∧ m.latest = .count p ∧
       m.capturing = false ∧ m.temp = s.station.moist.temp ∧
       m.slotTimer = s.station.moist.slotTimer ∧
       m.status ≠ .sensorFault ∧
       (s.station.moist.filtered = none ∨ 5 ≤ s.station.moist.faultRun → filtered = raw) ∧
       (∀ f, s.station.moist.filtered = some f → s.station.moist.faultRun < 5 →
         (filtered : Int) = f + ((raw : Int) - f).tdiv c.alphaDiv))

/-- R12, R13: every completed capture that leaves the unit outside SENSOR-FAULT with a filtered RH
present classifies it by the table of R13. The status before it is IN-BAND where SENSOR-FAULT has
just ended. With no filtered RH the status is IN-BAND and the timer stopped. -/
def Obligations.MeasurementClassified : Prop :=
  ∀ (s : Machine.State) (count : Option (BitVec 16)), s.station.bay = true →
    let c := s.station.cfg
    let before : Excursion :=
      if s.station.moist.status = .sensorFault then .inBand else s.station.moist.status
    let delay := s.station.moist.delay
    ∃ (m : Moisture) (a : DryAir),
      Machine.exec (.captureComplete (.complete count)) s = .next (s.put { s.station with moist := m, air := a }) ∧
      (m.status ≠ .sensorFault → m.filtered = none → m.status = .inBand ∧ m.delay = none) ∧
      (m.status ≠ .sensorFault → ∀ f, m.filtered = some f →
        (f ≤ c.sp + c.band ∧ c.sp ≤ f + c.band → m.status = .inBand ∧ m.delay = none) ∧
        (c.sp + c.band < f →
          (before = .high → m.status = .high ∧ m.delay = delay) ∧
          (before ≠ .high → ∀ n, delay = some (.above, n) →
            m.status = before ∧ m.delay = some (.above, n)) ∧
          (before ≠ .high → (∀ n, delay ≠ some (.above, n)) →
            (c.excDelay = 0 → m.status = .high ∧ m.delay = none) ∧
            (c.excDelay ≠ 0 →
              m.status = .inBand ∧ m.delay = some (.above, ticksOfSec c.excDelay)))) ∧
        (f + c.band < c.sp →
          (before = .low → m.status = .low ∧ m.delay = delay) ∧
          (before ≠ .low → ∀ n, delay = some (.below, n) →
            m.status = before ∧ m.delay = some (.below, n)) ∧
          (before ≠ .low → (∀ n, delay ≠ some (.below, n)) →
            (c.excDelay = 0 → m.status = .low ∧ m.delay = none) ∧
            (c.excDelay ≠ 0 →
              m.status = .inBand ∧ m.delay = some (.below, ticksOfSec c.excDelay)))))

/-! ### Chapter 2: dry air and the motion channel -/

/-- R16, R20, R22, R23: every completed capture in a running BAY ends with the computation of
demand, share, duty and on-time, from what the moisture unit holds after it. The demand is
FALLBACK_DEMAND in SENSOR-FAULT, 0 without a filtered RH or at an error of 0 or less, and else the
error times GAIN divided by 16, at most 255. The share is C × d divided by the total, at most CAP,
and 0 for a demand of 0. The on-time follows from duty and period and is clamped against MINPULSE.

R24: each computation places its on-time in the stage, whatever the stage held and whether or not it
was ever applied, with forced safe present or absent: two stations that differ in their stage, their
applied on-time and their forced safe alone stage the same on-time at the same capture. -/
def Obligations.DemandShareOnTime : Prop :=
  (∀ (s : Machine.State) (count : Option (BitVec 16)), s.station.bay = true →
     let c := s.station.cfg
     ∃ (m : Moisture) (d share staged : Nat),
       Machine.exec (.captureComplete (.complete count)) s = .next (s.put { s.station with
         moist := m
         air := { s.station.air with demand := d, airShare := share, staged := staged } }) ∧
       (m.status = .sensorFault → d = c.fallbackDemand) ∧
       (m.status ≠ .sensorFault → m.filtered = none → d = 0) ∧
       (m.status ≠ .sensorFault → ∀ f, m.filtered = some f → f + c.db ≤ c.sp → d = 0) ∧
       (m.status ≠ .sensorFault → ∀ f e, m.filtered = some f → f + c.db = c.sp + e → 1 ≤ e →
         d = min 255 (e * c.gain / 16)) ∧
       (d = 0 → share = 0) ∧
       (d ≠ 0 → share = min c.cap (c.capacity * d /
         (d + (s.station.peers.records.map Peer.bayDemand).sum))) ∧
       (let raw := min 1000 (share * 1000 / c.vfull) * (c.valvePeriod * 1000) / 1000
        staged = if raw < c.minPulse then 0
          else if c.valvePeriod * 1000 - raw < c.minPulse then c.valvePeriod * 1000 else raw) ∧
       (c.minPulse ≤ c.valvePeriod * 250 → staged = 0 ∨ staged = c.valvePeriod * 1000 ∨
         (c.minPulse ≤ staged ∧ staged + c.minPulse ≤ c.valvePeriod * 1000))) ∧
  (∀ (s : Machine.State) (count : Option (BitVec 16)) (stage applied : Nat) (safe : Bool),
     s.station.bay = true →
     ∃ (m : Moisture) (d share staged : Nat),
       Machine.exec (.captureComplete (.complete count)) s = .next (s.put { s.station with
         moist := m
         air := { s.station.air with demand := d, airShare := share, staged := staged } }) ∧
       Machine.exec (.captureComplete (.complete count))
           (s.put { s.station with
             air := { s.station.air with staged := stage, applied := applied, forcedSafe := safe } })
         = .next (s.put { s.station with
           moist := m
           air := { s.station.air with
             demand := d, airShare := share, staged := staged, applied := applied
             forcedSafe := safe } }))

/-- R25: a period start in a running BAY. The period timer goes on, the staged on-time is loaded as
the applied on-time, and the valve is driven by the table of R25. A stopped period timer does not
expire.

R25: the on-time timer's expiry in a running BAY puts the valve output off; a stopped timer does not
expire.

R28, R29: the neighbour seal timer's expiry in a running BAY. In an unconfirmed fire state forced
safe ends and the damper is commanded OPEN; in a confirmed one forced safe stays and no command is
given. A stopped timer does not expire.

R28, R29, R168: a DISCHARGE from another station. The sender's record is refreshed; in a BAY whose
neighbour set holds the sender the seal timer is loaded with the soak time, taken within 10 to 120
minutes, and where forced safe was absent the valve is cut off and the damper commanded CLOSED. From
a station outside the set, or in a HATCH, the record alone changes. -/
def Obligations.ValveAndNeighbourSeal : Prop :=
  (∀ s : Machine.State, s.station.bay = true →
     (s.station.air.period = none → Machine.exec .valvePeriodExpiry s = .next s) ∧
     (s.station.air.period.isSome →
       let a := s.station.air
       let c := s.station.cfg
       let shut := a.forcedSafe || decide (a.staged = 0)
       Machine.exec .valvePeriodExpiry s = .next (s.put { s.station with
         air := { a with
           period := some (ticksOfSec c.valvePeriod), applied := a.staged, valve := !shut
           onTimer :=
             if shut || decide (a.staged = c.valvePeriod * 1000) then none
             else some (ticksOfMs a.staged) } }))) ∧
  (∀ s : Machine.State, s.station.bay = true →
     (s.station.air.onTimer.isSome →
       Machine.exec .onTimeExpiry s = .next (s.put { s.station with
         air := { s.station.air with valve := false, onTimer := none } })) ∧
     (s.station.air.onTimer = none → Machine.exec .onTimeExpiry s = .next s)) ∧
  (∀ s : Machine.State, s.station.bay = true →
     (s.station.air.sealTimer = none → Machine.exec .neighbourSealExpiry s = .next s) ∧
     (s.station.air.sealTimer.isSome → s.station.air.forcedSafe = true → s.station.confirmed = false →
       Machine.exec .neighbourSealExpiry s
         = .next (s.put ({ s.station with
             air := { s.station.air with sealTimer := none, forcedSafe := false } }.command .a).1)) ∧
     (s.station.air.sealTimer.isSome → s.station.air.forcedSafe = true → s.station.confirmed = true →
       Machine.exec .neighbourSealExpiry s = .next (s.put { s.station with
         air := { s.station.air with sealTimer := none } }))) ∧
  (∀ (s : Machine.State) (src : Addr) (soak : Byte), s.station.hearsPeer src →
     let heard := s.station.modifyPeer src Peer.refresh
     let acts := decide (s.station.cfg.role = .bay) && s.station.peers.neighbours.contains src
     let minutes := if soak.toNat < 10 then 10 else if 120 < soak.toNat then 120 else soak.toNat
     (acts = false → Machine.exec (.discharge src soak) s = .next (s.put heard)) ∧
     (acts = true → s.station.air.forcedSafe = true →
       Machine.exec (.discharge src soak) s = .next (s.put { heard with
         air := { s.station.air with sealTimer := some (ticksOfMin minutes) } })) ∧
     (acts = true → s.station.air.forcedSafe = false →
       Machine.exec (.discharge src soak) s
         = .next (s.put ({ heard with
             air := { s.station.air with
               sealTimer := some (ticksOfMin minutes), forcedSafe := true, valve := false
               onTimer := none } }.command .b).1)))

/-- R31, R32: a command to the motion channel, by the table of R32 for either end of either load; a
drive that waits while the dead time runs. R35, R161: a drive that comes due at the command with a
flap open is not made: the channel is STALLED with cause INTERLOCK, and its owner is told. -/
def Obligations.MotionCommandTable : Prop :=
  ∀ (st : Station) (e : MotionEnd),
    let other : MotionEnd := match e with | .a => .b | .b => .a
    let m := { st.motion with last := some e }
    let put (m : Motion) : Station := { st with motion := m }
    let driven := m.coilA || m.coilB
    let off : Motion :=
      { m with
        coilA := false, coilB := false, travel := none
        dead := if driven then some (ticksOfMs 500) else m.dead }
    let on : Motion :=
      { off with
        state := .moving e, cause := none, coilA := decide (e = .a), coilB := decide (e = .b)
        travel := some (ticksOfSec st.travelLimit) }
    (st.motion.state = .resting e → st.command e = (put m, none)) ∧
    (st.motion.state = .moving e → st.command e = (put m, none)) ∧
    (st.motion.state = .resting other ∨ st.motion.state = .stalled → st.arrivalHolds e = true →
      st.command e = (put { off with state := .resting e, cause := none }, some (.arrived e))) ∧
    (st.motion.state = .moving other
        ∨ ((st.motion.state = .resting other ∨ st.motion.state = .stalled)
          ∧ st.arrivalHolds e = false) →
      (off.dead.isSome →
        st.command e = (put { off with state := .moving e, cause := none }, none)) ∧
      (off.dead = none → st.flapBlocks = false → st.command e = (put on, none)) ∧
      (off.dead = none → st.flapBlocks = true →
        st.command e
          = (put { off with state := .stalled, cause := some .interlock },
              some (.stalled .interlock))))

/-- R31, R161: the dead-time timer's expiry. A damper's pending drive comes on with a fresh travel
time, and with none pending the timer alone stops; a stopped timer does not expire. At a drawer with
a flap open the drive is a stop event: the channel is STALLED with cause INTERLOCK.

R34, R37: the travel timer's expiry. The coils go off with the dead time loaded and the channel is
STALLED with cause TRAVEL; a damper's owner does nothing about it, nor does the hatch unit with no
session to break off. A stopped timer does not expire. -/
def Obligations.DeadTimeAndTravelExpire : Prop :=
  (∀ s : Machine.State, s.station.live = true →
     let m := s.station.motion
     let put (m : Motion) : Machine.State := s.put { s.station with motion := m }
     (m.dead = none → Machine.exec .deadTimeExpiry s = .next s) ∧
     (m.dead.isSome → (∀ e, m.state = .moving e → m.coilA = true ∨ m.coilB = true) →
       Machine.exec .deadTimeExpiry s = .next (put { m with dead := none })) ∧
     (∀ e, m.dead.isSome → m.state = .moving e → m.coilA = false → m.coilB = false →
       s.station.flapBlocks = false →
       Machine.exec .deadTimeExpiry s = .next (put { m with
         dead := none, coilA := decide (e = .a), coilB := decide (e = .b)
         travel := some (ticksOfSec s.station.travelLimit) })) ∧
     (∀ e, m.dead.isSome → m.state = .moving e → m.coilA = false → m.coilB = false →
       s.station.flapBlocks = true → s.station.hatch.session.state.active = false →
       Machine.exec .deadTimeExpiry s = .next (put { m with
         dead := none, state := .stalled, cause := some .interlock, travel := none }))) ∧
  (∀ s : Machine.State, s.station.running = true →
     let m := s.station.motion
     (m.travel = none → Machine.exec .travelExpiry s = .next s) ∧
     (m.travel.isSome →
       s.station.cfg.role = .bay ∨ s.station.hatch.session.state.active = false →
       Machine.exec .travelExpiry s = .next (s.put { s.station with
         motion := { m with
           state := .stalled, cause := some .travel, coilA := false, coilB := false, travel := none
           dead := if m.coilA || m.coilB then some (ticksOfMs 500) else m.dead } })))

/-- R33, R39: an end switch of the damper closes. While the damper moves toward that end, or is
STALLED with that end last commanded, it comes to rest there: coils off, dead time loaded where one
was on, any stall ended. Else the level of the pin alone changes; the drawer's switch is none of a
BAY's.

R36, R39: the end switch a damper rests on opens: the channel drives the same coil again, at once or
pending while the dead time runs. Away from that end the level of the pin alone changes. -/
def Obligations.DamperEndSwitches : Prop :=
  (∀ (s : Machine.State) (e : MotionEnd), s.station.bay = true →
     let sw : EndSwitch := match e with | .a => .openEnd | .b => .closedEnd
     let pins : Pins := match e with
       | .a => { s.station.pins with openEnd := true }
       | .b => { s.station.pins with closedEnd := true }
     let m := s.station.motion
     (m.state = .moving e ∨ (m.state = .stalled ∧ m.last = some e) →
       Machine.exec (.endSwitchClose sw) s = .next (s.put { s.station with
         pins := pins
         motion := { m with
           state := .resting e, cause := none, coilA := false, coilB := false, travel := none
           dead := if m.coilA || m.coilB then some (ticksOfMs 500) else m.dead } })) ∧
     (m.state ≠ .moving e → ¬(m.state = .stalled ∧ m.last = some e) →
       Machine.exec (.endSwitchClose sw) s = .next (s.put { s.station with pins := pins })) ∧
     Machine.exec (.endSwitchClose .innerEnd) s
       = .next (s.put { s.station with pins := { s.station.pins with innerEnd := true } })) ∧
  (∀ (s : Machine.State) (e : MotionEnd), s.station.bay = true →
     let sw : EndSwitch := match e with | .a => .openEnd | .b => .closedEnd
     let pins : Pins := match e with
       | .a => { s.station.pins with openEnd := false }
       | .b => { s.station.pins with closedEnd := false }
     let m := s.station.motion
     (m.state ≠ .resting e →
       Machine.exec (.endSwitchOpen sw) s = .next (s.put { s.station with pins := pins })) ∧
     (m.state = .resting e → m.coilA = false → m.coilB = false → m.dead = none →
       Machine.exec (.endSwitchOpen sw) s = .next (s.put { s.station with
         pins := pins
         motion := { m with
           state := .moving e, cause := none, coilA := decide (e = .a), coilB := decide (e = .b)
           travel := some (ticksOfSec s.station.cfg.damperTravel) } })) ∧
     (m.state = .resting e → m.coilA = false → m.coilB = false → m.dead.isSome →
       Machine.exec (.endSwitchOpen sw) s = .next (s.put { s.station with
         pins := pins
         motion := { m with state := .moving e, cause := none, travel := none } })) ∧
     Machine.exec (.endSwitchOpen .innerEnd) s
       = .next (s.put { s.station with pins := { s.station.pins with innerEnd := false } }))

/-! ### Chapter 3: detection -/

/-- R43: each sample of a used loop is sorted into a band by its code alone, the same for every kind
of loop, and the band becomes the loop's current band; on a HEAT or MANUAL loop a single reading in
the ALARM band latches, whatever follows it. An UNUSED loop's code is discarded, and the scan under
way goes on all the same.

R44, R46, R47, R48: a sample of a used loop that makes no latch changes that loop alone. The alarm
run grows in the ALARM band up to the verification count (3 for SMOKE, 1 for HEAT and MANUAL) and is
0 after any other band; the latch stays; the trouble run counts the samples against the present
trouble, which turns at the fourth and takes a fault sample's kind. -/
def Obligations.LoopBandSorted : Prop :=
  (∀ (s : Machine.State) (n : Fin 4) (code : BitVec 10), s.station.running = true →
     ((s.station.cfg.loop n).kind = .unused →
       Machine.exec (.loopSample n (.sample code)) s = .next (s.put { s.station with
         det := s.station.det.sampled (.loop n) })) ∧
     ((s.station.cfg.loop n).kind ≠ .unused → ∃ t : Machine.State,
       Machine.exec (.loopSample n (.sample code)) s = .next t ∧
       (900 ≤ code.toNat → (t.station.det.loop n).band = some .opened) ∧
       (500 ≤ code.toNat → code.toNat ≤ 899 → (t.station.det.loop n).band = some .normal) ∧
       (150 ≤ code.toNat → code.toNat ≤ 499 → (t.station.det.loop n).band = some .alarm) ∧
       (code.toNat ≤ 149 → (t.station.det.loop n).band = some .shorted) ∧
       (∀ other, other ≠ n → t.station.det.loop other = s.station.det.loop other) ∧
       ((s.station.cfg.loop n).kind ≠ .smoke → 150 ≤ code.toNat → code.toNat ≤ 499 →
         (t.station.det.loop n).latched = true))) ∧
  (∀ (s : Machine.State) (n : Fin 4) (code : BitVec 10), s.station.running = true →
     let kind := (s.station.cfg.loop n).kind
     let needed := if kind = .smoke then 3 else 1
     let l := s.station.det.loop n
     let alarm := decide (150 ≤ code.toNat ∧ code.toNat ≤ 499)
     let broken := decide (code.toNat ≤ 149 ∨ 900 ≤ code.toNat)
     let fault : Trouble := if code.toNat ≤ 149 then .shorted else .opened
     kind ≠ .unused → (alarm = false ∨ l.latched = true ∨ l.alarmRun + 1 < needed) →
     ∃ l' : Loop,
       Machine.exec (.loopSample n (.sample code)) s
         = .next (s.put { s.station with
           det := (s.station.det.sampled (.loop n)).setLoop n l' }) ∧
       l'.latched = l.latched ∧
       (alarm = true → l'.alarmRun = min needed (l.alarmRun + 1)) ∧
       (alarm = false → l'.alarmRun = 0) ∧
       (l.trouble = .none → broken = false → l'.trouble = .none ∧ l'.troubleRun = 0) ∧
       (l.trouble = .none → broken = true → l.troubleRun ≠ 3 →
         l'.trouble = .none ∧ l'.troubleRun = l.troubleRun + 1) ∧
       (l.trouble = .none → broken = true → l.troubleRun = 3 →
         l'.trouble = fault ∧ l'.troubleRun = 0) ∧
       (l.trouble ≠ .none → broken = true → l'.trouble = fault ∧ l'.troubleRun = 0) ∧
       (l.trouble ≠ .none → broken = false → l.troubleRun ≠ 3 →
         l'.trouble = l.trouble ∧ l'.troubleRun = l.troubleRun + 1) ∧
       (l.trouble ≠ .none → broken = false → l.troubleRun = 3 →
         l'.trouble = .none ∧ l'.troubleRun = 0))

/-- R49: a battery code where the detection unit runs. Two consecutive codes against the present
battery trouble turn it, and a code with it sets the run to 0; with BATTERY_LOW 0 a clear trouble
stays clear. RESTORE does not touch the battery trouble, and a release is driven at the countdown's
expiry whether the trouble is set or clear. -/
def Obligations.BatteryJudged : Prop :=
  (∀ (s : Machine.State) (code : BitVec 10), s.station.running = true →
    let d := s.station.det.sampled .battery
    let low := decide (code.toNat < s.station.cfg.batteryLow)
    let put (set : Bool) (run : Nat) : Machine.State :=
      s.put { s.station with det := { d with battery := set, batteryRun := run } }
    (low = d.battery → Machine.exec (.batteryCode (.sample code)) s = .next (put d.battery 0)) ∧
    (low ≠ d.battery → d.batteryRun ≠ 1 →
      Machine.exec (.batteryCode (.sample code)) s = .next (put d.battery (d.batteryRun + 1))) ∧
    (low ≠ d.battery → d.batteryRun = 1 →
      Machine.exec (.batteryCode (.sample code)) s = .next (put low 0)) ∧
    (s.station.cfg.batteryLow = 0 → d.battery = false → ∃ t : Machine.State,
      Machine.exec (.batteryCode (.sample code)) s = .next t ∧ t.station.det.battery = false)) ∧
  (∀ (s : Machine.State) (src : Addr) (seq : Byte), ∃ t : Machine.State,
    Machine.exec (.restore src seq) s = .next t ∧
    t.station.det.battery = s.station.det.battery) ∧
  (∀ s : Machine.State, s.station.running = true → s.station.supp.fire = .countdown →
    s.station.supp.countdown.isSome → s.station.supp.lock = false → ∃ t : Machine.State,
    Machine.exec .countdownExpiry s = .next t ∧ t.station.supp.release = true ∧
    t.station.det.battery = s.station.det.battery)

/-! ### Chapter 4: the suppression sequence -/

/-- R56: the confirmation condition: both zone latches set, or a used loop latched and a station of
the neighbour set whose record, ALIVE or SILENT, holds a fire state other than NORMAL no older than
CONF_WIN seconds.

R60, R63: a confirmation in NORMAL or PREALARM. With attendants in the bay the state becomes
EVACUATE with EVAC_LIMIT; with none, COUNTDOWN with PREDISCHARGE, or HELD at once where the hold
switch reads CLOSED. The sounder is on, the blocks follow, and each state has its FIRE-REPORT. A
HATCH has occupancy 0 at all times. The blocks act in the order of R70's table and the FIRE-REPORT
is handed on after them: the model's choice (log entry 12). -/
def Obligations.ConfirmationTested : Prop :=
  (∀ st : Station, st.confirmationHolds = true ↔
     (st.det.zoneA = true ∧ st.det.zoneB = true) ∨
     ((∃ n : Fin 4, (st.cfg.loop n).kind ≠ .unused ∧ (st.det.loop n).latched = true) ∧
       ∃ a ∈ st.peers.neighbours, ∃ (d : PeerData) (f : FireState) (age : Ticks),
         (st.peers.records[a.toNat]? = some (.alive d) ∨
           st.peers.records[a.toNat]? = some (.silent d)) ∧
         d.fire = some (f, age) ∧ f ≠ .normal ∧ age ≤ 125000 * st.cfg.confWin)) ∧
  (∀ st : Station, st.confirmed = false →
     let counting : Station := { st with
       supp := { st.supp.inState .countdown true true false false with
         evacuation := none, countdown := some (ticksOfSec st.cfg.predischarge) } }
     let counted := counting.followConfirmed.handFireReport
     (0 < st.occupancyCount →
       st.confirm = ({ st with
         supp := { st.supp.inState .evacuate true false false false with
           evacuation := some (ticksOfSec st.cfg.evacLimit) } } : Station
         ).followConfirmed.handFireReport) ∧
     (st.occupancyCount = 0 → st.supp.holdClosed = false → st.confirm = counted) ∧
     (st.occupancyCount = 0 → st.supp.holdClosed = true →
       st.confirm = ({ counted with
         supp := { counted.supp.inState .held true true false false with countdown := none }
         } : Station).handFireReport) ∧
     (st.cfg.role = .hatch → st.occupancyCount = 0))

/-- R44, R50, R57 to R60: the sample that completes the alarm run of an unlatched SMOKE or HEAT loop
latches the loop and its zone. In a confirmed state nothing more comes of it. In NORMAL or PREALARM
with the confirmation condition then holding, the station confirms. With it not holding, a station
in NORMAL is in PREALARM, the sounder on, with one FIRE-REPORT, and one in PREALARM changes no
further.

R61, R63, R71: a MANUAL loop's latch in NORMAL or PREALARM takes the station to COUNTDOWN with the
manual flag set and the full PREDISCHARGE, whatever the occupancy and the confirmation condition;
the blocks of section 4.9 follow, then one FIRE-REPORT; with the hold switch CLOSED it goes on to
HELD at once, the countdown stopped, with a second FIRE-REPORT. In a confirmed state the loop
latches and nothing more comes of it. That the blocks act before the FIRE-REPORT is the model's
choice (log entry 12). -/
def Obligations.AlarmsTakenIn : Prop :=
  (∀ (s : Machine.State) (n : Fin 4) (code : BitVec 10) (l' : Loop) (d' : Detection),
     s.station.running = true → 150 ≤ code.toNat → code.toNat ≤ 499 →
     (s.station.det.loop n).latched = false →
     ((s.station.cfg.loop n).kind = .heat ∨
       ((s.station.cfg.loop n).kind = .smoke ∧ 2 ≤ (s.station.det.loop n).alarmRun)) →
     l'.band = some .alarm → l'.latched = true →
     l'.alarmRun = (if (s.station.cfg.loop n).kind = .smoke then 3 else 1) →
     l'.trouble = ((s.station.det.loop n).judgeTrouble .alarm).trouble →
     l'.troubleRun = ((s.station.det.loop n).judgeTrouble .alarm).troubleRun →
     d' = (match (s.station.cfg.loop n).zone with
       | .a => { (s.station.det.sampled (.loop n)).setLoop n l' with zoneA := true }
       | .b => { (s.station.det.sampled (.loop n)).setLoop n l' with zoneB := true }) →
     let latched : Station := { s.station with det := d' }
     let run := Machine.exec (.loopSample n (.sample code)) s
     (s.station.confirmed = true → run = .next (s.put latched)) ∧
     (s.station.confirmed = false → latched.confirmationHolds = true →
       run = .next (s.put latched.confirm)) ∧
     (s.station.supp.fire = .prealarm → latched.confirmationHolds = false →
       run = .next (s.put latched)) ∧
     (s.station.supp.fire = .normal → latched.confirmationHolds = false →
       run = .next (s.put ({ latched with
         supp := s.station.supp.inState .prealarm true false false false } : Station).handFireReport))) ∧
  (∀ (s : Machine.State) (n : Fin 4) (code : BitVec 10) (l' : Loop) (d' : Detection),
     s.station.running = true → (s.station.cfg.loop n).kind = .manual →
     150 ≤ code.toNat → code.toNat ≤ 499 → (s.station.det.loop n).latched = false →
     l'.band = some .alarm → l'.latched = true → l'.alarmRun = 1 →
     l'.trouble = ((s.station.det.loop n).judgeTrouble .alarm).trouble →
     l'.troubleRun = ((s.station.det.loop n).judgeTrouble .alarm).troubleRun →
     d' = (match (s.station.cfg.loop n).zone with
       | .a => { (s.station.det.sampled (.loop n)).setLoop n l' with zoneA := true }
       | .b => { (s.station.det.sampled (.loop n)).setLoop n l' with zoneB := true }) →
     let run := Machine.exec (.loopSample n (.sample code)) s
     let counted := ({ s.station with
       det := d'
       supp := { s.station.supp.inState .countdown true true false false with
         manual := true, evacuation := none
         countdown := some (ticksOfSec s.station.cfg.predischarge) }
       } : Station).followConfirmed.handFireReport
     (s.station.confirmed = false → s.station.supp.holdClosed = false → run = .next (s.put counted)) ∧
     (s.station.confirmed = false → s.station.supp.holdClosed = true →
       run = .next (s.put ({ counted with
         supp := { counted.supp.inState .held true true false false with countdown := none }
         } : Station).handFireReport)) ∧
     (s.station.confirmed = true → run = .next (s.put { s.station with det := d' })))

/-- R28, R70, R71, R110, R121, R137, R156, R189: what the blocks do on entry into a confirmed state,
and nothing else changes: a BAY not yet forced safe has its valve off and its damper commanded
CLOSED, while one that a neighbour's seal had forced safe is given no command; every LIT pull entry
is WAITING, all else of the pull queue as it was, and no lamp asked for; an audit under way answers
ABORTED with its cursor and counts and is IDLE, cleared, a sound OUT record at its cursor without a
pull entry unplanned; every running transit timer is paused with what it has left; a courier session
under way is ABORTED with reason FIRE, IN-DRAWER entries HELD-OUTBOUND again, one HANDOVER handed to
ALL, the manifest cleared, the drawer commanded IN, and IDLE, cleared, where it rests there; no
restart waits. An audit under way is RUNNING only with every entry OUT and SUSPENDED only with one
that is not, as the suspension test leaves it. The order of the blocks (log entry 12), the audit
cleared at IDLE (log entry 23) and the session cleared at IDLE (log entry 17) are the model's. The
number of a HANDOVER's outcome is the model's choice (log entry 14). -/
def Obligations.BlocksFollowConfirmation : Prop :=
  ∀ st : Station, st.confirmed = true →
    let t := st.followConfirmed
    (st.cfg.role = .bay → t.air.forcedSafe = true) ∧
    (st.cfg.role = .bay → st.air.forcedSafe = false →
      t.air = { st.air with forcedSafe := true, valve := false, onTimer := none } ∧
      t.motion.last = some .b) ∧
    (st.cfg.role = .bay → st.air.forcedSafe = true → st.hatch.session.state.active = false →
      t.air = st.air ∧ t.motion = st.motion) ∧
    (st.cfg.role = .hatch → t.air = st.air) ∧
    (∀ e ∈ t.pulls.entries, e.state ≠ .lit) ∧ t.pulls.lamp = none ∧
    t.audit.state = .idle ∧ (∀ e ∈ t.xfer.entries, ∀ n, e.transit ≠ .running n) ∧
    t.hatch.session.state.active = false ∧ t.loader.restartWait = none ∧
    t.supp = st.supp ∧ t.det = st.det ∧ t.moist = st.moist ∧ t.door = st.door ∧
    t.peers = st.peers ∧
    let safe : Station :=
      if st.cfg.role = .bay ∧ st.air.forcedSafe = false then
        (({ st with air := { st.air with forcedSafe := true, valve := false, onTimer := none }
          } : Station).command .b).1
      else st
    let frozen : Station := { safe with
      pulls := { st.pulls with
        check := 0, lamp := none
        entries := st.pulls.entries.map fun e =>
          if e.state = .out then e else { e with state := .waiting } } }
    let paused (x : Station) : Station := { x with
      xfer := { x.xfer with
        check := 0
        entries := x.xfer.entries.map fun e =>
          { e with transit := match e.transit with
              | .running n => .paused n
              | .paused n => .paused n
              | .stopped => .stopped } } }
    let broken (j : Job) (d : Direction) (x : Station) : Station :=
      let back := x.hatch.custody.map fun e =>
        if e.state = .inDrawer then { e with state := .heldOutbound } else e
      let ended : Station := { x with
        hatch := { x.hatch with
          custody := back, custodyCheck := 0
          session := { x.hatch.session with
            state := .aborted, timer := none, reason := some .fire } } }
      let remaining := match d with
        | .outbound => (back.filter fun e =>
            decide (e.job = j) && decide (e.state = .heldOutbound)).length
        | .inbound => (x.hatch.expected.filter fun e => decide (e.job = j)).length
      let told := ended.hand .hatch 255 (.handover
        { job := j, direction := if d = .outbound then 0 else 1, handed := 0
          remaining := BitVec.ofNat 8 remaining, outcome := 1, reason := some 1 })
      let brought := ((told.onSession fun y => { y with manifest := [] }).command .b).1
      if brought.motion.state = .resting .b then brought.onSession fun _ => .idle else brought
    let cleared (x : Station) : Station := { x with loader := { x.loader with restartWait := none } }
    let follows (x : Station) : Prop :=
      (st.hatch.session.state.active = false → t = cleared (paused x)) ∧
      (∀ j d, st.hatch.session.state.active = true → st.hatch.session.job = some j →
        st.hatch.session.direction = some d → t = cleared (broken j d (paused x)))
    (st.audit.state = .idle → follows frozen) ∧
    (∀ (n : Nat) (sl : Slot), st.audit.state ≠ .idle → st.audit.cursor = some n →
      st.table.slots[n]? = some sl → (sl.difference = 0 ∨ sl.damage ≠ .none) →
      (st.audit.state = .running → ∀ e ∈ st.pulls.entries, e.state = .out) →
      (st.audit.state = .suspended → ∃ e ∈ st.pulls.entries, e.state ≠ .out) →
      let aborted : Station := { frozen.reply .pulls st.audit.requester 18 st.audit.reqSeq .aborted
        (some (.cursorCounts st.audit.cursor st.audit.checked st.audit.repaired
          st.audit.mismatched)) with audit := .start }
      (∀ c u, sl.difference = 0 → sl.record = .out c u →
        (∀ e ∈ st.pulls.entries, e.slot ≠ n ∧ e.cart ≠ c.id) →
        follows (aborted.withRecord n (.out c true))) ∧
      ((∀ c u, sl.difference = 0 → sl.record = .out c u →
        ∃ e ∈ st.pulls.entries, e.cart = c.id) → follows aborted))

/-- R62, R63: the evacuation timer's expiry in EVACUATE moves the station to COUNTDOWN with the full
PREDISCHARGE, whatever the list still holds, and on to HELD where the hold switch reads CLOSED. A
stopped timer does not expire.

R64: the hold switch and its filter. A change of the input sets the level in every state, and in a
running station it starts the 100 ms filter where the level is not the filtered reading, lets a
running one go on, and stops it where the level is the reading again. The filtered switch closes in
COUNTDOWN: HELD, the countdown stopped; it opens in HELD: COUNTDOWN with the full PREDISCHARGE. In
any other state the reading alone changes. Which of the two events a command is, it carries: the
model's form (log entry 9).

R65: the countdown's expiry. With the release lock clear: RELEASE, the release output on for
RELEASE_PULSE; with it set: BLOCKED, the release output off and the warning off. One FIRE-REPORT
carries the new state. A stopped timer does not expire.

R66: the end of the release pulse in RELEASE, in its order: output off and lock set; the DISCHARGE
with SOAK_TIME; in a BAY the discharge marking; SOAK with the soak timer; the FIRE-REPORT. A stopped
timer does not expire.

R68: the soak timer's expiry in SOAK: VENT, the exhaust on, sounder and warning off, one
FIRE-REPORT. A stopped timer does not expire. -/
def Obligations.SequenceTimersAndHold : Prop :=
  (∀ s : Machine.State, s.station.running = true →
     let counting : Suppression :=
       { s.station.supp.inState .countdown true true false false with
         evacuation := none, countdown := some (ticksOfSec s.station.cfg.predischarge) }
     let counted := ({ s.station with supp := counting } : Station).handFireReport
     (s.station.supp.evacuation = none → Machine.exec .evacuationExpiry s = .next s) ∧
     (s.station.supp.evacuation.isSome → s.station.supp.fire = .evacuate →
       (s.station.supp.holdClosed = false →
         Machine.exec .evacuationExpiry s = .next (s.put counted)) ∧
       (s.station.supp.holdClosed = true →
         Machine.exec .evacuationExpiry s = .next (s.put ({ counted with
           supp := { counting.inState .held true true false false with countdown := none }
           } : Station).handFireReport)))) ∧
  (∀ (s : Machine.State) (closed : Bool),
     let st := s.station
     let pins : Pins := { st.pins with holdInput := closed }
     let read : Suppression := { st.supp with holdClosed := closed, holdFilter := none }
     let level := Machine.exec (.holdSwitchChange (.level closed)) s
     let run := Machine.exec (.holdSwitchChange (.filtered closed)) s
     let filter (t : Timer) : Host.Outcome Machine.State Machine.Fault Machine.Refusal :=
       .next (s.put { st with pins := pins, supp := { st.supp with holdFilter := t } })
     (st.running = false → level = .next (s.put { st with pins := pins }) ∧ run = .next s) ∧
     (st.running = true →
       (closed = st.supp.holdClosed → level = filter none) ∧
       (closed ≠ st.supp.holdClosed → st.supp.holdFilter = none → level = filter (some 12500)) ∧
       (∀ n, closed ≠ st.supp.holdClosed → st.supp.holdFilter = some n →
         level = filter (some n)) ∧
       (st.supp.fire = .countdown → closed = true →
         run = .next (s.put ({ st with
           pins := pins
           supp := { read.inState .held true true false false with countdown := none }
           } : Station).handFireReport)) ∧
       (st.supp.fire = .held → closed = false →
         run = .next (s.put ({ st with
           pins := pins
           supp := { read.inState .countdown true true false false with
             evacuation := none, countdown := some (ticksOfSec st.cfg.predischarge) }
           } : Station).handFireReport)) ∧
       ((st.supp.fire = .countdown → closed = false) → (st.supp.fire = .held → closed = true) →
         run = .next (s.put { st with pins := pins, supp := read })))) ∧
  (∀ s : Machine.State, s.station.running = true →
     let stopped : Suppression := { s.station.supp with countdown := none }
     (s.station.supp.countdown = none → Machine.exec .countdownExpiry s = .next s) ∧
     (s.station.supp.countdown.isSome → s.station.supp.fire = .countdown →
       (s.station.supp.lock = false →
         Machine.exec .countdownExpiry s = .next (s.put ({ s.station with
           supp := { stopped.inState .release true true true false with
             pulse := some (ticksOfSec s.station.cfg.releasePulse) } } : Station).handFireReport)) ∧
       (s.station.supp.lock = true →
         Machine.exec .countdownExpiry s = .next (s.put ({ s.station with
           supp := stopped.inState .blocked true false false false } : Station).handFireReport)))) ∧
  (∀ s : Machine.State, s.station.running = true →
     let ended : Suppression := { s.station.supp with pulse := none, release := false, lock := true }
     let told := ({ s.station with supp := ended } : Station).handFire
       (.discharge (BitVec.ofNat 8 s.station.cfg.soakTime))
     let marked := if s.station.cfg.role = .bay then told.markDischarge else told
     (s.station.supp.pulse = none → Machine.exec .releasePulseExpiry s = .next s) ∧
     (s.station.supp.pulse.isSome → s.station.supp.fire = .release →
       Machine.exec .releasePulseExpiry s = .next (s.put ({ marked with
         supp := { ended.inState .soak true true false false with
           soak := some (ticksOfMin s.station.cfg.soakTime) } } : Station).handFireReport))) ∧
  (∀ s : Machine.State, s.station.running = true →
     (s.station.supp.soak = none → Machine.exec .soakExpiry s = .next s) ∧
     (s.station.supp.soak.isSome → s.station.supp.fire = .soak →
       Machine.exec .soakExpiry s = .next (s.put ({ s.station with
         supp := { s.station.supp.inState .vent false false false true with soak := none }
         } : Station).handFireReport)))

/-- R72, R73: a RESTORE, by the table of R72. A station not JOINED makes no reply. An accepted one
clears every latch and alarm run, the manual flag and the timers, switches the outputs off and takes
NORMAL; from VENT and BLOCKED the blocks resume; the FIRE-REPORT and the DONE follow. The release
lock, the troubles and the hold switch stay. Where the blocks resume, they do so before the
FIRE-REPORT: the model's choice (log entry 12).

R28, R70, R73, R110, R137: how the blocks resume on exit from the confirmed states, with no audit
under way, as entry left it: a BAY whose seal timer is stopped ends forced safe and commands its
damper OPEN, one under a neighbour's seal stays forced safe with no command; the lighting is
applied; every paused transit timer runs on with what it has left. Nothing else changes. -/
def Obligations.RestoreTable : Prop :=
  (∀ (s : Machine.State) (src : Addr) (seq : Byte), s.station.hearsConsole src →
     let answer (st : Station) (o : ReplyOutcome) : Host.Outcome _ _ _ :=
       .next (s.put (st.reply .suppression src 19 seq o))
     let fire := s.station.supp.fire
     let clear (l : Loop) : Loop := { l with latched := false, alarmRun := 0 }
     let d := s.station.det
     let restored : Station := { s.station with
       det := { d with
         loop0 := clear d.loop0, loop1 := clear d.loop1, loop2 := clear d.loop2
         loop3 := clear d.loop3, zoneA := false, zoneB := false }
       supp := { s.station.supp.inState .normal false false false false with
         manual := false, evacuation := none, countdown := none, pulse := none, soak := none } }
     let reading := ∃ n : Fin 4,
       (s.station.cfg.loop n).kind ≠ .unused ∧ (s.station.det.loop n).band = some .alarm
     (s.station.joined = false → Machine.exec (.restore src seq) s = .next s) ∧
     (s.station.joined = true →
       (fire = .normal → Machine.exec (.restore src seq) s = answer s.station .done) ∧
       (fire = .evacuate ∨ fire = .countdown ∨ fire = .held ∨ fire = .release ∨ fire = .soak →
         Machine.exec (.restore src seq) s = answer s.station .busy) ∧
       (fire = .prealarm ∨ fire = .vent ∨ fire = .blocked →
         (reading → Machine.exec (.restore src seq) s = answer s.station .active) ∧
         (¬reading → fire = .prealarm →
           Machine.exec (.restore src seq) s = answer restored.handFireReport .done) ∧
         (¬reading → fire ≠ .prealarm →
           Machine.exec (.restore src seq) s
             = answer restored.followUnconfirmed.handFireReport .done)))) ∧
  (∀ st : Station, st.confirmed = false → st.audit.state = .idle →
     let opened : Station :=
       (({ st with air := { st.air with forcedSafe := false } } : Station).command .a).1
     let resumed (x : Station) : Station := { x with
       pulls := st.relight.pulls
       xfer := { st.xfer with
         check := 0
         entries := st.xfer.entries.map fun e =>
           { e with transit := match e.transit with
               | .paused n => .running n
               | .running n => .running n
               | .stopped => .stopped } } }
     (st.cfg.role = .bay → st.air.forcedSafe = true → st.air.sealTimer = none →
       st.followUnconfirmed = resumed opened) ∧
     (st.cfg.role = .hatch ∨ st.air.forcedSafe = st.air.sealTimer.isSome →
       st.followUnconfirmed = resumed st))

/-- R67, R75: the release lock, once set, is cleared by power-up alone: every other command, and the
passing of time, keeps it. -/
def Obligations.ReleaseLockKept : Prop :=
  (∀ (c : Instr) (s t : Machine.State), (∀ decay, c ≠ .powerUp decay) →
    Machine.exec c s = .next t → s.station.supp.lock = true → t.station.supp.lock = true) ∧
  (∀ (s : Machine.State) (decay : List Decay), ∃ t : Machine.State,
    Machine.exec (.powerUp decay) s = .next t ∧ t.station.supp.lock = false) ∧
  (∀ st : Station, st.tick.supp.lock = st.supp.lock)

/-! ### Chapter 5: door and occupancy -/

/-- R76, R78, R79: a read of reader A in a running BAY. An ATTENDANT on the list leaves it with an
unlock pulse, and where the list becomes empty the emptying of R80 and R82 follows; one not on it is
refused in a confirmed state and by a list of 8, and is else added at the end with a pulse. A read
of another class changes nothing.

R79: the door unlock timer's expiry in a running BAY puts the output off and stops the timer; a
stopped timer does not expire. -/
def Obligations.BadgeReadAndUnlock : Prop :=
  (∀ (s : Machine.State) (cls : TagClass) (id : Cart), s.station.bay = true →
     let door (ids : List Cart) : Station := { s.station with
       door := { s.station.door with
         occupancy := ids, check := 0, output := true
         unlock := some (ticksOfSec s.station.cfg.doorPulse) } }
     let ids := s.station.door.occupancy
     (cls ≠ .attendant → Machine.exec (.attendantRead cls id) s = .next s) ∧
     (cls = .attendant →
       (id ∈ ids → ids.erase id ≠ [] →
         Machine.exec (.attendantRead cls id) s = .next (s.put (door (ids.erase id)))) ∧
       (id ∈ ids → ids.erase id = [] →
         Machine.exec (.attendantRead cls id) s = .next (s.put (door []).bayEmptied)) ∧
       (id ∉ ids → s.station.confirmed = true ∨ 8 ≤ ids.length →
         Machine.exec (.attendantRead cls id) s = .next s) ∧
       (id ∉ ids → s.station.confirmed = false → ids.length < 8 →
         Machine.exec (.attendantRead cls id) s = .next (s.put (door (ids ++ [id])))))) ∧
  (∀ s : Machine.State, s.station.bay = true →
     (s.station.door.unlock.isSome →
       Machine.exec .doorUnlockExpiry s = .next (s.put { s.station with
         door := { s.station.door with output := false, unlock := none } })) ∧
     (s.station.door.unlock = none → Machine.exec .doorUnlockExpiry s = .next s))

/-- R81: an OCCUPANCY-CLEAR, by the table of R81, the sealed states being SOAK and VENT. A station
not JOINED makes no reply and changes nothing. The DONE is made after the messages of the emptying:
the model's choice (log entry 10).

R80, R82: the emptying: the report moves a station in EVACUATE to COUNTDOWN, with the hold switch
open, and any other fire state not at all; then the slots are examined in slot order. Over a sound
slot an alert is raised exactly for a record in OUT that is unplanned or has a pull entry, and
nothing else of the slot's examination changes the station. That the report comes before the
examination is the model's choice (log entry 10). -/
def Obligations.OccupancyClearAndEmptying : Prop :=
  (∀ (s : Machine.State) (src : Addr) (seq : Byte), s.station.hearsConsole src →
     let answer (st : Station) (o : ReplyOutcome) : Host.Outcome _ _ _ :=
       .next (s.put (st.reply .door src 20 seq o))
     let isSealed := s.station.supp.fire = .soak ∨ s.station.supp.fire = .vent
     let cleared : Station := { s.station with
       door := { s.station.door with occupancy := [], check := 0 } }
     (s.station.joined = false → Machine.exec (.occupancyClear src seq) s = .next s) ∧
     (s.station.joined = true →
       (s.station.cfg.role = .hatch →
         Machine.exec (.occupancyClear src seq) s = answer s.station .role) ∧
       (s.station.cfg.role = .bay → isSealed →
         Machine.exec (.occupancyClear src seq) s = answer s.station .sealed) ∧
       (s.station.cfg.role = .bay → ¬isSealed → s.station.door.occupancy = [] →
         Machine.exec (.occupancyClear src seq) s = answer s.station .done) ∧
       (s.station.cfg.role = .bay → ¬isSealed → s.station.door.occupancy ≠ [] →
         Machine.exec (.occupancyClear src seq) s = answer cleared.bayEmptied .done))) ∧
  ((∀ st : Station,
     (st.supp.fire ≠ .evacuate →
       st.bayEmptied = (List.range 256).foldl Station.emptyBayCheck st) ∧
     (st.supp.fire = .evacuate → st.supp.holdClosed = false →
       st.bayEmptied = (List.range 256).foldl Station.emptyBayCheck
         ({ st with
           supp := { st.supp.inState .countdown true true false false with
             evacuation := none, countdown := some (ticksOfSec st.cfg.predischarge) }
           } : Station).handFireReport)) ∧
   (∀ (st : Station) (n : Nat), (st.table.slot n).difference = 0 →
     (∀ c u, (st.table.slot n).record = .out c u →
       (u = true ∨ ∃ e ∈ st.pulls.entries, e.cart = c.id) →
       st.emptyBayCheck n = st.handAlert .door
         { kind := 5, slot := some (BitVec.ofNat 8 n), cart := some c.id, cart2 := none
           tid := none, reason := none }) ∧
     ((∀ c u, (st.table.slot n).record = .out c u →
         u = false ∧ ∀ e ∈ st.pulls.entries, e.cart ≠ c.id) →
       st.emptyBayCheck n = st)))

/-! ### Chapter 6: the slot table -/

/-- R97: the held set of a hold setting: none for an extent of 0, else the first 2^E slots for the
end LOW and the last 2^E for HIGH, or every other slot with the complement set. Membership refuses a
CHECKOUT with HELD, keeps a slot from a reserve and from the count of free slots, and shows in a
QUERY's image. -/
def Obligations.HeldSetComputed : Prop :=
  (∀ (h : HoldSetting) (n : Nat), h.extent ≤ 8 → n ≤ 255 →
    let base := (h.extent ≠ 0) ∧
      ((h.holdEnd = .low ∧ n ≤ 2 ^ h.extent - 1) ∨ (h.holdEnd = .high ∧ 256 - 2 ^ h.extent ≤ n))
    (h.complement = false → (h.held n = true ↔ base)) ∧
    (h.complement = true → (h.held n = true ↔ ¬base))) ∧
  (∀ (st : Station) (n : Nat) (r : Rec), st.table.hold.held n = true →
    st.recordRefusal n r = some .held ∧ st.isFreeSlot n = false) ∧
  (∀ (st : Station) (n : Nat), (st.recordImage n).held = st.table.hold.held n) ∧
  (∀ (st : Station) (c : Cart) (t : Tid) (n : Nat), (st.reserveWrite c t).2 = .slot n →
    st.table.hold.held n = false)

/-- R87: no command but a power-up brings a cartridge id into two sound records: where each id
stands in at most one before, it does after. (At a power-up the records are as retention left them.)
-/
def Obligations.CartridgeIdsStayUnique : Prop :=
  ∀ (c : Instr) (s t : Machine.State), (∀ decay, c ≠ .powerUp decay) →
    Machine.exec c s = .next t → s.station.idsUnique → t.station.idsUnique

/-- R91, R92, R95: a full scan of a quiet JOINED BAY of 256 slots that finds every reading equal to
its debounced copy but one, a FILED slot with neither pull entry nor audit whose reading has been
EMPTY in the scan before as well: that record becomes OUT and unplanned, one UNPLANNED-REMOVAL alert
with the slot and the cartridge id is queued, the last readings are stored, the next scan is 500 ms
away, and nothing else changes. -/
def Obligations.UnplannedRemovalFound : Prop :=
  ∀ (s : Machine.State) (readings : BitVec 256) (n : Nat) (sl : Slot) (c : CartData),
    s.station.bay = true → s.station.Quiet 1 → s.station.table.slots.length = 256 →
    s.station.audit.state ≠ .running → (∀ e ∈ s.station.pulls.entries, e.slot ≠ n ∧ e.cart ≠ c.id) →
    s.station.table.slots[n]? = some sl → sl.record = .filed c → sl.debounced = some true →
    sl.last = some false → readings.getLsbD n = false →
    (∀ m sm, m ≠ n → s.station.table.slots[m]? = some sm →
      sm.debounced = some (readings.getLsbD m)) →
    Machine.exec (.presenceScan (.scan readings)) s = .next (s.put (Station.post
      { s.station with
        pins := { s.station.pins with matrix := readings }
        table := { s.station.table with
          scanTimer := some (ticksOfMs 500)
          slots := s.station.table.slots.mapIdx fun m sm =>
            if m = n then
              { sm with record := .out c true, debounced := some false, last := some false }
            else { sm with last := some (readings.getLsbD m) } } }
      .slotTable 255
      (.custodyAlert
        { kind := 0, slot := some (BitVec.ofNat 8 n), cart := some c.id, cart2 := none, tid := none
          reason := none })))

/-- R91: the readings of the presence matrix change in every state, and nothing else with them. A
full scan at a running BAY takes the readings of the slots in slot order, each as the debouncing has
it, and loads the timer to the next scan with 500 ms; elsewhere there is none. That a command
carries which of the two events it is, is the model's form (log entry 9).

R91: one slot's reading in a full scan. Equal to the debounced copy, or different from it and from
the last reading, it is stored as the last reading and nothing else changes; different from the copy
and equal to the last reading, the copy takes it and the change is a removal or an insertion.

R92, R111, R117: a removal at a sound slot that no pull entry of another cartridge names. FILED with
a pull entry: OUT, not unplanned, the entry OUT, the lighting and the suspension test after it.
FILED under the cursor of a RUNNING audit: OUT, not unplanned, the audit READING. FILED otherwise:
OUT, unplanned, with the alert. STRAY and UNKNOWN: VACANT, and a RUNNING audit at that slot READING.
A DAMAGED record is rewritten VACANT in the same way, and where this removal is the read that first
finds it DAMAGED, its alert with the stored cartridge id is queued before (R89, R90).

R93, R115: what an insertion at a slot the audit does not stand at leaves in its record: FILED with
the id kept from OUT and DEPARTING; FILED with the expected id and the acclimatize remaining set to
ACCLIM, absent for 0, from RESERVED and PLACING; STRAY from VACANT and from a DAMAGED record already
reported. No other slot's record changes. -/
def Obligations.PresenceChanges : Prop :=
  (∀ (s : Machine.State) (readings : BitVec 256),
     let st := s.station
     let pins : Pins := { st.pins with matrix := readings }
     Machine.exec (.presenceScan (.level readings)) s = .next (s.put { st with pins := pins }) ∧
     (st.bay = false → Machine.exec (.presenceScan (.scan readings)) s = .next s) ∧
     (st.bay = true → Machine.exec (.presenceScan (.scan readings)) s = .next (s.put
       ((List.range 256).foldl (fun x n => x.readSlot n (readings.getLsbD n))
         { st with pins := pins, table := { st.table with scanTimer := some 62500 } })))) ∧
  (∀ (st : Station) (n : Nat) (r copy : Bool), (st.table.slot n).debounced = some copy →
     let stored : Station := { st with
       table := { st.table with
         slots := st.table.slots.modify n fun sl => { sl with last := some r } } }
     let changed : Station := { st with
       table := { st.table with
         slots := st.table.slots.modify n fun sl =>
           { sl with last := some r, debounced := some r } } }
     (r = copy → st.readSlot n r = stored) ∧
     (r ≠ copy → (st.table.slot n).last ≠ some r → st.readSlot n r = stored) ∧
     (r ≠ copy → (st.table.slot n).last = some r →
       (r = false → st.readSlot n r = changed.removal n) ∧
       (r = true → st.readSlot n r = changed.insertion n))) ∧
  (∀ (st : Station) (n : Nat) (sl : Slot), st.table.slots[n]? = some sl →
     let reading (finding : Finding) (st : Station) : Station := { st with
       audit := { st.audit with
         state := .reading, finding := some finding
         step := some (ticksOfSec st.cfg.auditStepLimit) } }
     let cursorHere := st.audit.state = .running ∧ st.audit.cursor = some n
     (∀ c, sl.difference = 0 → sl.record = .filed c →
       (∀ e ∈ st.pulls.entries, e.slot = n → e.cart = c.id) →
       ((∃ e ∈ st.pulls.entries, e.cart = c.id) →
         st.removal n = ((st.withRecord n (.out c false)).withPulls
           (st.pulls.entries.map fun e =>
             if e.cart = c.id then { e with state := .out } else e)).pullsChanged) ∧
       ((∀ e ∈ st.pulls.entries, e.cart ≠ c.id) →
         (cursorHere →
           st.removal n = reading (.identified c.id) (st.withRecord n (.out c false))) ∧
         (¬cursorHere →
           st.removal n = (st.withRecord n (.out c true)).handAlert .slotTable
             { kind := 0, slot := some (BitVec.ofNat 8 n), cart := some c.id, cart2 := none
               tid := none, reason := none }))) ∧
     ((sl.difference = 0 ∧ (sl.record = .stray ∨ sl.record = .unknown))
         ∨ (sl.difference ≠ 0 ∧ sl.damage ≠ .none) →
       (∀ e ∈ st.pulls.entries, e.slot ≠ n) →
       (cursorHere → st.removal n = reading .unidentified (st.withRecord n .vacant)) ∧
       (¬cursorHere → st.removal n = st.withRecord n .vacant)) ∧
     (sl.difference ≠ 0 → sl.damage = .none → (∀ e ∈ st.pulls.entries, e.slot ≠ n) →
       (∀ e ∈ st.pulls.entries, sl.record.cart.map CartData.id ≠ some e.cart) →
       st.joined = true → st.line.idle = false → st.line.queue.length < 16 → st.line.pend = [] →
       (∀ sm ∈ st.table.slots, ∀ k, sm.damage ≠ .pending k) →
       let told := (st.withRecord n .vacant).post .slotTable 255 (.custodyAlert
         { kind := 3, slot := some (BitVec.ofNat 8 n), cart := sl.record.cart.map CartData.id
           cart2 := none, tid := none, reason := none })
       (cursorHere → st.removal n = reading .unidentified told) ∧
       (¬cursorHere → st.removal n = told))) ∧
  (∀ (st : Station) (n : Nat) (sl : Slot), st.table.slots[n]? = some sl →
     st.audit.cursor ≠ some n →
     let arrived (c : CartData) : Rec :=
       .filed { c with acclim := if st.cfg.acclim = 0 then none else some st.cfg.acclim }
     let becomes (r : Rec) : Prop :=
       ∃ sl', (st.insertion n).table.slots[n]? = some sl' ∧ sl'.record = r ∧ sl'.difference = 0
     (∀ c u, sl.difference = 0 → sl.record = .out c u → becomes (.filed c)) ∧
     (∀ c t, sl.difference = 0 → sl.record = .departing c t → becomes (.filed c)) ∧
     (∀ c t, sl.difference = 0 → sl.record = .reserved c t → becomes (arrived c)) ∧
     (∀ c t, sl.difference = 0 → sl.record = .placing c t → becomes (arrived c)) ∧
     (sl.difference = 0 → sl.record = .vacant → becomes .stray) ∧
     (sl.difference ≠ 0 → sl.damage ≠ .none → becomes .stray) ∧
     (∀ m, m ≠ n →
       ((st.insertion n).table.slots[m]?).map Slot.record = (st.table.slots[m]?).map Slot.record))

/-- R93, R111, R132, R135, R139: what an insertion at a slot the audit does not stand at makes the
other blocks do, beside the record. OUT: the pull entry waits again with the lighting and the
suspension test after it, or is cancelled where the slot is held by now. DEPARTING: the transfer is
withdrawn, with a WITHDRAW unless it was REFUSED. RESERVED: an EXPECTED entry is ARRIVED and its
ARRIVE handed on. PLACING: the lamp is withdrawn and a PLACING entry removed. VACANT, a sound
UNKNOWN or a DAMAGED one already reported: STRAY with STRAY-INSERT, and WRONG-SLOT for the lowest
PLACING record if there is one.

R105, R106: the reading of a slot that has no debounced copy. One that differs from the last reading
is stored and nothing more. One that agrees with it becomes the copy, with no removal and no
insertion: an unsettled record is then settled, UNKNOWN for PRESENT and VACANT for EMPTY, and any
other record, a DAMAGED one too, stays as it is. That an unsettled record which is DAMAGED as well
is settled and written is the model's choice (log entry 19). -/
def Obligations.InsertionsTold : Prop :=
  (∀ (st : Station) (n : Nat) (sl : Slot), st.table.slots[n]? = some sl → st.audit.cursor ≠ some n →
     let arrived (c : CartData) : Rec :=
       .filed { c with acclim := if st.cfg.acclim = 0 then none else some st.cfg.acclim }
     let alert (kind : Byte) (c : Option Cart) (t : Option Tid) (x : Station) : Station :=
       x.handAlert .slotTable
         { kind := kind, slot := some (BitVec.ofNat 8 n), cart := c, cart2 := none, tid := t
           reason := none }
     let receiving (t : Tid) : Option XferEntry :=
       st.xfer.entries.find? fun e => decide (e.tid = t) && e.state.receiving
     (sl.difference = 0 →
       (∀ c u, sl.record = .out c u → (∀ e ∈ st.pulls.entries, e.slot = n → e.cart = c.id) →
         let filed := st.withRecord n (.filed c)
         ((∀ e ∈ st.pulls.entries, e.slot = n → e.state ≠ .out) → st.insertion n = filed) ∧
         (∀ (front rest : List PullEntry) (e : PullEntry), st.pulls.entries = front ++ e :: rest →
           e.slot = n → e.state = .out → (∀ x ∈ front ++ rest, x.cart ≠ c.id) →
           (st.table.hold.held n = false → st.insertion n
             = (filed.withPulls (front ++ { e with state := .waiting } :: rest)).pullsChanged) ∧
           (st.table.hold.held n = true → st.insertion n
             = ((filed.withPulls (front ++ rest)).reply .pulls e.requester 13 e.reqSeq .cancelled
                 (some (.slot n))).pullsChanged))) ∧
       ((∀ e ∈ st.pulls.entries, e.slot ≠ n) →
         (∀ c t, sl.record = .departing c t →
           let filed := st.withRecord n (.filed c)
           (st.sendingById t = none → st.insertion n = filed) ∧
           (∀ e, st.sendingById t = some e → e.slot = some n →
             let freed := (filed.askLamp n .off).removeXfer t
             (e.state = .refused → st.insertion n = freed) ∧
             (e.state ≠ .refused → st.insertion n = freed.hand .transfers e.peer (.withdraw t)))) ∧
         (∀ c t, sl.record = .reserved c t →
           let filed := st.withRecord n (arrived c)
           ((∀ e, receiving t = some e → e.state ≠ .expected) → st.insertion n = filed) ∧
           (∀ e, receiving t = some e → e.state = .expected → st.insertion n
             = (filed.modifyXfer t fun x =>
                 { x with state := .arrived, attempts := 0, reply := none }).hand .transfers e.peer
                   (.arrive t))) ∧
         (∀ c t, sl.record = .placing c t →
           let filed := st.withRecord n (arrived c)
           (receiving t = none → st.insertion n = filed) ∧
           (∀ e, receiving t = some e →
             (e.state = .placing → st.insertion n = (filed.askLamp n .off).removeXfer t) ∧
             (e.state ≠ .placing → st.insertion n = filed.askLamp n .off))))) ∧
     ((sl.difference = 0 ∧ (sl.record = .vacant ∨ sl.record = .unknown)) ∨ sl.difference ≠ 0 →
       st.damageReported → (∀ e ∈ st.pulls.entries, e.slot ≠ n) →
       let stray := alert 1 none none (st.withRecord n .stray)
       ((∀ m sm c t, m ≠ n → st.table.slots[m]? = some sm → sm.difference = 0 →
           sm.record ≠ .placing c t) → st.insertion n = stray) ∧
       (∀ m sm c t, m ≠ n → st.table.slots[m]? = some sm → sm.difference = 0 →
         sm.record = .placing c t →
         (∀ k sk d u, k < m → k ≠ n → st.table.slots[k]? = some sk → sk.difference = 0 →
           sk.record ≠ .placing d u) →
         st.insertion n = alert 2 (some c.id) (some t) stray))) ∧
  (∀ (st : Station) (n : Nat) (r : Bool) (sl : Slot), st.table.slots[n]? = some sl →
     sl.debounced = none →
     let becomes (x : Slot) : Station := { st with
       table := { st.table with slots := st.table.slots.set n x } }
     (sl.last ≠ some r → st.readSlot n r = becomes { sl with last := some r }) ∧
     (sl.last = some r →
       (sl.record = .unsettled → st.readSlot n r = becomes
         { record := if r then .unknown else .vacant, difference := 0, debounced := some r
           last := some r, damage := .none }) ∧
       (sl.record ≠ .unsettled → st.readSlot n r = becomes
         { sl with debounced := some r, last := some r })))

/-- R100: the minute timer's expiry in a running BAY whose damage has been reported: over every
sound FILED and OUT record, an out-of-band minute adds exposure up to 65535 and sets the inspect
flag at EXPO_LIMIT, an in-band one takes a minute of acclimatization. A stopped timer does not
expire.

R66 step 3, R101: the discharge marking gives the inspect flag to every sound FILED record of a
table whose damage has all been reported, and changes nothing else. -/
def Obligations.MinuteSweepAndDischargeMarks : Prop :=
  (∀ s : Machine.State, s.station.bay = true →
     let c := s.station.cfg
     let minute (d : CartData) : CartData :=
       if s.station.moist.status = .inBand then
         { d with acclim := match d.acclim with
             | some n => if n ≤ 1 then none else some (n - 1)
             | none => none }
       else
         { d with
           exposure := min 65535 (d.exposure + 1)
           inspect := d.inspect || decide (c.expoLimit ≤ min 65535 (d.exposure + 1)) }
     (s.station.table.minute = none → Machine.exec .minuteTimerExpiry s = .next s) ∧
     (s.station.table.minute.isSome → s.station.damageReported →
       Machine.exec .minuteTimerExpiry s = .next (s.put { s.station with
         table := { s.station.table with
           minute := some (ticksOfSec 60)
           slots := s.station.table.slots.map fun sl =>
             match sl.record, decide (sl.difference = 0) with
             | .filed d, true => { sl with record := .filed (minute d) }
             | .out d u, true => { sl with record := .out (minute d) u }
             | _, _ => sl } }))) ∧
  (∀ st : Station, st.damageReported →
     st.markDischarge = { st with
       table := { st.table with
         slots := st.table.slots.map fun sl =>
           match sl.record, decide (sl.difference = 0) with
           | .filed c, true => { sl with record := .filed { c with inspect := true } }
           | _, _ => sl } })

/-- R98: the key switch, filtered as the hold switch of R64 is: the level in every state, the filter
and the filtered reading in a running BAY. The filtered change is its reading and nothing else.
Which of the two events a command is, it carries: the model's form (log entry 9).

R98, R99: a HOLD-SET, by the table of R98. An accepted one installs the setting and the mode,
removes the WAITING and LIT pull entries of slots now held, and is answered DONE after their
replies. That order of the replies is the model's choice (log entry 10).

R99, R111: a new held set handed to the pull queue. The entries in WAITING or LIT whose slot is held
are removed, every other entry stays in its order, each requester of one removed is answered
CANCELLED with the slot, in queue order, and the lighting and the suspension test follow once all
are removed; with no such entry nothing changes.

R102: an INSPECT-CLEAR, by the table of R102, at a station whose damage has been reported. ALL is
answered with how many records change. Which records that counts is the model's reading (log entry
20). -/
def Obligations.HoldSetAndInspectClear : Prop :=
  (∀ (s : Machine.State) (on : Bool),
     let st := s.station
     let pins : Pins := { st.pins with keyInput := on }
     let level := Machine.exec (.keySwitchChange (.level on)) s
     let run := Machine.exec (.keySwitchChange (.filtered on)) s
     let filter (t : Timer) : Host.Outcome Machine.State Machine.Fault Machine.Refusal :=
       .next (s.put { st with pins := pins, table := { st.table with keyFilter := t } })
     (st.bay = false → level = .next (s.put { st with pins := pins }) ∧ run = .next s) ∧
     (st.bay = true →
       (on = st.table.keyOn → level = filter none) ∧
       (on ≠ st.table.keyOn → st.table.keyFilter = none → level = filter (some 12500)) ∧
       (∀ n, on ≠ st.table.keyOn → st.table.keyFilter = some n → level = filter (some n)) ∧
       run = .next (s.put { st with
         pins := pins, table := { st.table with keyOn := on, keyFilter := none } }))) ∧
  (∀ (s : Machine.State) (src : Addr) (seq extent endCode complement mode : Byte),
     s.station.hearsConsole src →
     let run := Machine.exec (.holdSet src seq extent endCode complement mode) s
     let answer (st : Station) (o : ReplyOutcome) : Host.Outcome _ _ _ :=
       .next (s.put (st.reply .slotTable src 16 seq o))
     let isSealed := s.station.supp.fire = .soak ∨ s.station.supp.fire = .vent
     let valid := extent.toNat ≤ 8 ∧ endCode.toNat ≤ 1 ∧ complement.toNat ≤ 1 ∧ mode.toNat ≤ 2
     let locked := s.station.table.mode = .fixed ∨
       (s.station.table.mode = .keyed ∧ s.station.table.keyOn = false)
     let installed : Station := { s.station with
       table := { s.station.table with
         hold :=
           { extent := extent.toNat
             holdEnd := if endCode = 0 then .low else .high
             complement := decide (complement = 1) }
         mode := if mode = 0 then .opened else if mode = 1 then .keyed else .fixed } }
     (s.station.joined = false → run = .next s) ∧
     (s.station.joined = true →
       (s.station.cfg.role = .hatch → run = answer s.station .role) ∧
       (s.station.cfg.role = .bay →
         (isSealed → run = answer s.station .sealed) ∧
         (¬isSealed → ¬valid → run = answer s.station .range) ∧
         (¬isSealed → valid → locked → run = answer s.station .locked) ∧
         (¬isSealed → valid → ¬locked → run = answer installed.cancelHeld .done)))) ∧
  (∀ st : Station,
     let stays (e : PullEntry) : Bool := decide (e.state = .out) || !st.isHeld e.slot
     let gone := st.pulls.entries.filter fun e => !stays e
     (gone = [] → st.cancelHeld = st) ∧
     (gone ≠ [] → st.cancelHeld = (gone.foldl
       (fun x e => x.reply .pulls e.requester 13 e.reqSeq .cancelled (some (.slot e.slot)))
       (st.withPulls (st.pulls.entries.filter stays))).pullsChanged) ∧
     st.cancelHeld.pulls.entries.map PullEntry.cart
       = (st.pulls.entries.filter stays).map PullEntry.cart) ∧
  (∀ (s : Machine.State) (src : Addr) (seq : Byte) (slot : Option Nat),
     s.station.hearsConsole src → s.station.damageReported →
     let run := Machine.exec (.inspectClear src seq slot) s
     let answer (st : Station) (o : ReplyOutcome) (d : Option Detail) : Host.Outcome _ _ _ :=
       .next (s.put (st.reply .slotTable src 17 seq o d))
     let isSealed := s.station.supp.fire = .soak ∨ s.station.supp.fire = .vent
     let clear (c : CartData) : CartData := { c with exposure := 0, inspect := false }
     let dirty (sl : Slot) : Bool := decide (sl.difference = 0) &&
       (match sl.record.cart with
         | some c => decide (c.exposure ≠ 0) || c.inspect
         | none => false)
     (s.station.joined = false → run = .next s) ∧
     (s.station.joined = true →
       (s.station.cfg.role = .hatch → run = answer s.station .role none) ∧
       (s.station.cfg.role = .bay →
         (isSealed → run = answer s.station .sealed none) ∧
         (¬isSealed → ∀ n, slot = some n →
           (256 ≤ n → run = answer s.station .range none) ∧
           (∀ sl, n ≤ 255 → s.station.table.slots[n]? = some sl →
             (sl.difference ≠ 0 ∨ sl.record.cart = none → run = answer s.station .notFound none) ∧
             (sl.difference = 0 → sl.record.cart.isSome →
               run = answer (s.station.withRecord n (sl.record.mapCart clear)) .done none))) ∧
         (¬isSealed → slot = none →
           run = answer { s.station with
               table := { s.station.table with
                 slots := s.station.table.slots.map fun sl =>
                   if sl.difference = 0 then { sl with record := sl.record.mapCart clear } else sl } }
             .done (some (.number (s.station.table.slots.filter dirty).length))))))

/-- R87: the lookup by cartridge id answers a slot whose sound record holds it; failing that, the
lowest-numbered slot whose damaged record holds it as stored; or none.

R103, R163: a QUERY by slot or by cartridge id at a station whose damage has been reported changes
nothing but the queue it answers into. A HATCH refuses a slot with ROLE and answers a cartridge from
its custody list, then its expected list; a BAY refuses a slot above 255 with RANGE, does not find a
cartridge the lookup does not find, and else answers with the record's image, given below. The
presence none in the image of an unsettled slot is the model's reading (log entry 19).

R103, R105: the image of a slot's record in a QUERY's reply. A sound record's image carries the
slot, the presence and the code of its state, whether the slot is held, and every field the record
holds. A DAMAGED one's gives UNKNOWN, the condition DAMAGED, the debounced copy as presence, and of
the fields the stored cartridge id alone. That an unsettled record's presence is its debounced copy,
so none while it has none, and its state UNKNOWN, is the model's reading (log entry 19).

R89, R90, R111: a QUERY by slot that is the first to find the record DAMAGED, at a JOINED BAY whose
queue has room. The report is given as a DAMAGED-RECORD alert to ALL with the stored cartridge id;
the pull entries not in OUT for that id are removed with their CANCELLED replies; then the image is
answered. That order of the messages is the model's choice (log entry 10).

R145: a QUERY by transfer id, in either role and from entry into LISTEN on: NOT-FOUND, or DONE with
the entry's image, the transit timer as running, paused or stopped with its remaining seconds (whole
ones where no part of a second is left; else the rounding is free, log entry 4). Nothing but the
queue it answers into changes. -/
def Obligations.LookupAndQuery : Prop :=
  (∀ (t : SlotTable) (c : Cart),
     let holds (n : Nat) (sl : Slot) : Prop :=
       t.slots[n]? = some sl ∧ ∃ d, sl.record.cart = some d ∧ d.id = c
     (∀ n r, t.lookup c = .sound n r →
       ∃ sl, holds n sl ∧ sl.difference = 0 ∧ sl.record = r) ∧
     (∀ n, t.lookup c = .damaged n →
       (∀ m sl, holds m sl → sl.difference ≠ 0) ∧ (∃ sl, holds n sl) ∧
       ∀ m sl, holds m sl → n ≤ m) ∧
     (t.lookup c = .absent ↔ ∀ n sl, ¬holds n sl)) ∧
  (∀ (s : Machine.State) (src : Addr) (seq : Byte), s.station.hearsConsole src →
     s.station.damageReported →
     let table (o : ReplyOutcome) (d : Option Detail) : Host.Outcome _ _ _ :=
       .next (s.put (s.station.reply .slotTable src 21 seq o d))
     let lists (o : ReplyOutcome) (d : Option Detail) : Host.Outcome _ _ _ :=
       .next (s.put (s.station.reply .hatch src 21 seq o d))
     let image (n : Nat) : Option Detail := some (.record (s.station.recordImage n))
     (s.station.cfg.role = .hatch →
       (∀ n, Machine.exec (.querySlot src seq n) s = table .role none) ∧
       (∀ (c : Cart) (e : CustodyEntry),
         s.station.hatch.custody.find? (fun e => decide (e.cart = c)) = some e →
         Machine.exec (.queryCartridge src seq c) s
           = lists .done (some (.custody e.state e.job e.dest))) ∧
       (∀ (c : Cart) (e : ExpectedEntry), (∀ x ∈ s.station.hatch.custody, x.cart ≠ c) →
         s.station.hatch.expected.find? (fun e => decide (e.cart = c)) = some e →
         Machine.exec (.queryCartridge src seq c) s
           = lists .done (some (.expected e.job e.dest))) ∧
       (∀ c : Cart, (∀ x ∈ s.station.hatch.custody, x.cart ≠ c) →
         (∀ x ∈ s.station.hatch.expected, x.cart ≠ c) →
         Machine.exec (.queryCartridge src seq c) s = lists .notFound none)) ∧
     (s.station.cfg.role = .bay →
       (∀ n, 256 ≤ n → Machine.exec (.querySlot src seq n) s = table .range none) ∧
       (∀ n, n ≤ 255 → Machine.exec (.querySlot src seq n) s = table .done (image n)) ∧
       (∀ c, s.station.table.lookup c = .absent →
         Machine.exec (.queryCartridge src seq c) s = table .notFound none) ∧
       (∀ c n r, s.station.table.lookup c = .sound n r ∨ s.station.table.lookup c = .damaged n →
         Machine.exec (.queryCartridge src seq c) s = table .done (image n)))) ∧
  (∀ (st : Station) (n : Nat) (sl : Slot), st.table.slots[n]? = some sl →
     let bare (presence : Option Bool) (state : Nat) : RecordImage :=
       { slot := n, presence := presence, state := state, held := st.table.hold.held n
         damaged := false, cart := none, unplanned := none, exposure := none, acclim := none
         inspect := none, mark := none, tref := none }
     let full (presence : Bool) (state : Nat) (c : CartData) (t : Option Tid) : RecordImage :=
       { bare (some presence) state with
         cart := some c.id, exposure := some c.exposure, acclim := c.acclim
         inspect := some c.inspect, mark := c.mark, tref := t }
     (sl.difference = 0 → st.recordImage n = match sl.record with
       | .vacant => bare (some false) 0
       | .filed c => full true 1 c none
       | .out c u => { full false 2 c none with unplanned := some u }
       | .departing c t => full false 3 c (some t)
       | .reserved c t => full false 4 c (some t)
       | .placing c t => full false 5 c (some t)
       | .stray => bare (some true) 6
       | .unknown => bare (some true) 7
       | .unsettled => bare sl.debounced 7) ∧
     (sl.difference ≠ 0 → st.recordImage n =
       { bare sl.debounced 7 with
         damaged := true
         cart := match sl.record with
           | .filed c | .out c _ | .departing c _ | .reserved c _ | .placing c _ => some c.id
           | .vacant | .stray | .unknown | .unsettled => none })) ∧
  (∀ (s : Machine.State) (src : Addr) (seq : Byte) (n : Nat) (sl : Slot),
     s.station.hearsConsole src → s.station.bay = true → s.station.joined = true → n ≤ 255 →
     s.station.table.slots[n]? = some sl → sl.difference ≠ 0 → sl.damage = .none →
     s.station.line.idle = false → s.station.line.queue.length < 16 → s.station.line.pend = [] →
     (∀ sm ∈ s.station.table.slots, ∀ k, sm.damage ≠ .pending k) →
     let st := s.station
     let found : Station := ({ st with
       table := { st.table with slots := st.table.slots.set n { sl with damage := .sent } }
       } : Station).post .slotTable 255 (.custodyAlert
         { kind := 3, slot := some (BitVec.ofNat 8 n), cart := sl.record.cart.map CartData.id
           cart2 := none, tid := none, reason := none })
     let mine (e : PullEntry) : Bool :=
       decide (sl.record.cart.map CartData.id = some e.cart) && decide (e.state ≠ .out)
     let gone := st.pulls.entries.filter mine
     let after : Station :=
       if gone = [] then found
       else (gone.foldl
         (fun x e => x.reply .pulls e.requester 13 e.reqSeq .cancelled (some (.slot e.slot)))
         (found.withPulls (st.pulls.entries.filter fun e => !mine e))).pullsChanged
     Machine.exec (.querySlot src seq n) s
       = .next (s.put (after.reply .slotTable src 21 seq .done (some (.record (st.recordImage n)))))) ∧
  (∀ (s : Machine.State) (src : Addr) (seq : Byte) (t : Tid), s.station.hearsConsole src →
     let st := s.station
     let run := Machine.exec (.queryTransfer src seq t) s
     (st.xferById t = none → run = .next (s.put (st.reply .transfers src 21 seq .notFound))) ∧
     (∀ e, st.xferById t = some e → ∃ transit : Option (Nat × Option Nat),
       run = .next (s.put (st.reply .transfers src 21 seq .done (some (.transfer
         { tid := e.tid, cart := e.cart, receiving := e.state.receiving, peer := e.peer, job := e.job
           direction := e.direction, state := e.state, attempts := e.attempts, transit := transit
           acceptedSlot := e.acceptedSlot, slot := e.slot, custody := e.custody })))) ∧
       (e.state.receiving = true → transit = none) ∧
       (e.state.receiving = false →
         (e.transit = .stopped → transit = some (2, none)) ∧
         (∀ n, e.transit = .running (125000 * n) → transit = some (0, some n)) ∧
         (∀ n, e.transit = .paused (125000 * n) → transit = some (1, some n)))))

/-! ### Chapter 7: the pull queue, the check station and the audit -/

/-- R108, R109: a CHECKOUT at a station whose damage has been reported, by the table of R108. One
sent to ALL has no effect at a HATCH or at a BAY whose lookup does not find the cartridge, and is
else tested as one sent to the station. Which reads find damage is the model's reading (log entry
11); the premise leaves no damage to find. -/
def Obligations.CheckoutTable : Prop :=
  ∀ (s : Machine.State) (src : Addr) (seq : Byte) (cart : Cart) (job : Job) (hatch : Addr),
    s.station.hearsConsole src → s.station.damageReported →
    let st := s.station
    let run := Machine.exec (.checkout src seq false cart job hatch) s
    let answer (o : ReplyOutcome) : Host.Outcome _ _ _ :=
      .next (s.put (st.reply .pulls src 13 seq o))
    let isSealed := st.supp.fire = .soak ∨ st.supp.fire = .vent
    let queued := ∃ e ∈ st.pulls.entries, e.cart = cart
    let reachable := ∃ d, st.peers.records[hatch.toNat]? = some (.alive d) ∧
      d.roleDemand.map Prod.fst = some .hatch
    (st.joined = false → run = .next s) ∧
    (st.joined = true →
      (st.cfg.role = .hatch → run = answer .role) ∧
      (st.cfg.role = .bay →
        (isSealed → run = answer .sealed) ∧
        (¬isSealed → st.confirmed = true → run = answer .fire) ∧
        (st.confirmed = false →
          (st.table.lookup cart = .absent → run = answer .notFound) ∧
          (st.table.lookup cart ≠ .absent → queued → run = answer .duplicate) ∧
          (∀ n, st.table.lookup cart = .damaged n → ¬queued → run = answer .damaged) ∧
          (∀ n r, st.table.lookup cart = .sound n r → ¬queued → ∀ c, r.cart = some c →
            (st.table.hold.held n = true → run = answer .held) ∧
            (st.table.hold.held n = false →
              (c.inspect = true → run = answer .inspect) ∧
              (c.inspect = false →
                (c.acclim.isSome → run = answer .acclimatizing) ∧
                (c.acclim = none →
                  (r ≠ .filed c → run = answer .busy) ∧
                  (r = .filed c →
                    (¬reachable → run = answer .unreachable) ∧
                    (reachable → 16 ≤ st.pulls.entries.length → run = answer .full) ∧
                    (reachable → st.pulls.entries.length < 16 →
                      run = .next (s.put (((st.withPulls (st.pulls.entries ++
                          [{ cart := cart, slot := n, job := job, hatch := hatch, requester := src
                             reqSeq := seq, state := .waiting }])).reply .pulls src 13 seq .queued
                        (some (.slot n))).pullsChanged))))))))))) ∧
    (st.cfg.role = .hatch ∨ st.table.lookup cart = .absent →
      Machine.exec (.checkout src seq true cart job hatch) s = .next s) ∧
    (st.cfg.role = .bay → st.table.lookup cart ≠ .absent →
      Machine.exec (.checkout src seq true cart job hatch) s = run)

/-- R110: the lighting after a change of the pull queue. The entries and their order stay and OUT
entries are untouched; an entry is LIT exactly where it is the oldest not in OUT and the station is
JOINED in an unconfirmed fire state; the queue asks for the lamp of the LIT entry's slot alone.

R112: a CANCEL, by the table of R112. An accepted one removes the entry, answers its requester
CANCELLED with the slot, applies the lighting, and is answered DONE. That order of the messages is
the model's choice (log entry 10). -/
def Obligations.PullLightingAndCancel : Prop :=
  (∀ st : Station,
     let frozen := st.joined = false ∨ st.confirmed = true
     let t := st.relight
     t = { st with pulls := t.pulls } ∧
     t.pulls.entries.length = st.pulls.entries.length ∧
     (∀ (i : Nat) (e f : PullEntry), st.pulls.entries[i]? = some e → t.pulls.entries[i]? = some f →
       (e.state = .out → f = e) ∧
       (e.state ≠ .out →
         f = { e with state := f.state } ∧
         (f.state = .lit ∨ f.state = .waiting) ∧
         (f.state = .lit ↔ ¬frozen ∧ ∀ j g, j < i → st.pulls.entries[j]? = some g →
           g.state = .out))) ∧
     (∀ n, t.pulls.lamp = some n → ∃ f ∈ t.pulls.entries, f.state = .lit ∧ f.slot = n) ∧
     (t.pulls.lamp = none ↔ ∀ f ∈ t.pulls.entries, f.state ≠ .lit)) ∧
  (∀ (s : Machine.State) (src : Addr) (seq : Byte) (cart : Cart), s.station.hearsConsole src →
     let st := s.station
     let run := Machine.exec (.cancel src seq cart) s
     let answer (st : Station) (o : ReplyOutcome) : Host.Outcome _ _ _ :=
       .next (s.put (st.reply .pulls src 15 seq o))
     let isSealed := st.supp.fire = .soak ∨ st.supp.fire = .vent
     (st.joined = false → run = .next s) ∧
     (st.joined = true →
       (st.cfg.role = .hatch → run = answer st .role) ∧
       (st.cfg.role = .bay →
         (isSealed → run = answer st .sealed) ∧
         (¬isSealed →
           ((∀ e ∈ st.pulls.entries, e.cart ≠ cart) → run = answer st .notFound) ∧
           (∀ (front rest : List PullEntry) (e : PullEntry), st.pulls.entries = front ++ e :: rest →
             e.cart = cart → (∀ x ∈ front, x.cart ≠ cart) → (∀ x ∈ rest, x.cart ≠ cart) →
             (e.state = .out → run = answer st .busy) ∧
             (e.state ≠ .out →
               run = answer (((st.withPulls (front ++ rest)).reply .pulls e.requester 13 e.reqSeq
                 .cancelled (some (.slot e.slot))).pullsChanged) .done))))))

/-- R113: a read of reader B. One of another class, or at a station that is no JOINED BAY, changes
nothing. With no audit READING, no OUT entry and no EXPECTED transfer for the cartridge, a record in
DEPARTING, RESERVED or PLACING or DAMAGED leaves it without effect, one in OUT or FILED gives a
WRONG-CARTRIDGE alert with its slot, and none makes a claim (R141): the claim of 2 s and a CLAIM to
ALL where fewer than four stand and none for it, and no transfer entry holds it (R125). The last
test, and a claim not made at all where it fails, is the model's reading (log entry 18).

R113 row 3, R115, R127, R132: the scan of the cartridge of an EXPECTED transfer at a BAY. The
reserved record becomes PLACING with its lamp on, the entry is ARRIVED with attempts 0, and an
ARRIVE is handed to its peer; where the slot's record is no longer reserved for it, the place is not
made, STRAY-ARRIVAL is alerted instead, and the entry is ARRIVED all the same.

R113 row 1, R118: an audit scan in READING at a sound cursor record. The id that was lifted gives
the mark MATCHED; another id held by no record is written in its place, OUT with exposure 0, inspect
set and MISMATCH; an unidentified slot takes the scanned id with MATCHED. Each is counted, a
disagreement is alerted, and the audit is RETURNING with its step timer loaded.

R87, R118: an audit scan of an id that another record holds, at a sound cursor record. A sound FILED
record of it without a pull entry is rewritten UNKNOWN, and the cursor is written as for an id held
nowhere; over a DAMAGED one the cursor is written alike; beside any other the cursor keeps its
record, and after an identified finding the stray is pending. A cursor record that is no longer as
the removal left it is left so. Each is alerted with the slot, the scanned id and what was
identified, or what the record holds, and counted as a mismatch. -/
def Obligations.CheckStationScans : Prop :=
  ((∀ (s : Machine.State) (cls : TagClass) (c : Cart),
     cls ≠ .cartridge ∨ s.station.bay = false ∨ s.station.joined = false →
     Machine.exec (.checkStationScan cls c) s = .next s) ∧
   ∀ (s : Machine.State) (c : Cart), s.station.bay = true → s.station.joined = true →
     s.station.damageReported → s.station.audit.state ≠ .reading →
     (∀ e ∈ s.station.pulls.entries, e.cart = c → e.state ≠ .out) →
     (∀ e ∈ s.station.xfer.entries, e.cart = c → e.state ≠ .expected) →
     let st := s.station
     let run := Machine.exec (.checkStationScan .cartridge c) s
     (∀ n, st.table.lookup c = .damaged n → run = .next s) ∧
     (∀ n d t, st.table.lookup c = .sound n (.departing d t) ∨ st.table.lookup c = .sound n (.reserved d t)
       ∨ st.table.lookup c = .sound n (.placing d t) → run = .next s) ∧
     (∀ n d u, st.table.lookup c = .sound n (.out d u) ∨ st.table.lookup c = .sound n (.filed d) →
       run = .next (s.put (st.hand .pulls 255 (.custodyAlert
         { kind := 6, slot := some (BitVec.ofNat 8 n), cart := some c, cart2 := none, tid := none
           reason := none })))) ∧
     (st.table.lookup c = .absent →
       ((∃ k ∈ st.xfer.claims, k.cart = c) ∨ (∃ e ∈ st.xfer.entries, e.cart = c)
         ∨ 4 ≤ st.xfer.claims.length → run = .next s) ∧
       ((∀ k ∈ st.xfer.claims, k.cart ≠ c) → (∀ e ∈ st.xfer.entries, e.cart ≠ c) →
         st.xfer.claims.length < 4 →
         run = .next (s.put (({ st with
           xfer := { st.xfer with
             claims := st.xfer.claims ++ [{ cart := c, timer := ticksOfSec 2 }] } } : Station).hand
               .transfers 255 (.claim c)))))) ∧
  (∀ (s : Machine.State) (c : Cart) (e : XferEntry) (n : Nat) (sl : Slot), s.station.bay = true →
     s.station.joined = true → s.station.audit.state ≠ .reading →
     (∀ x ∈ s.station.pulls.entries, x.cart = c → x.state ≠ .out) →
     s.station.expectedXfer c = some e → e.slot = some n → s.station.table.slots[n]? = some sl →
     let st := s.station
     let run := Machine.exec (.checkStationScan .cartridge c) s
     let arrived (x : Station) : Host.Outcome Machine.State Machine.Fault Machine.Refusal :=
       .next (s.put ((x.modifyXfer e.tid fun y =>
         { y with state := .arrived, attempts := 0, reply := none }).hand .transfers e.peer
           (.arrive e.tid)))
     (∀ d, sl.difference = 0 → sl.record = .reserved d e.tid →
       (∀ x ∈ st.pulls.entries, x.slot ≠ n) →
       run = arrived ((st.withRecord n (.placing d e.tid)).askLamp n .on)) ∧
     ((sl.difference = 0 ∧ ∀ d, sl.record ≠ .reserved d e.tid) ∨
         (sl.difference ≠ 0 ∧ sl.damage ≠ .none) →
       run = arrived (st.engineAlert 10 none c (some e.tid) none))) ∧
  (∀ (s : Machine.State) (n : Nat) (sl : Slot) (y : Cart), s.station.bay = true →
     s.station.joined = true → s.station.damageReported → s.station.audit.state = .reading →
     s.station.audit.cursor = some n → s.station.table.slots[n]? = some sl → sl.difference = 0 →
     (∀ e ∈ s.station.pulls.entries, e.slot ≠ n) →
     let st := s.station
     let run := Machine.exec (.checkStationScan .cartridge y) s
     let returning (repaired mismatched : Nat) (st : Station) : Station := { st with
       audit := { st.audit with
         state := .returning, step := some (ticksOfSec st.cfg.auditStepLimit)
         checked := st.audit.checked + 1, repaired := st.audit.repaired + repaired
         mismatched := st.audit.mismatched + mismatched } }
     let written (m : Mark) : Rec :=
       .out { id := y, exposure := 0, acclim := none, inspect := true, mark := some m } false
     (∀ c u, st.audit.finding = some (.identified c.id) → sl.record = .out c u →
       (y = c.id →
         run = .next (s.put (returning 0 0
           (st.withRecord n (.out { c with mark := some .matched } u))))) ∧
       (y ≠ c.id → st.table.lookup y = .absent →
         run = .next (s.put (returning 0 1 ((st.withRecord n (written .mismatch)).hand .pulls 255
           (.custodyAlert
             { kind := 4, slot := some (BitVec.ofNat 8 n), cart := some y, cart2 := some c.id
               tid := none, reason := none })))))) ∧
     (st.audit.finding = some .unidentified → sl.record = .vacant → st.table.lookup y = .absent →
       run = .next (s.put (returning 1 0 (st.withRecord n (written .matched)))))) ∧
  (∀ (s : Machine.State) (n : Nat) (sl : Slot) (y : Cart), s.station.bay = true →
     s.station.joined = true → s.station.damageReported → s.station.audit.state = .reading →
     s.station.audit.cursor = some n → s.station.table.slots[n]? = some sl → sl.difference = 0 →
     (∀ e ∈ s.station.pulls.entries, e.slot ≠ n) →
     let st := s.station
     let run := Machine.exec (.checkStationScan .cartridge y) s
     let told (second : Option Cart) (pending : Bool) (x : Station) :
         Host.Outcome Machine.State Machine.Fault Machine.Refusal :=
       let x := x.hand .pulls 255 (.custodyAlert
         { kind := 4, slot := some (BitVec.ofNat 8 n), cart := some y, cart2 := second, tid := none
           reason := none })
       .next (s.put { x with
         audit := { st.audit with
           state := .returning, step := some (ticksOfSec st.cfg.auditStepLimit)
           checked := st.audit.checked + 1, mismatched := st.audit.mismatched + 1
           strayPending := st.audit.strayPending || pending } })
     let written (k : Mark) : Rec :=
       .out { id := y, exposure := 0, acclim := none, inspect := true, mark := some k } false
     let unpulled := ∀ e ∈ st.pulls.entries, e.cart ≠ y
     let kept (r : Rec) : Prop := (∀ d, r ≠ .filed d) ∨ ¬unpulled
     (∀ c u, st.audit.finding = some (.identified c.id) → sl.record = .out c u → y ≠ c.id →
       (∀ m, st.table.lookup y = .damaged m →
         run = told (some c.id) false (st.withRecord n (written .mismatch))) ∧
       (∀ m d, st.table.lookup y = .sound m (.filed d) → unpulled →
         (∀ e ∈ st.pulls.entries, e.slot ≠ m) →
         run = told (some c.id) false
           ((st.withRecord m .unknown).withRecord n (written .mismatch))) ∧
       (∀ m r, st.table.lookup y = .sound m r → kept r → run = told (some c.id) true st)) ∧
     (st.audit.finding = some .unidentified → sl.record = .vacant →
       (∀ m, st.table.lookup y = .damaged m →
         run = told none false (st.withRecord n (written .matched))) ∧
       (∀ m d, st.table.lookup y = .sound m (.filed d) → unpulled →
         (∀ e ∈ st.pulls.entries, e.slot ≠ m) →
         run = told none false ((st.withRecord m .unknown).withRecord n (written .matched))) ∧
       (∀ m r, st.table.lookup y = .sound m r → kept r → run = told none false st)) ∧
     (∀ x, st.audit.finding = some (.identified x) → sl.record ≠ .unsettled →
       (∀ c u, sl.record = .out c u → c.id ≠ x) →
       run = told (sl.record.cart.map CartData.id) false st) ∧
     (st.audit.finding = some .unidentified → sl.record ≠ .unsettled → sl.record ≠ .vacant →
       run = told (sl.record.cart.map CartData.id) false st))

/-- R126, R128: an opening, in either direction. The engine declines while the station is not
JOINED, with 16 entries in the table, for a cartridge under an entry or a claim, and where the peer
is not ALIVE in the role the direction needs, and in no other case. Where it declines, nothing
changes. Else the transfer counter moves on by one, and past every origin sequence in use; an entry
OFFERED under this station's address and that counter stands at the end of the table, attempts 0,
its transit timer loaded with TRANSIT_LIMIT, running or in a confirmed state paused; and an OFFER
with the id, the cartridge, the job and the direction is handed to the peer. Nothing else changes.

R114, R94: the scan of a pulled cartridge. At a sound OUT record that holds it, it opens a transfer
toward the pull's hatch, as above, where the engine does not decline it: the record is DEPARTING
under the new transfer id, the pull entry is gone without a reply, and nothing else changes; where
the engine declines, nothing changes at all. At any other record, a DAMAGED one already reported
too, the entry is removed with a REPLY CANCELLED to its requester and no transfer is opened. -/
def Obligations.DepartureOpensTransfer : Prop :=
  (∀ (st : Station) (d : Direction) (c : Cart) (job : Job) (slot : Option Nat) (custody : Option Cart)
     (peer : Addr),
     (st.declines d c peer = true ↔
       st.joined = false ∨ 16 ≤ st.xfer.entries.length
       ∨ (∃ e ∈ st.xfer.entries, e.cart = c) ∨ (∃ k ∈ st.xfer.claims, k.cart = c)
       ∨ ¬∃ data, st.peers.records[peer.toNat]? = some (.alive data) ∧
           data.roleDemand.map Prod.fst
             = some (match d with | .outbound => Role.hatch | .inbound => Role.bay)) ∧
     (st.declines d c peer = true → st.openXfer d c job slot custody peer = (st, none)) ∧
     (st.declines d c peer = false → ∃ (k : Byte) (i : Nat),
       let t : Tid := { origin := st.loader.own, oseq := k }
       let limit := 125000 * st.cfg.transitLimit
       k = st.xfer.counter + 1 + BitVec.ofNat 8 i ∧ (∀ e ∈ st.xfer.entries, e.tid.oseq ≠ k) ∧
       (∀ h < i, ∃ e ∈ st.xfer.entries, e.tid.oseq = st.xfer.counter + 1 + BitVec.ofNat 8 h) ∧
       st.openXfer d c job slot custody peer =
         (({ st with
           xfer := { st.xfer with
             check := 0, counter := k
             entries := st.xfer.entries ++ [
               { tid := t, cart := c, peer := peer, job := job, direction := d, state := .offered
                 attempts := 0
                 transit := if st.confirmed = true then .paused limit else .running limit
                 slot := slot, custody := custody, acceptedSlot := none, reply := none }] }
           } : Station).hand .transfers peer
             (.offer t c job (match d with | .outbound => 0 | .inbound => 1)), some t))) ∧
  (∀ (s : Machine.State) (front rest : List PullEntry) (p : PullEntry) (sl : Slot),
     s.station.bay = true → s.station.joined = true → s.station.audit.state ≠ .reading →
     s.station.pulls.entries = front ++ p :: rest → p.state = .out →
     (∀ x ∈ front, x.cart ≠ p.cart) → (∀ x ∈ rest, x.cart ≠ p.cart) →
     s.station.table.slots[p.slot]? = some sl →
     let run := Machine.exec (.checkStationScan .cartridge p.cart) s
     (∀ c u, sl.difference = 0 → sl.record = .out c u → c.id = p.cart →
       (s.station.declines .outbound p.cart p.hatch = true → run = .next s) ∧
       (∀ opened t,
         s.station.openXfer .outbound p.cart p.job (some p.slot) none p.hatch = (opened, some t) →
         run = .next
           (s.put ((opened.withRecord p.slot (.departing c t)).withPulls (front ++ rest))))) ∧
     ((sl.difference = 0 ∧ ∀ c u, sl.record = .out c u → c.id ≠ p.cart)
         ∨ (sl.difference ≠ 0 ∧ sl.damage ≠ .none) →
       run = .next (s.put (((s.station.withPulls (front ++ rest)).reply .pulls p.requester 13 p.reqSeq
         .cancelled (some (.slot p.slot))).pullsChanged))))

/-- R116, R120: an AUDIT, by the table of R116. An accepted one places the cursor on the lowest
PRESENT slot of the range and answers STARTED with it, RUNNING, with the suspension test after it;
with no such slot it answers STARTED and COMPLETE and stays IDLE. That a completed or aborted audit
clears its range, cursor, counts and requester at IDLE, here and below, is the model's choice (log
entry 23).

R121: the step timer's expiry aborts the audit: ABORTED with the cursor and the counts goes to its
requester and the audit is IDLE. A cursor record that is not a sound OUT one is left as it is; a
sound OUT one without a pull entry is unplanned. A stopped timer does not expire.

R117, R119: an insertion at the audit's slot. The record becomes what R93 makes of it: a sound OUT
one FILED again, or STRAY in RETURNING where that is pending for its id; a VACANT or UNKNOWN one,
and a DAMAGED one already reported, STRAY with STRAY-INSERT, and WRONG-SLOT for the lowest PLACING
record if there is one; a RESERVED one FILED, its EXPECTED transfer ARRIVED. In READING the audit is
then RUNNING at the same slot with the finding dropped. In RETURNING the cursor goes to the next
PRESENT slot of the range, RUNNING, or with none left the audit answers COMPLETE with its counts and
is idle, cleared (log entry 23). Wherever it is RUNNING again the suspension test follows.

R120: the suspension test. A pull entry not in OUT suspends a RUNNING audit, its lamp and step timer
stopped, and touches no other; with none, a SUSPENDED audit is RUNNING at the lowest PRESENT slot
from its cursor on within the range, or complete where there is none, and any other stays. -/
def Obligations.AuditMoves : Prop :=
  (∀ (s : Machine.State) (src : Addr) (seq : Byte) (first last : Nat), s.station.hearsConsole src →
     let st := s.station
     let run := Machine.exec (.audit src seq first last) s
     let answer (o : ReplyOutcome) : Host.Outcome _ _ _ :=
       .next (s.put (st.reply .pulls src 18 seq o))
     let isSealed := st.supp.fire = .soak ∨ st.supp.fire = .vent
     let valid := first ≤ last ∧ last ≤ 255
     let present (n : Nat) : Prop := (st.table.slot n).debounced = some true
     let begun (n : Nat) : Station := { st with
       audit :=
         { state := .running, first := first, last := last, cursor := some n, finding := none
           strayPending := false, checked := 0, repaired := 0, mismatched := 0, requester := src
           reqSeq := seq, step := some (ticksOfSec st.cfg.auditStepLimit), lamp := some n } }
     (st.joined = false → run = .next s) ∧
     (st.joined = true →
       (st.cfg.role = .hatch → run = answer .role) ∧
       (st.cfg.role = .bay →
         (isSealed → run = answer .sealed) ∧
         (¬isSealed → st.confirmed = true → run = answer .fire) ∧
         (st.confirmed = false →
           (¬valid → run = answer .range) ∧
           (valid → st.audit.state ≠ .idle → run = answer .busy) ∧
           (valid → st.audit.state = .idle →
             (∀ n, first ≤ n → n ≤ last → present n → (∀ m, first ≤ m → m < n → ¬present m) →
               run = .next (s.put ((begun n).reply .pulls src 18 seq .started
                 (some (.slot n))).suspensionTest)) ∧
             (st.audit = .start → (∀ n, first ≤ n → n ≤ last → ¬present n) →
               run = .next (s.put ((st.reply .pulls src 18 seq .started).reply .pulls src 18 seq
                 .complete (some (.counts 0 0 0)))))))))) ∧
  (∀ s : Machine.State, s.station.bay = true →
     let st := s.station
     let aborted : Station := { st.reply .pulls st.audit.requester 18 st.audit.reqSeq .aborted
       (some (.cursorCounts st.audit.cursor st.audit.checked st.audit.repaired
         st.audit.mismatched)) with audit := .start }
     (st.audit.step = none → Machine.exec .auditStepExpiry s = .next s) ∧
     (∀ (n : Nat) (sl : Slot), st.audit.step.isSome → st.audit.state ≠ .idle →
       st.audit.cursor = some n → st.table.slots[n]? = some sl → sl.difference = 0 →
       ((∀ c u, sl.record ≠ .out c u) → Machine.exec .auditStepExpiry s = .next (s.put aborted)) ∧
       (∀ c u, sl.record = .out c u → (∀ e ∈ st.pulls.entries, e.slot ≠ n ∧ e.cart ≠ c.id) →
         Machine.exec .auditStepExpiry s = .next (s.put (aborted.withRecord n (.out c true)))))) ∧
  (∀ (st : Station) (n : Nat) (sl : Slot), st.table.slots[n]? = some sl →
     st.audit.cursor = some n → (∀ e ∈ st.pulls.entries, e.slot ≠ n) →
     let present (m : Nat) : Prop := (st.table.slot m).debounced = some true
     let runs (m : Nat) (x : Station) : Station := ({ x with
       audit := { st.audit with
         state := .running, cursor := some m, finding := none, strayPending := false
         step := some (ticksOfSec st.cfg.auditStepLimit), lamp := some m } } : Station).suspensionTest
     let decided (back : Station) : Prop :=
       (∀ m, n < m → m ≤ st.audit.last → present m → (∀ k, n < k → k < m → ¬present k) →
         st.insertion n = runs m back) ∧
       ((∀ m, n < m → m ≤ st.audit.last → ¬present m) →
         st.insertion n = { back.reply .pulls st.audit.requester 18 st.audit.reqSeq .complete
             (some (.counts st.audit.checked st.audit.repaired st.audit.mismatched)) with
           audit := .start })
     let told (back : Station) : Prop :=
       (st.audit.state = .reading → st.insertion n = runs n back) ∧
       (st.audit.state = .returning → decided back)
     (∀ c u, sl.difference = 0 → sl.record = .out c u →
       (st.audit.state = .reading → st.insertion n = runs n (st.withRecord n (.filed c))) ∧
       (st.audit.state = .returning →
         decided (if st.audit.strayPending = true ∧ st.audit.finding = some (.identified c.id)
           then st.withRecord n .stray else st.withRecord n (.filed c))) ∧
       (st.audit.state ≠ .reading → st.audit.state ≠ .returning →
         st.insertion n = st.withRecord n (.filed c))) ∧
     ((sl.difference = 0 ∧ (sl.record = .vacant ∨ sl.record = .unknown)) ∨ sl.difference ≠ 0 →
       st.damageReported →
       let alert (kind : Byte) (c : Option Cart) (t : Option Tid) (x : Station) : Station :=
         x.handAlert .slotTable
           { kind := kind, slot := some (BitVec.ofNat 8 n), cart := c, cart2 := none, tid := t
             reason := none }
       let stray := alert 1 none none (st.withRecord n .stray)
       ((∀ m sm c t, m ≠ n → st.table.slots[m]? = some sm → sm.difference = 0 →
           sm.record ≠ .placing c t) → told stray) ∧
       (∀ m sm c t, m ≠ n → st.table.slots[m]? = some sm → sm.difference = 0 →
         sm.record = .placing c t →
         (∀ k sk d u, k < m → k ≠ n → st.table.slots[k]? = some sk → sk.difference = 0 →
           sk.record ≠ .placing d u) → told (alert 2 (some c.id) (some t) stray))) ∧
     (∀ c t, sl.difference = 0 → sl.record = .reserved c t →
       st.audit.finding ≠ some (.identified c.id) →
       let receiving := st.xfer.entries.find? fun e => decide (e.tid = t) && e.state.receiving
       let filed := st.withRecord n
         (.filed { c with acclim := if st.cfg.acclim = 0 then none else some st.cfg.acclim })
       ((∀ e, receiving = some e → e.state ≠ .expected) → told filed) ∧
       (∀ e, receiving = some e → e.state = .expected →
         told ((filed.modifyXfer t fun x =>
           { x with state := .arrived, attempts := 0, reply := none }).hand .transfers e.peer
             (.arrive t))))) ∧
  (∀ st : Station,
     let waiting := ∃ e ∈ st.pulls.entries, e.state ≠ .out
     let present (m : Nat) : Prop := (st.table.slot m).debounced = some true
     (waiting → st.audit.state = .running → st.suspensionTest = { st with
       audit := { st.audit with state := .suspended, step := none, lamp := none } }) ∧
     (waiting → st.audit.state ≠ .running → st.suspensionTest = st) ∧
     (¬waiting → st.audit.state ≠ .suspended → st.suspensionTest = st) ∧
     (∀ n, ¬waiting → st.audit.state = .suspended → st.audit.cursor = some n →
       (∀ m, n ≤ m → m ≤ st.audit.last → present m → (∀ k, n ≤ k → k < m → ¬present k) →
         st.suspensionTest = { st with
           audit := { st.audit with
             state := .running, cursor := some m, finding := none, strayPending := false
             step := some (ticksOfSec st.cfg.auditStepLimit), lamp := some m } }) ∧
       ((∀ m, n ≤ m → m ≤ st.audit.last → ¬present m) →
         st.suspensionTest = { st.reply .pulls st.audit.requester 18 st.audit.reqSeq .complete
             (some (.counts st.audit.checked st.audit.repaired st.audit.mismatched)) with
           audit := .start })))

/-! ### Chapter 8: transfers -/

/-- R130: an OFFER taken in, by the table of R130; the receiving entry and its ACCEPT, or the REFUSE
with its reason. A station not JOINED discards it, its sender's record refreshed all the same. -/
def Obligations.OfferTable : Prop :=
  ∀ (s : Machine.State) (src : Addr) (t : Tid) (c : Cart) (job : Job) (dir : Byte),
    s.station.hearsPeer src → s.station.damageReported →
    (∀ e ∈ s.station.pulls.entries, s.station.isFreeSlot e.slot = false) →
    let st := s.station
    let heard := st.modifyPeer src Peer.refresh
    let run := Machine.exec (.offer src t c job dir) s
    let refuse (reason : Byte) : Host.Outcome _ _ _ :=
      .next (s.put (heard.hand .transfers src (.refuse t reason)))
    let accept (st : Station) (slot : Option Nat) : Station :=
      st.hand .transfers src (.accept t (slot.map (BitVec.ofNat 8)))
    let created (st : Station) (slot : Option Nat) : Station := { st with
      xfer := { st.xfer with
        check := 0
        entries := st.xfer.entries ++ [
          { tid := t, cart := c, peer := src, job := job
            direction := if st.cfg.role = .bay then .inbound else .outbound
            state := .expected, attempts := 0, transit := .stopped, slot := slot, custody := none
            acceptedSlot := none, reply := none }] } }
    let same := ∃ e, st.xferById t = some e ∧ e.peer = src ∧ e.cart = c
    let known := (∃ e ∈ st.xfer.entries, e.tid = t ∨ e.cart = c) ∨ (∃ k ∈ st.xfer.claims, k.cart = c)
      ∨ (st.cfg.role = .hatch ∧ ((∃ e ∈ st.hatch.custody, e.cart = c)
        ∨ (∃ m ∈ st.hatch.session.manifest, m.cart = c) ∨ (∃ e ∈ st.hatch.expected, e.cart = c)))
    let room := st.hatch.custody.length
      + (if st.hatch.session.direction = some .inbound then st.hatch.session.manifest.length else 0)
      + (st.xfer.entries.filter fun e =>
          decide (e.state = .expected ∨ e.state = .arrived ∨ e.state = .placing)).length
      + st.xfer.claims.length
    (st.joined = false → run = .next (s.put heard)) ∧
    (st.joined = true →
      (∀ e, st.xferById t = some e → same → run = .next (s.put (accept heard e.slot))) ∧
      (¬same →
        (known → run = refuse 1) ∧
        (¬known → 16 ≤ st.xfer.entries.length → run = refuse 0) ∧
        (¬known → st.xfer.entries.length < 16 →
          (st.supp.fire = .soak ∨ st.supp.fire = .vent → run = refuse 2) ∧
          (st.supp.fire ≠ .soak → st.supp.fire ≠ .vent → st.confirmed = true → run = refuse 3) ∧
          (st.confirmed = false →
            (dir.toNat ≠ (if st.cfg.role = .bay then 1 else 0) → run = refuse 4) ∧
            (dir.toNat = 0 → st.cfg.role = .hatch →
              (32 ≤ room → run = refuse 0) ∧
              (room < 32 → run = .next (s.put (accept (created heard none) none)))) ∧
            (dir.toNat = 1 → st.cfg.role = .bay →
              (st.table.lookup c ≠ .absent → run = refuse 1) ∧
              (st.table.lookup c = .absent → (∀ n, n ≤ 255 → st.isFreeSlot n = false) →
                run = refuse 0) ∧
              (∀ n, st.table.lookup c = .absent → n ≤ 255 → st.isFreeSlot n = true →
                (∀ m, m < n → st.isFreeSlot m = false) →
                run = .next (s.put (accept (created (heard.withRecord n (.reserved
                    { id := c, exposure := 0, acclim := none, inspect := false, mark := none } t))
                  (some n)) (some n)))))))))

/-- R131, R136: an ACCEPT and a REFUSE, by the table of R131. An entry REFUSED has its timers
stopped and its alert; a bay asks the slot's lamp to flash, a hatch removes the entry and its
custody entry is HELD-INBOUND again. A REFUSE UNKNOWN at an ARRIVED entry is the end of its resends.
From a station that is not the peer neither has an effect. That last, and that a REFUSE UNKNOWN at
an OFFERED or UNANSWERED entry makes it REFUSED, is the model's reading (log entry 18). -/
def Obligations.AcceptRefuseTable : Prop :=
  ∀ (s : Machine.State) (src : Addr) (t : Tid) (slot : Option Byte) (reason : Byte),
    s.station.hearsPeer src →
    let st := s.station
    let heard := st.modifyPeer src Peer.refresh
    let accepted := Machine.exec (.accept src t slot) s
    let refused := Machine.exec (.refuse src t reason) s
    let nothing : Host.Outcome _ _ _ := .next (s.put heard)
    let withdraw : Host.Outcome _ _ _ := .next (s.put (heard.hand .transfers src (.withdraw t)))
    let known : Byte := if reason.toNat ≤ 5 then reason else 5
    (st.joined = false → accepted = nothing ∧ refused = nothing) ∧
    (st.joined = true →
      ((∀ e ∈ st.xfer.entries, e.tid = t → e.state.receiving = true) → accepted = withdraw) ∧
      ((∀ e ∈ st.xfer.entries, e.tid ≠ t) → refused = nothing) ∧
      ∀ (front rest : List XferEntry) (e : XferEntry), st.xfer.entries = front ++ e :: rest →
        e.tid = t → (∀ x ∈ front ++ rest, x.tid ≠ t) →
        let become (e : XferEntry) : Station := { heard with
          xfer := { heard.xfer with entries := front ++ e :: rest, check := 0 } }
        let alerted := (become { e with state := .refused, transit := .stopped, reply := none }
          ).engineAlert 7 e.slot e.cart (some t) (some known)
        (e.peer ≠ src → (e.state.receiving = false → accepted = nothing) ∧ refused = nothing) ∧
        (e.peer = src →
          (e.state = .offered ∨ e.state = .unanswered →
            accepted = .next (s.put (become
              { e with state := .accepted, acceptedSlot := slot, reply := none })) ∧
            (∀ n, st.cfg.role = .bay → e.slot = some n →
              refused = .next (s.put (alerted.askLamp n .flashing))) ∧
            (st.cfg.role = .hatch →
              refused = .next (s.put ((alerted.removeXfer t).setCustody
                (st.hatch.custody.map fun x =>
                  if x.cart = e.cart ∧ x.state = .outgoing then { x with state := .heldInbound }
                  else x))))) ∧
          (e.state = .accepted ∨ e.state = .lapsed → accepted = nothing ∧ refused = nothing) ∧
          (e.state = .refused → accepted = withdraw ∧ refused = nothing) ∧
          (e.state = .expected ∨ e.state = .placing → refused = nothing) ∧
          (e.state = .arrived →
            (known ≠ 5 → refused = nothing) ∧
            (known = 5 → refused = .next (s.put
              ((heard.engineAlert 7 e.slot e.cart (some t) (some 5)).settleArrived e))))))

/-- R134, R142, R127: the sender closes a transfer. A bay's DEPARTING record becomes VACANT and the
lamp request goes, a hatch's OUTGOING custody entry goes, the entry goes, and a LAPSED one gives
LAPSE-RESOLVED. An ARRIVE from the peer is answered CLOSE, any other REFUSE UNKNOWN. A CLAIM for a
cartridge under a sending entry is answered CLOSE with the job, and with a WITHDRAW to a peer that
is not the claimer, unless the entry was REFUSED. That an ARRIVE whose id names a RECEIVING entry is
answered REFUSE UNKNOWN is the model's reading (log entry 18), and the order CLOSE, LAPSE-RESOLVED,
WITHDRAW of the messages is its choice (log entry 10). -/
def Obligations.SenderClosesTransfer : Prop :=
  (∀ (st : Station) (e : XferEntry),
    let resolved (x : Station) : Station :=
      if e.state = .lapsed then x.engineAlert 9 e.slot e.cart (some e.tid) none else x
    (st.cfg.role = .hatch → st.closeSending e = resolved ((st.setCustody
      (st.hatch.custody.filter fun x => !(decide (x.cart = e.cart) && decide (x.state = .outgoing)))
      ).removeXfer e.tid)) ∧
    (∀ n sl c, st.cfg.role = .bay → e.slot = some n → st.table.slots[n]? = some sl →
      sl.difference = 0 → (∀ x ∈ st.pulls.entries, x.slot ≠ n) →
      (sl.record = .departing c e.tid →
        st.closeSending e
          = resolved (((st.withRecord n .vacant).askLamp n .off).removeXfer e.tid)) ∧
      ((∀ d, sl.record ≠ .departing d e.tid) →
        st.closeSending e = resolved ((st.askLamp n .off).removeXfer e.tid)))) ∧
  ∀ (s : Machine.State) (src : Addr), s.station.hearsPeer src →
    let st := s.station
    let heard := st.modifyPeer src Peer.refresh
    (∀ t : Tid,
      let run := Machine.exec (.arrive src t) s
      (st.joined = false → run = .next (s.put heard)) ∧
      (st.joined = true →
        ((∀ e, st.sendingById t = some e → e.peer ≠ src) →
          run = .next (s.put (heard.hand .transfers src (.refuse t 5)))) ∧
        (∀ e, st.sendingById t = some e → e.peer = src →
          run = .next (s.put
            ((heard.hand .transfers src (.close t e.cart none)).closeSending e))))) ∧
    (∀ c : Cart,
      let run := Machine.exec (.claim src c) s
      (st.joined = false → run = .next (s.put heard)) ∧
      ((∀ e ∈ st.xfer.entries, e.cart = c → e.state.receiving = true) → run = .next (s.put heard)) ∧
      (∀ (front rest : List XferEntry) (e : XferEntry), st.joined = true →
        st.xfer.entries = front ++ e :: rest → e.cart = c → e.state.receiving = false →
        (∀ x ∈ front, x.cart ≠ c) →
        let closed := (heard.hand .transfers src (.close e.tid c (some e.job))).closeSending e
        (src = e.peer ∨ e.state = .refused → run = .next (s.put closed)) ∧
        (src ≠ e.peer → e.state ≠ .refused →
          run = .next (s.put (closed.hand .transfers e.peer (.withdraw e.tid))))))

/-- R135, R142: a CLOSE taken in by the receiver. An entry EXPECTED or ARRIVED at a hatch joins the
custody list HELD-OUTBOUND under its job; at a bay the reserved record becomes PLACING with its lamp
on, or the slot's record decides. Without an entry, a claim for the cartridge takes it in under the
transfer the CLOSE names, with STRAY-ARRIVAL at a bay without room; without either, REFUSE UNKNOWN.
A CLOSE without a job files the cartridge under a free job (log entry 3), and an entry for a claim
is made only where no entry has its id: the model's reading (log entry 18). -/
def Obligations.ReceiverClosesTransfer : Prop :=
  (∀ (st : Station) (e : XferEntry),
    let placing := st.modifyXfer e.tid fun x => { x with state := .placing, reply := none }
    (st.cfg.role = .hatch → st.settleArrived e = (st.removeXfer e.tid).setCustody
      (st.hatch.custody ++ [{ cart := e.cart, job := e.job, state := .heldOutbound, dest := none }])) ∧
    (∀ n sl, st.cfg.role = .bay → e.slot = some n → st.table.slots[n]? = some sl →
      sl.difference = 0 →
      (∀ c, sl.record = .filed c → c.id = e.cart → st.settleArrived e = st.removeXfer e.tid) ∧
      (∀ c t, sl.record = .placing c t → st.settleArrived e = placing) ∧
      ((∀ c, sl.record = .filed c → c.id ≠ e.cart) → (∀ c t, sl.record ≠ .placing c t) →
        st.settleArrived e = (st.askLamp n .off).removeXfer e.tid))) ∧
  ∀ (s : Machine.State) (src : Addr) (t : Tid) (c : Cart) (job : Option Job),
    s.station.hearsPeer src →
    let st := s.station
    let heard := st.modifyPeer src Peer.refresh
    let run := Machine.exec (.close src t c job) s
    let cleared := heard.removeClaim c
    let stray : Host.Outcome _ _ _ :=
      .next (s.put (cleared.engineAlert 10 none c (some t) none))
    let fresh : CartData := { id := c, exposure := 0, acclim := none, inspect := false, mark := none }
    (st.joined = false → run = .next (s.put heard)) ∧
    (st.joined = true →
      (∀ e, st.receivingById t src = some e →
        (e.state = .placing → run = .next (s.put heard)) ∧
        (e.state = .arrived → run = .next (s.put (heard.settleArrived e))) ∧
        (e.state = .expected →
          (st.cfg.role = .hatch → run = .next (s.put (heard.settleArrived e))) ∧
          (∀ n sl d, st.cfg.role = .bay → e.slot = some n → st.table.slots[n]? = some sl →
            sl.difference = 0 → sl.record = .reserved d t → (∀ x ∈ st.pulls.entries, x.slot ≠ n) →
            run = .next (s.put (((heard.withRecord n (.placing d t)).askLamp n .on).modifyXfer t
              fun x => { x with state := .placing, reply := none }))) ∧
          (∀ n sl, st.cfg.role = .bay → e.slot = some n → st.table.slots[n]? = some sl →
            sl.difference = 0 → (∀ d, sl.record ≠ .reserved d t) →
            run = .next (s.put
              ((heard.engineAlert 10 none e.cart (some t) none).removeXfer t))))) ∧
      (st.receivingById t src = none →
        ((∀ k ∈ st.xfer.claims, k.cart ≠ c) →
          run = .next (s.put (heard.hand .transfers src (.refuse t 5)))) ∧
        (∀ k ∈ st.xfer.claims, k.cart = c →
          (∀ j, st.cfg.role = .hatch → job = some j → run = .next (s.put (cleared.setCustody
            (st.hatch.custody ++
              [{ cart := c, job := j, state := .heldOutbound, dest := none }])))) ∧
          (st.cfg.role = .hatch → job = none → ∃ j, run = .next (s.put (cleared.setCustody
            (st.hatch.custody ++
              [{ cart := c, job := j, state := .heldOutbound, dest := none }])))) ∧
          (st.cfg.role = .bay → 16 ≤ st.xfer.entries.length → run = stray) ∧
          (st.cfg.role = .bay → st.damageReported →
            (st.table.lookup c ≠ .absent → run = stray) ∧
            ((∀ n, n ≤ 255 → st.isFreeSlot n = false) → run = stray) ∧
            (∀ n j, st.xfer.entries.length < 16 → st.xferById t = none →
              st.table.lookup c = .absent → n ≤ 255 → st.isFreeSlot n = true →
              (∀ m, m < n → st.isFreeSlot m = false) → (∀ x ∈ st.pulls.entries, x.slot ≠ n) →
              job = some j →
              run = .next (s.put (((cleared.withRecord n (.placing fresh t)).askLamp n .on).setXfers
                (st.xfer.entries ++ [
                  { tid := t, cart := c, peer := src, job := j, direction := .inbound
                    state := .placing, attempts := 0, transit := .stopped, slot := some n
                    custody := none, acceptedSlot := none, reply := none }]))))))))

/-- R129, R132, R133, R138, R140, R143: a WITHDRAW frees what an EXPECTED entry reserved, with no
lamp touched, and reaches no other state; where the free is not made, the record stands and the
engine's lamp request for the slot is withdrawn (R127); a reply timer's expiry resends three times
and then makes an OFFERED entry UNANSWERED, while an ARRIVED one's receiver takes custody; a running
transit timer's expiry makes the entry LAPSED; a claim timer's expiry ends the claim as a stray. -/
def Obligations.TransferTimersAndWithdraw : Prop :=
  (∀ (s : Machine.State) (src : Addr) (t : Tid), s.station.hearsPeer src →
    let st := s.station
    let heard := st.modifyPeer src Peer.refresh
    let run := Machine.exec (.withdraw src t) s
    (st.joined = false → run = .next (s.put heard)) ∧
    (st.receivingById t src = none → run = .next (s.put heard)) ∧
    (∀ e, st.joined = true → st.receivingById t src = some e →
      (e.state ≠ .expected → run = .next (s.put heard)) ∧
      (e.state = .expected → e.slot = none → run = .next (s.put (heard.removeXfer t))) ∧
      (∀ n sl d, e.state = .expected → e.slot = some n → st.table.slots[n]? = some sl →
        sl.difference = 0 → sl.record = .reserved d t → (∀ x ∈ st.pulls.entries, x.slot ≠ n) →
        run = .next (s.put ((heard.withRecord n .vacant).removeXfer t))) ∧
      (∀ n sl, e.state = .expected → e.slot = some n → st.table.slots[n]? = some sl →
        (sl.difference = 0 ∧ ∀ d, sl.record ≠ .reserved d t) ∨
          (sl.difference ≠ 0 ∧ sl.damage ≠ .none) →
        run = .next (s.put ((heard.askLamp n .off).removeXfer t))))) ∧
  ∀ s : Machine.State, s.station.running = true →
    let st := s.station
    (∀ t : Tid,
      let run := Machine.exec (.replyTimerExpiry t) s
      (st.xferById t = none → run = .next s) ∧
      (∀ e, st.xferById t = some e →
        (e.reply = none → run = .next s) ∧
        (e.reply.isSome → e.state = .offered → e.attempts < 3 → run = .next (s.put
          ((st.modifyXfer t fun x => { x with attempts := x.attempts + 1, reply := none }).hand
            .transfers e.peer (.offer t e.cart e.job (if e.direction = .outbound then 0 else 1))))) ∧
        (e.reply.isSome → e.state = .arrived → e.attempts < 3 → run = .next (s.put
          ((st.modifyXfer t fun x => { x with attempts := x.attempts + 1, reply := none }).hand
            .transfers e.peer (.arrive t)))) ∧
        (e.reply.isSome → e.state = .offered → 3 ≤ e.attempts → run = .next (s.put
          ((st.modifyXfer t fun x => { x with state := .unanswered, reply := none }).engineAlert 7
            e.slot e.cart (some t) none))) ∧
        (e.reply.isSome → e.state = .arrived → 3 ≤ e.attempts → run = .next (s.put
          (((st.modifyXfer t fun x => { x with reply := none }).engineAlert 7 e.slot e.cart (some t)
            none).settleArrived e))))) ∧
    (∀ t : Tid,
      let run := Machine.exec (.transitExpiry t) s
      (st.sendingById t = none → run = .next s) ∧
      (∀ e, st.sendingById t = some e →
        ((∀ n, e.transit ≠ .running n) → run = .next s) ∧
        (∀ n, e.transit = .running n → run = .next (s.put
          ((st.modifyXfer t fun x =>
            { x with state := .lapsed, transit := .stopped, reply := none }).engineAlert 8 e.slot
              e.cart (some t) none))))) ∧
    (∀ c : Cart,
      let run := Machine.exec (.claimTimerExpiry c) s
      let ended := (st.removeClaim c).engineAlert 10 none c none none
      ((∀ k ∈ st.xfer.claims, k.cart ≠ c) → run = .next s) ∧
      (∀ k ∈ st.xfer.claims, k.cart = c →
        (st.cfg.role = .bay → run = .next (s.put ended)) ∧
        (st.cfg.role = .hatch → run = .next (s.put (ended.setCustody (st.hatch.custody ++
          [{ cart := c, job := 0, state := .heldInbound, dest := none }]))))))

/-- R125: every step, from any state whose transfer table and claim list keep the law of R125,
leaves them keeping it. -/
def Obligations.TransfersStayLawful : Prop :=
  ∀ s t : Machine.State, s.station.TransfersLawful → Machine.step s = .next t →
    t.station.TransfersLawful

/-! ### Chapter 9: the courier hatch -/

/-- R149: a CHECKIN, by the table of R149. A station not JOINED makes no reply. -/
def Obligations.CheckinTable : Prop :=
  ∀ (s : Machine.State) (src : Addr) (seq : Byte) (job : Job) (c : Cart) (dest : Addr),
    s.station.hearsConsole src →
    let st := s.station
    let run := Machine.exec (.checkin src seq job c dest) s
    let answer (st : Station) (o : ReplyOutcome) : Host.Outcome _ _ _ :=
      .next (s.put (st.reply .hatch src 14 seq o))
    let isSealed := st.supp.fire = .soak ∨ st.supp.fire = .vent
    let reachable := ∃ d, st.peers.records[dest.toNat]? = some (.alive d) ∧
      d.roleDemand.map Prod.fst = some .bay
    let stray := ∃ e ∈ st.hatch.custody, e.cart = c ∧ e.state = .heldInbound ∧ e.dest = none
    let known := (∃ e ∈ st.hatch.expected, e.cart = c) ∨ (∃ e ∈ st.hatch.custody, e.cart = c)
      ∨ (∃ m ∈ st.hatch.session.manifest, m.cart = c) ∨ (∃ e ∈ st.xfer.entries, e.cart = c)
      ∨ (∃ k ∈ st.xfer.claims, k.cart = c)
    (st.joined = false → run = .next s) ∧
    (st.joined = true → st.cfg.role = .bay → run = answer st .role) ∧
    (st.joined = true → st.cfg.role = .hatch →
      (isSealed → run = answer st .sealed) ∧
      (¬isSealed → ¬reachable → run = answer st .unreachable) ∧
      (¬isSealed → reachable →
        (stray → run = answer (st.setCustody (st.hatch.custody.map fun e =>
          if e.cart = c then { e with job := job, dest := some dest } else e)) .done) ∧
        (¬stray → known → run = answer st .duplicate) ∧
        (¬stray → ¬known → 32 ≤ st.hatch.expected.length → run = answer st .full) ∧
        (¬stray → ¬known → st.hatch.expected.length < 32 →
          run = answer (st.setExpected
            (st.hatch.expected ++ [{ job := job, cart := c, dest := dest }])) .done)))

/-- R147, R150, R151, R153: a read of the inner reader, by the rows of R150 where the transfer
engine holds nothing for the cartridge and the manifest does not either. A read of another class, or
at a station that is no JOINED HATCH, changes nothing. That no claim is made for a cartridge under a
transfer entry is the model's reading (log entry 18). -/
def Obligations.InnerReadTable : Prop :=
  (∀ (s : Machine.State) (cls : TagClass) (c : Cart),
    cls ≠ .cartridge ∨ s.station.hatchUnit = false ∨ s.station.joined = false →
    Machine.exec (.innerRead cls c) s = .next s) ∧
  ∀ (s : Machine.State) (c : Cart), s.station.hatchUnit = true → s.station.joined = true →
    let st := s.station
    let h := st.hatch
    let run := Machine.exec (.innerRead .cartridge c) s
    let alert (kind : Byte) : Host.Outcome _ _ _ := .next (s.put (st.hand .hatch 255 (.custodyAlert
      { kind := kind, slot := none, cart := some c, cart2 := none, tid := none, reason := none })))
    let inFlight := (∃ e ∈ st.xfer.entries, e.cart = c ∧ e.state = .arrived)
      ∨ (∃ k ∈ st.xfer.claims, k.cart = c) ∨ (∃ m ∈ h.session.manifest, m.cart = c)
    let loads := (h.session.state = .identified ∨ h.session.state = .filling)
      ∧ st.motion.state = .resting .b
    (∀ e, st.expectedXfer c = some e → run = .next (s.put
      ((st.modifyXfer e.tid fun x => { x with state := .arrived, attempts := 0, reply := none }).hand
        .transfers e.peer (.arrive e.tid)))) ∧
    (st.expectedXfer c = none →
      (inFlight → run = .next s) ∧
      (¬inFlight →
        (∀ e, h.expected.find? (fun x => decide (x.cart = c)) = some e →
          (32 ≤ st.placesTaken → run = alert 11) ∧
          (st.placesTaken < 32 → run = .next (s.put { st with
            hatch := { h with
              custody := h.custody ++
                [{ cart := c, job := e.job, state := .heldInbound, dest := some e.dest }]
              custodyCheck := 0
              expected := h.expected.filter fun x => decide (x.cart ≠ c)
              expectedCheck := 0 } }))) ∧
        ((∀ x ∈ h.expected, x.cart ≠ c) →
          (∀ e, h.custody.find? (fun x => decide (x.cart = c)) = some e →
            (e.state = .heldOutbound → h.session.job = some e.job → loads →
              h.session.manifest.length < 16 → run = .next (s.put { st with
                hatch := { h with
                  custody := h.custody.map fun x =>
                    if x.cart = c then { x with state := .inDrawer } else x
                  custodyCheck := 0
                  session := { h.session with
                    state := .filling
                    manifest := h.session.manifest ++ [{ cart := c, confirmed := false }] } } })) ∧
            (e.state = .heldOutbound →
              (h.session.job ≠ some e.job ∨ ¬loads ∨ 16 ≤ h.session.manifest.length) →
              run = .next s) ∧
            (e.state = .inDrawer ∨ (e.state = .heldInbound ∧ e.dest = none) → run = .next s) ∧
            (∀ d, e.state = .heldInbound → e.dest = some d →
              (st.declines .inbound c d = true → run = .next s) ∧
              (st.declines .inbound c d = false →
                run = .next (s.put ((st.openXfer .inbound c e.job none (some c) d).1.setCustody
                  (h.custody.map fun x =>
                    if x.cart = c then { x with state := .outgoing } else x))))) ∧
            (e.state = .outgoing → (∀ x ∈ st.xfer.entries, x.cart ≠ c) →
              run = .next (s.put (st.setCustody (h.custody.map fun x =>
                if x.cart = c then { x with state := .heldInbound } else x)))) ∧
            (∀ x, e.state = .outgoing → st.xferByCart c = some x → x.state.receiving = false →
              x.slot = none →
              run = .next (s.put ((if x.state = .refused then st.removeXfer x.tid
                else (st.removeXfer x.tid).hand .transfers x.peer (.withdraw x.tid)).setCustody
                (h.custody.map fun y =>
                  if y.cart = c then { y with state := .heldInbound } else y))))) ∧
          ((∀ x ∈ h.custody, x.cart ≠ c) →
            (4 ≤ st.xfer.claims.length → run = .next s) ∧
            (st.xfer.claims.length < 4 → (∀ x ∈ st.xfer.entries, x.cart ≠ c) →
              (32 ≤ st.placesTaken → run = .next (s.put (st.engineAlert 11 none c none none))) ∧
              (st.placesTaken < 32 → run = .next (s.put (({ st with
                xfer := { st.xfer with
                  claims := st.xfer.claims ++ [{ cart := c, timer := ticksOfSec 2 }] }
                } : Station).hand .transfers 255 (.claim c)))))))))

/-- R147, R152, R154, R155: the outer reader's reads. A COURIER read begins a session where R152
finds one to begin. A cartridge read counts in PRESENTING, where the last clear flag brings the
handover, and in RECEIVING with the drawer at rest OUT. Elsewhere neither changes anything. The
number of a HANDOVER's outcome is the model's choice (log entry 14). -/
def Obligations.OuterReadsTable : Prop :=
  ∀ s : Machine.State,
    let st := s.station
    let h := st.hatch
    let x := h.session
    let takes := st.hatchUnit = true ∧ st.joined = true
    let alert (kind : Byte) (c : Cart) : Host.Outcome _ _ _ :=
      .next (s.put (st.hand .hatch 255 (.custodyAlert
        { kind := kind, slot := none, cart := some c, cart2 := none, tid := none, reason := none })))
    let withSession (y : Session) : Station := { st with hatch := { h with session := y } }
    (∀ number : Cart,
      let job : Job := number.extractLsb' 24 16
      let run := Machine.exec (.courierRead number) s
      let ready := x.state = .idle ∧ st.confirmed = false ∧ st.motion.state = .resting .b ∧
        st.pins.innerFlapOpen = false ∧ st.pins.outerFlapOpen = false
      let outbound := ∃ e ∈ h.custody, e.state = .heldOutbound ∧ e.job = job
      let inbound := ∃ e ∈ h.expected, e.job = job
      let begun (state : SessionState) (d : Direction) : Station := withSession
        { state := state, job := some job, direction := some d
          timer := some (ticksOfSec st.cfg.sessionLimit), manifest := [], reason := none }
      (¬takes → run = .next s) ∧
      (takes → ¬ready → run = .next s) ∧
      (takes → ready → outbound → run = .next (s.put (begun .identified .outbound))) ∧
      (takes → ready → ¬outbound → inbound →
        run = .next (s.put ((begun .receiving .inbound).command .a).1)) ∧
      (takes → ready → ¬outbound → ¬inbound → run = .next s)) ∧
    (∀ c : Cart,
      let run := Machine.exec (.outerCartridgeRead c) s
      let flagged : List ManifestItem :=
        x.manifest.map fun m => if m.cart = c then { m with confirmed := true } else m
      (¬takes → run = .next s) ∧
      (takes → x.state ≠ .presenting → x.state ≠ .receiving → run = .next s) ∧
      (takes → x.state = .presenting →
        ((∀ m ∈ x.manifest, m.cart ≠ c) → run = alert 10 c) ∧
        ((∀ m ∈ x.manifest, m.cart = c → m.confirmed = true) → (∃ m ∈ x.manifest, m.cart = c) →
          run = .next s) ∧
        ((∃ m ∈ x.manifest, m.cart = c ∧ m.confirmed = false) →
          ((∃ m ∈ flagged, m.confirmed = false) →
            run = .next (s.put (withSession { x with manifest := flagged }))) ∧
          (∀ j, (∀ m ∈ flagged, m.confirmed = true) → x.job = some j →
            x.direction = some .outbound → st.motion.state = .resting .a →
            st.pins.innerEnd = false →
            let kept := h.custody.filter fun e =>
              !(decide (e.state = .inDrawer) && x.manifest.any fun m => decide (m.cart = e.cart))
            let handed : Station := { st with
              hatch := { h with
                custody := kept, custodyCheck := 0
                session :=
                  { x with state := .handed, timer := none, reason := none, manifest := flagged } } }
            let told := handed.hand .hatch 255 (.handover
              { job := j, direction := 0, handed := BitVec.ofNat 8 x.manifest.length
                remaining := BitVec.ofNat 8 (kept.filter fun e =>
                  decide (e.job = j) && decide (e.state = .heldOutbound)).length
                outcome := 0, reason := none })
            run = .next (s.put
              ((told.onSession fun y => { y with manifest := [] }).command .b).1)))) ∧
      (takes → x.state = .receiving → st.motion.state ≠ .resting .a → run = .next s) ∧
      (takes → x.state = .receiving → st.motion.state = .resting .a →
        let wanted := ∃ e ∈ h.expected, e.cart = c ∧ some e.job = x.job
        ((∃ m ∈ x.manifest, m.cart = c) → run = .next s) ∧
        ((∀ m ∈ x.manifest, m.cart ≠ c) →
          (¬wanted → run = alert 10 c) ∧
          (wanted → 16 ≤ x.manifest.length → run = .next s) ∧
          (wanted → x.manifest.length < 16 → 32 ≤ st.placesTaken → run = alert 11 c) ∧
          (wanted → x.manifest.length < 16 → st.placesTaken < 32 →
            run = .next (s.put (withSession { x with
              manifest := x.manifest ++ [{ cart := c, confirmed := false }] }))))))

/-- R147: a press counts once, when its button has been held for 50 ms. At a HATCH from LISTEN on, a
button that goes down starts its timer of 50 ms, one that stays down leaves the timer as it is, and
one that goes up stops it; elsewhere the level of the input alone changes. That a button already
down at entry into LISTEN does not count until it goes down again, and which event a command is, it
carries: the model's choice (log entry 9).

R153, R155, R156, R162: the SEND and DONE presses and the session timer. A press at a drawer STALLED
with both flaps shut gives its last command again, or IN before any, and does nothing else; SEND
sends a filled drawer out, DONE calls a receiving one in. The press finds its button down and ends
its timer. The timer's expiry breaks an active session off; at the drawer's rest IN the session is
then IDLE with all its fields cleared. At a BAY, and before LISTEN, a press has no effect. That a
press retries any stall, and that the fields are cleared at IDLE, is the model's reading (log entry
17). The number of a HANDOVER's outcome is the model's choice (log entry 14). -/
def Obligations.PressesAndSessionTimer : Prop :=
  (∀ (s : Machine.State) (down : Bool),
     let st := s.station
     let send := Machine.exec (.sendPress (.level down)) s
     let done := Machine.exec (.donePress (.level down)) s
     let sendRuns (t : Timer) : Host.Outcome Machine.State Machine.Fault Machine.Refusal :=
       .next (s.put { st with
         pins := { st.pins with sendDown := down }, hatch := { st.hatch with sendTimer := t } })
     let doneRuns (t : Timer) : Host.Outcome Machine.State Machine.Fault Machine.Refusal :=
       .next (s.put { st with
         pins := { st.pins with doneDown := down }, hatch := { st.hatch with doneTimer := t } })
     (st.hatchUnit = false →
       send = .next (s.put { st with pins := { st.pins with sendDown := down } }) ∧
       done = .next (s.put { st with pins := { st.pins with doneDown := down } })) ∧
     (st.hatchUnit = true →
       (down = false → send = sendRuns none ∧ done = doneRuns none) ∧
       (down = true → st.pins.sendDown = true → send = sendRuns st.hatch.sendTimer) ∧
       (down = true → st.pins.sendDown = false → send = sendRuns (some 6250)) ∧
       (down = true → st.pins.doneDown = true → done = doneRuns st.hatch.doneTimer) ∧
       (down = true → st.pins.doneDown = false → done = doneRuns (some 6250)))) ∧
  ((∀ s : Machine.State, s.station.hatchUnit = false →
     Machine.exec (.sendPress .press) s = .next s ∧ Machine.exec (.donePress .press) s = .next s) ∧
   ∀ s : Machine.State, s.station.hatchUnit = true →
     let st := s.station
     let x := st.hatch.session
     let send := Machine.exec (.sendPress .press) s
     let done := Machine.exec (.donePress .press) s
     let sent : Station := { st with
       pins := { st.pins with sendDown := true }, hatch := { st.hatch with sendTimer := none } }
     let called : Station := { st with
       pins := { st.pins with doneDown := true }, hatch := { st.hatch with doneTimer := none } }
     let expiry := Machine.exec .sessionTimerExpiry s
     let last := st.motion.last.getD .b
     let shut := st.pins.innerFlapOpen = false ∧ st.pins.outerFlapOpen = false
     let retries := st.motion.state = .stalled ∧ shut
     let sends := x.state = .filling ∧ st.motion.state = .resting .b ∧ shut
     let calls := x.state = .receiving ∧ st.motion.state = .resting .a ∧ shut
     (retries → st.arrivalHolds last = false ∨ x.state = .idle →
       send = .next (s.put (sent.command last).1) ∧ done = .next (s.put (called.command last).1)) ∧
     (sends → st.arrivalHolds .a = false → send = .next (s.put (sent.command .a).1)) ∧
     (¬retries → ¬sends → send = .next (s.put sent)) ∧
     (calls → st.pins.innerEnd = false → done
       = .next (s.put ((called.onSession fun y => { y with state := .returning }).command .b).1)) ∧
     (¬retries → ¬calls → done = .next (s.put called)) ∧
     (x.timer = none → expiry = .next s) ∧
     (x.timer.isSome → x.state = .idle ∨ x.state = .handed ∨ x.state = .aborted →
       expiry = .next (s.put (st.onSession fun y => { y with timer := none }))) ∧
     (∀ j d, x.timer.isSome → x.state.active = true → x.job = some j → x.direction = some d →
       let back := st.hatch.custody.map fun e =>
         if e.state = .inDrawer then { e with state := .heldOutbound } else e
       let broken : Station := { st with
         hatch := { st.hatch with
           custody := back, custodyCheck := 0
           session := { x with state := .aborted, timer := none, reason := some .timeout } } }
       let remaining := match d with
         | .outbound => (back.filter fun e =>
             decide (e.job = j) && decide (e.state = .heldOutbound)).length
         | .inbound => (st.hatch.expected.filter fun e => decide (e.job = j)).length
       let told := broken.hand .hatch 255 (.handover
         { job := j, direction := if d = .outbound then 0 else 1, handed := 0
           remaining := BitVec.ofNat 8 remaining, outcome := 1, reason := some 0 })
       let brought := ((told.onSession fun y => { y with manifest := [] }).command .b).1
       (brought.motion.state ≠ .resting .b → expiry = .next (s.put brought)) ∧
       (brought.motion.state = .resting .b →
         expiry = .next (s.put (brought.onSession fun _ => .idle)))))

/-- R156, R34, R35, R37, R159, R161: an active courier session is broken off where the drawer
stalls: by a flap that opens while it moves, or that stands open when its pending drive comes due or
when a drawer that has left its end is to be driven back (R36, R160), with reason INTERLOCK; by the
travel timer's expiry or an encoder fault while it moves, with reason STALL. The session is ABORTED,
its timer stopped, IN-DRAWER entries are HELD-OUTBOUND again, one HANDOVER with outcome ABORTED and
the reason goes to ALL, the manifest is cleared and the drawer is commanded IN; with the drawer at
rest IN then, the session is IDLE. That its fields are cleared there is the model's reading (log
entry 17). The number of a HANDOVER's outcome is the model's choice (log entry 14). -/
def Obligations.SessionBreaksOff : Prop :=
  ∀ (s : Machine.State) (j : Job) (d : Direction), s.station.hatchUnit = true →
    s.station.hatch.session.state.active = true → s.station.hatch.session.job = some j →
    s.station.hatch.session.direction = some d →
    let st := s.station
    let m := st.motion
    let breaks (reason : AbortReason) (code : Byte) (at' : Station)
        (run : Host.Outcome Machine.State Machine.Fault Machine.Refusal) : Prop :=
      let back := st.hatch.custody.map fun e =>
        if e.state = .inDrawer then { e with state := .heldOutbound } else e
      let broken : Station := { at' with
        hatch := { at'.hatch with
          custody := back, custodyCheck := 0
          session :=
            { st.hatch.session with state := .aborted, timer := none, reason := some reason } } }
      let remaining := match d with
        | .outbound => (back.filter fun e =>
            decide (e.job = j) && decide (e.state = .heldOutbound)).length
        | .inbound => (st.hatch.expected.filter fun e => decide (e.job = j)).length
      let told := broken.hand .hatch 255 (.handover
        { job := j, direction := if d = .outbound then 0 else 1, handed := 0
          remaining := BitVec.ofNat 8 remaining, outcome := 1, reason := some code })
      let brought := ((told.onSession fun y => { y with manifest := [] }).command .b).1
      (brought.motion.state ≠ .resting .b → run = .next (s.put brought)) ∧
      (brought.motion.state = .resting .b →
        run = .next (s.put (brought.onSession fun _ => .idle)))
    let stalled (x : Station) (c : StallCause) : Station := { x with
      motion := { m with
        state := .stalled, cause := some c, coilA := false, coilB := false, travel := none
        dead := if m.coilA || m.coilB then some (ticksOfMs 500) else m.dead } }
    (∀ e, m.state = .moving e →
      (∀ f : Flap,
        let seen : Station := { st with
          pins := match f with
            | .inner => { st.pins with innerFlapOpen := true }
            | .outer => { st.pins with outerFlapOpen := true } }
        breaks .interlock 2 (stalled seen .interlock) (Machine.exec (.flapChange f true) s)) ∧
      (m.coilA = false → m.coilB = false → m.dead.isSome → st.flapBlocks = true →
        breaks .interlock 2 { st with
            motion := { m with
              state := .stalled, cause := some .interlock, travel := none, dead := none } }
          (Machine.exec .deadTimeExpiry s)) ∧
      (∀ a b : Bool, a ≠ st.hatch.refA → b ≠ st.hatch.refB →
        breaks .stall 3
          (stalled
            { st with
              pins := { st.pins with phaseA := a, phaseB := b }
              hatch := { st.hatch with refA := a, refB := b } } .encoder)
          (Machine.exec (.encoderTransition a b) s))) ∧
    (m.coilA = false → m.coilB = false → m.dead = none → st.flapBlocks = true →
      let stopped : Motion := { m with state := .stalled, cause := some .interlock, travel := none }
      (m.state = .resting .b →
        breaks .interlock 2
          { st with pins := { st.pins with innerEnd := false }, motion := stopped }
          (Machine.exec (.endSwitchOpen .innerEnd) s)) ∧
      (∀ a b : Bool, m.state = .resting .a → st.hatch.position = st.cfg.posOut - 16 →
        0 < st.hatch.position →
        (st.hatch.refA, st.hatch.refB, a, b) ∈
          [(false, true, false, false), (true, true, false, true), (true, false, true, true),
            (false, false, true, false)] →
        breaks .interlock 2
          { st with
            pins := { st.pins with phaseA := a, phaseB := b }
            motion := stopped
            hatch := { st.hatch with position := st.hatch.position - 1, refA := a, refB := b } }
          (Machine.exec (.encoderTransition a b) s))) ∧
    (m.travel.isSome → breaks .stall 3 (stalled st .travel) (Machine.exec .travelExpiry s))

/-- R159, R160: an encoder transition at a HATCH. A change of both phases is an encoder fault, which
stalls a moving drawer; a step along the cycle adds 1, a step back takes 1, within 0 and 4095; the
new pair becomes the reference. Reaching POS_OUT - 8 brings a drawer that moves out to rest OUT;
falling below POS_OUT - 16 drives a drawer that rests OUT out again, at once, or pending while the
dead time runs; with a flap open that drive is a stop event with cause INTERLOCK. A stall does not
touch a session that is HANDED or ABORTED (one that is under way it breaks off: the statement of
that). A BAY keeps the levels alone. That the two arrival tests act at the change that crosses the
value is the model's reading (log entry 16). -/
def Obligations.EncoderFollowed : Prop :=
  ∀ (s : Machine.State) (a b : Bool),
    let st := s.station
    let p := st.hatch.position
    let run := Machine.exec (.encoderTransition a b) s
    let faulty := a ≠ st.hatch.refA ∧ b ≠ st.hatch.refB
    let still := a = st.hatch.refA ∧ b = st.hatch.refB
    let outward := (st.hatch.refA, st.hatch.refB, a, b) ∈
      [(false, false, false, true), (false, true, true, true), (true, true, true, false),
        (true, false, false, false)]
    let pins : Pins := { st.pins with phaseA := a, phaseB := b }
    let pos := if faulty ∨ still then p else if outward then min 4095 (p + 1) else p - 1
    let moved : Station := { st with
      pins := pins, hatch := { st.hatch with position := pos, refA := a, refB := b } }
    let quiet := st.hatch.session.state.active = false
    let reaches := p < st.cfg.posOut - 8 ∧ st.cfg.posOut - 8 ≤ pos
    let falls := st.cfg.posOut - 16 ≤ p ∧ pos < st.cfg.posOut - 16
    (st.hatchUnit = false → run = .next (s.put { st with pins := pins })) ∧
    (st.hatchUnit = true →
      (faulty → (∀ e, st.motion.state ≠ .moving e) → run = .next (s.put moved)) ∧
      (∀ e, faulty → st.motion.state = .moving e → quiet →
        run = .next (s.put (moved.onMotion (·.stall .encoder)))) ∧
      (¬faulty → ¬reaches → ¬falls → run = .next (s.put moved)) ∧
      (¬faulty → reaches →
        (st.motion.state = .moving .a ∨ (st.motion.state = .stalled ∧ st.motion.last = some .a) →
          st.hatch.session.state ≠ .filling → run = .next (s.put (moved.onMotion (·.rest .a)))) ∧
        (st.motion.state = .moving .a ∨ (st.motion.state = .stalled ∧ st.motion.last = some .a) →
          st.hatch.session.state = .filling →
          run = .next (s.put ((moved.onMotion (·.rest .a)).onSession fun y =>
            { y with state := .presenting }))) ∧
        (st.motion.state ≠ .moving .a → ¬(st.motion.state = .stalled ∧ st.motion.last = some .a) →
          run = .next (s.put moved))) ∧
      (¬faulty → falls →
        (st.motion.state ≠ .resting .a → run = .next (s.put moved)) ∧
        (st.motion.state = .resting .a → st.motion.coilA = false → st.motion.coilB = false →
          st.motion.dead = none → st.pins.innerFlapOpen = false → st.pins.outerFlapOpen = false →
          run = .next (s.put (moved.onMotion fun m =>
            { m with
              state := .moving .a, cause := none, coilA := true
              travel := some (ticksOfSec st.cfg.drawerTravel) }))) ∧
        (st.motion.state = .resting .a → st.motion.coilA = false → st.motion.coilB = false →
          st.motion.dead.isSome →
          run = .next (s.put (moved.onMotion fun m =>
            { m with state := .moving .a, cause := none, travel := none }))) ∧
        (st.motion.state = .resting .a → st.motion.coilA = false → st.motion.coilB = false →
          st.motion.dead = none → st.flapBlocks = true → quiet →
          run = .next (s.put (moved.onMotion fun m =>
            { m with state := .stalled, cause := some .interlock, travel := none })))))

/-- R155, R157, R159, R161: the flaps and the inner end switch of a HATCH. A flap that opens stops a
moving drawer with cause INTERLOCK; the last of the two to shut retries such a stall. INNER-END
closing sets the counter to 0 and brings an incoming drawer to rest IN, which ends an ended session
and files what an inbound one carried, a HANDOVER of 0 where it carried nothing. INNER-END opening
where the drawer rests IN drives it in again, at once, or pending while the dead time runs; with a
flap open that drive is a stop event with cause INTERLOCK. A stall does not touch a session that is
HANDED or ABORTED (one that is under way it breaks off: the statement of that). At a BAY the flaps
are levels and nothing more. That a session's fields are cleared at IDLE is the model's reading (log
entry 17), and so is the drive of a drawer that rests OUT by its counter as INNER-END closes (log
entry 16). The number of a HANDOVER's outcome is the model's choice (log entry 14). -/
def Obligations.FlapsAndInnerEnd : Prop :=
  (∀ (s : Machine.State) (f : Flap) (o : Bool), s.station.hatchUnit = false →
    Machine.exec (.flapChange f o) s = .next (s.put { s.station with
      pins := match f with
        | .inner => { s.station.pins with innerFlapOpen := o }
        | .outer => { s.station.pins with outerFlapOpen := o } })) ∧
  (∀ s : Machine.State, s.station.hatchUnit = true →
     let st := s.station
     let x := st.hatch.session
     let close := Machine.exec (.endSwitchClose .innerEnd) s
     let opened := Machine.exec (.endSwitchOpen .innerEnd) s
     let zeroed : Station := { st with
       pins := { st.pins with innerEnd := true }, hatch := { st.hatch with position := 0 } }
     let comes := st.motion.state = .moving .b ∨
       (st.motion.state = .stalled ∧ st.motion.last = some .b)
     let rests := zeroed.onMotion (·.rest .b)
     let left : Station := { st with pins := { st.pins with innerEnd := false } }
     (∀ (f : Flap) (o : Bool),
       let pins := match f with
         | .inner => { st.pins with innerFlapOpen := o }
         | .outer => { st.pins with outerFlapOpen := o }
       let seen : Station := { st with pins := pins }
       let run := Machine.exec (.flapChange f o) s
       let shut := pins.innerFlapOpen = false ∧ pins.outerFlapOpen = false
       (∀ e, o = true → st.motion.state = .moving e → x.state.active = false →
         run = .next (s.put (seen.onMotion (·.stall .interlock)))) ∧
       (o = true → (∀ e, st.motion.state ≠ .moving e) → run = .next (s.put seen)) ∧
       (o = false →
         (shut → st.motion.state = .stalled → st.motion.cause = some .interlock →
           seen.arrivalHolds (st.motion.last.getD .b) = false →
           run = .next (s.put (seen.command (st.motion.last.getD .b)).1)) ∧
         (¬shut ∨ st.motion.state ≠ .stalled ∨ st.motion.cause ≠ some .interlock →
           run = .next (s.put seen)))) ∧
     (st.motion.state ≠ .resting .a → ¬comes → close = .next (s.put zeroed)) ∧
     (st.motion.state = .resting .a → st.hatch.position < st.cfg.posOut - 16 →
       close = .next (s.put zeroed)) ∧
     (st.motion.state = .resting .a → st.cfg.posOut - 16 ≤ st.hatch.position →
       0 < st.cfg.posOut - 16 → st.motion.coilA = false → st.motion.coilB = false →
       st.motion.dead = none → st.flapBlocks = false →
       close = .next (s.put (zeroed.onMotion fun m =>
         { m with
           state := .moving .a, cause := none, coilA := true
           travel := some (ticksOfSec st.cfg.drawerTravel) }))) ∧
     (comes → x.state ≠ .handed → x.state ≠ .aborted → x.state ≠ .returning →
       close = .next (s.put rests)) ∧
     (comes → x.state = .handed ∨ x.state = .aborted →
       close = .next (s.put (rests.onSession fun _ => .idle))) ∧
     (∀ j, comes → x.state = .returning → x.job = some j → x.direction = some .inbound →
       x.manifest ≠ [] → (x.manifest.map ManifestItem.cart).Nodup →
       let stays := st.hatch.expected.filter fun e => x.manifest.all fun m => decide (m.cart ≠ e.cart)
       let filed : Station := { rests with
         hatch := { rests.hatch with
           custody := st.hatch.custody ++ x.manifest.map fun m =>
             { cart := m.cart, job := j, state := .heldInbound
               dest := (st.hatch.expected.find? fun e => decide (e.cart = m.cart)).map (·.dest) }
           custodyCheck := 0, expected := stays, expectedCheck := 0 } }
       close = .next (s.put ((filed.hand .hatch 255 (.handover
         { job := j, direction := 1, handed := BitVec.ofNat 8 x.manifest.length
           remaining := BitVec.ofNat 8 (stays.filter fun e => decide (e.job = j)).length
           outcome := 0, reason := none })).onSession fun _ => .idle))) ∧
     (∀ j, comes → x.state = .returning → x.job = some j → x.direction = some .inbound →
       x.manifest = [] →
       close = .next (s.put ((rests.hand .hatch 255 (.handover
         { job := j, direction := 1, handed := 0
           remaining := BitVec.ofNat 8 (st.hatch.expected.filter fun e => decide (e.job = j)).length
           outcome := 0, reason := none })).onSession fun _ => .idle))) ∧
     (st.motion.state ≠ .resting .b → opened = .next (s.put left)) ∧
     (st.motion.state = .resting .b → st.motion.coilA = false → st.motion.coilB = false →
       st.motion.dead = none → st.pins.innerFlapOpen = false → st.pins.outerFlapOpen = false →
       opened = .next (s.put (left.onMotion fun m =>
         { m with
           state := .moving .b, cause := none, coilB := true
           travel := some (ticksOfSec st.cfg.drawerTravel) }))) ∧
     (st.motion.state = .resting .b → st.motion.coilA = false → st.motion.coilB = false →
       st.motion.dead.isSome →
       opened = .next (s.put (left.onMotion fun m =>
         { m with state := .moving .b, cause := none, travel := none }))) ∧
     (st.motion.state = .resting .b → st.motion.coilA = false → st.motion.coilB = false →
       st.motion.dead = none → st.flapBlocks = true → x.state.active = false →
       opened = .next (s.put (left.onMotion fun m =>
         { m with state := .stalled, cause := some .interlock, travel := none }))))

/-! ### Chapter 10: the peer view -/

/-- R165 to R169, R57: what peers' messages and their silence do to the records. A STATUS with a
known fire state writes the whole record; a FIRE-REPORT its fire fields, the others kept, or from a
station UNHEARD or LOST absent with the interval 10 s; any other message refreshes it; a neighbour's
is then tested for the confirmation. PEER_SILENT takes an ALIVE record whose heard age has reached
three of the peer's beacon intervals to SILENT, PEER_LOST one, ALIVE or SILENT, whose age has
reached ten to LOST; before that threshold neither changes anything (log entry 7). -/
def Obligations.PeerMessages : Prop :=
  (∀ (s : Machine.State) (src : Addr), s.station.hearsPeer src →
    let st := s.station
    let heard := st.modifyPeer src Peer.refresh
    let tested (x : Station) : Host.Outcome _ _ _ :=
      .next (s.put (if src ∈ st.peers.neighbours ∧ x.confirmed = false ∧ x.confirmationHolds = true
        then x.confirm else x))
    (∀ (body : StatusBody) (f : FireState),
      (9 ≤ body.fire.toNat → Machine.exec (.status src body) s = .next (s.put heard)) ∧
      (f.code = body.fire → Machine.exec (.status src body) s = tested (st.modifyPeer src fun _ =>
        .alive
          { age := 0
            interval := if body.interval.toNat < 1 then 1
              else if 10 < body.interval.toNat then 10 else body.interval.toNat
            roleDemand := some (body.role, body.demand.toNat), fire := some (f, 0) }))) ∧
    (∀ (body : FireReportBody) (f : FireState),
      (9 ≤ body.fire.toNat → Machine.exec (.fireReport src body) s = .next (s.put heard)) ∧
      (f.code = body.fire → Machine.exec (.fireReport src body) s
        = tested (st.modifyPeer src fun p => match p with
            | .alive d => .alive { d with age := 0, fire := some (f, 0) }
            | .silent d => .alive { d with age := 0, fire := some (f, 0) }
            | .unheard | .lost =>
              .alive { age := 0, interval := 10, roleDemand := none, fire := some (f, 0) }))) ∧
    (∀ body : AlertBody, Machine.exec (.custodyAlert src body) s = .next (s.put heard)) ∧
    (∀ body : HandoverBody, Machine.exec (.handover src body) s = .next (s.put heard))) ∧
  (∀ (d : PeerData) (p : Peer), (p = .unheard ∨ p = .lost →
      p.refresh = .alive { age := 0, interval := 10, roleDemand := none, fire := none }) ∧
    (p = .alive d ∨ p = .silent d → p.refresh = .alive { d with age := 0 })) ∧
  ∀ (s : Machine.State) (a : Addr) (p : Peer), s.station.running = true →
    s.station.peers.records[a.toNat]? = some p →
    let becomes (p : Peer) : Host.Outcome _ _ _ := .next (s.put { s.station with
      peers := { s.station.peers with records := s.station.peers.records.set a.toNat p } })
    let silent := Machine.exec (.peerSilent a) s
    let lost := Machine.exec (.peerLost a) s
    (∀ d, p = .alive d →
      (3 * d.interval * 125000 ≤ d.age → silent = becomes (.silent d)) ∧
      (d.age < 3 * d.interval * 125000 → silent = .next s)) ∧
    (∀ d, p = .silent d → silent = .next s) ∧
    (∀ d, p = .alive d ∨ p = .silent d →
      (10 * d.interval * 125000 ≤ d.age → lost = becomes .lost) ∧
      (d.age < 10 * d.interval * 125000 → lost = .next s)) ∧
    (p = .unheard ∨ p = .lost → silent = .next s ∧ lost = .next s)

/-! ### Chapter 11: the vault line -/

/-- R178, R179, R180 step 1, R182: what is handed to the line interface outside JOINED is discarded;
with room it joins at the end under the next sender sequence, a FIRE message as well, and an OFFER
or ARRIVE loads the reply timer of its entry (R126, R129); a CUSTODY message finding 16 queued stays
pending. A FIRE-REPORT replaces a queued one, and a FIRE message finding 16 displaces the newest
ROUTINE message, or with none the newest CUSTODY one, which is pending again ahead of all others. A
place that frees is offered to a displaced message first, and else to the first pending one where no
damage report was made earlier. At the beacon's expiry a STATUS is composed, which replaces a queued
one, joins, or is dropped by a full queue. An attempt at a message that is replaced or displaced
stops, no failure counted and no backoff due. A message that joins while the line is idle and no
attempt is under way brings the selection at once: the message chosen waits its access delay from
that moment. In LINE-FAULT nothing is selected that an expiry does not permit. One pending list for
all blocks is the model's form (log entry 10), and a backoff that was due before the stop is due no
longer (log entry 22). R83, R95: an alert of the door unit or the slot table is discarded while 256
of its block's alerts are pending, a displaced DAMAGED-RECORD alert not counted, and else handed on
to ALL. -/
def Obligations.QueueTakesMessages : Prop :=
  let chosen (st : Station) (l : Line) : Line :=
    let own := st.loader.own.toNat
    let base (g : Group) : Nat := match g with | .fire => 0 | .custody => 2 | .routine => 4
    if l.idle = true ∧ l.attempt = .none ∧ (l.state = .normal ∨ l.permit = true) then
      match l.choose st.cfg.txOrder with
      | some q => { l with
          attempt := .waiting q.made
            ((base q.body.group + own % 8) * 8 + if l.backoff then (own + 1) * 8 else 0)
          permit := false }
      | none => l
    else l
  let timed (x : Transfers) (b : Body) : Transfers :=
    match b.timedTid with
    | some t => { x with
        entries := x.entries.map fun e =>
          if e.tid = t ∧ (e.state = .offered ∨ e.state = .arrived)
          then { e with reply := some 125000 } else e }
    | none => x
  (∀ (st : Station) (k : Blk) (dest : Addr) (b : Body),
    (st.joined = false → st.hand k dest b = st ∧ st.handFire b = st) ∧
    (st.Quiet 1 → b.timedTid = none → st.hand k dest b = st.post k dest b) ∧
    (st.joined = true → st.line.pend = [] → (∀ sl ∈ st.table.slots, ∀ m, sl.damage ≠ .pending m) →
      st.line.queue.length < 16 → st.hand k dest b = { st with
        xfer := timed st.xfer b, line := chosen st (st.line.post k dest b) }) ∧
    (st.joined = true → 16 ≤ st.line.queue.length → st.hand k dest b = { st with
      line := { st.line with
        made := st.line.made + 1
        pend := st.line.pend ++
          [{ made := st.line.made, blk := k, dest := dest, body := b }] } })) ∧
  (∀ (st : Station) (front rest : List QMsg) (q : QMsg) (b : Body),
    st.joined = true → st.line.queue = front ++ q :: rest →
    (∀ x ∈ front ++ rest, x.made ≠ q.made) → b.group = .fire →
    let new : QMsg :=
      { made := st.line.made, blk := .suppression, dest := 255, seq := st.line.seq + 1, body := b }
    let l := st.line
    let stopped := l.attempt.message = some q.made
    let swapped (pend : List Pend) : Station := { st with
      line := chosen st { l with
        queue := front ++ rest ++ [new], pend := pend, seq := l.seq + 1, made := l.made + 1
        attempt := if stopped then .none else l.attempt
        backoff := if stopped then false else l.backoff } }
    (b.isFireReport = true → q.body.isFireReport = true →
      (∀ x ∈ front, x.body.isFireReport = false) → st.handFire b = swapped l.pend) ∧
    (l.queue.length = 16 → (b.isFireReport = true → st.noReport) →
      (q.body.isStatus = true → (∀ x ∈ rest, x.body.isStatus = false) →
        st.handFire b = swapped l.pend) ∧
      (q.body.group = .custody → (∀ x ∈ rest, x.body.group ≠ .custody) →
        (∀ x ∈ l.queue, x.body.isStatus = false) →
        st.handFire b = swapped
          ({ made := q.made, blk := q.blk, dest := q.dest, body := q.body, again := true }
            :: l.pend)))) ∧
  (∀ (st : Station) (b : Body), st.joined = true →
    st.line.queue.length < 16 → (b.isFireReport = true → st.noReport) →
    st.handFire b = { st with line := chosen st (st.line.post .suppression 255 b) }) ∧
  (∀ (st : Station) (p : Pend) (rest : List Pend), st.joined = true →
    st.line.queue.length = 15 → st.line.pend = p :: rest →
    (p.again = true ∨ ∀ sl ∈ st.table.slots, ∀ m, sl.damage = .pending m → p.made ≤ m) →
    st.offerPlaces = { st with
      xfer := timed st.xfer p.body
      line := chosen st { st.line with
        pend := rest, seq := st.line.seq + 1
        queue := st.line.queue ++ [{ made := p.made, blk := p.blk, dest := p.dest
                                     seq := st.line.seq + 1, body := p.body }] } }) ∧
  ∀ s : Machine.State, s.station.joined = true →
    (s.station.cfg.role = .bay → s.station.damageReported) →
    let st := s.station
    let l := st.line
    let run := Machine.exec .beaconExpiry s
    let beacon := some (ticksOfSec st.cfg.beacon)
    let new : QMsg :=
      { made := l.made, blk := .line, dest := 255, seq := l.seq + 1, body := .status st.statusBody }
    (l.beacon = none → run = .next s) ∧
    (l.beacon.isSome → (∀ x ∈ l.queue, x.body.isStatus = false) →
      (16 ≤ l.queue.length →
        run = .next (s.put { st with line := chosen st { l with beacon := beacon } })) ∧
      (l.queue.length < 16 → run = .next (s.put { st with
        line := chosen st { l with
          beacon := beacon, queue := l.queue ++ [new], seq := l.seq + 1, made := l.made + 1 } }))) ∧
    (∀ (front rest : List QMsg) (q : QMsg), l.beacon.isSome → l.queue = front ++ q :: rest →
      q.body.isStatus = true → (∀ x ∈ front, x.body.isStatus = false) →
      (∀ x ∈ front ++ rest, x.made ≠ q.made) →
      let stopped := l.attempt.message = some q.made
      run = .next (s.put { st with
        line := chosen st { l with
          beacon := beacon, queue := front ++ rest ++ [new], seq := l.seq + 1
          made := l.made + 1
          attempt := if stopped then .none else l.attempt
          backoff := if stopped then false else l.backoff } })) ∧
    (∀ (k : Blk) (a : AlertBody),
      let held := (l.pend.filter fun p => match p.body with
        | .custodyAlert b => decide (p.blk = k) && decide (b.kind ≠ 3)
        | _ => false).length
      (256 ≤ held → st.handAlert k a = st) ∧
      (held < 256 → st.handAlert k a = st.hand k 255 (.custodyAlert a)))

/-- R17, R21, R30, R52, R74, R84, R104, R163: what a STATUS says, each item as it stands: the fire
state by its code, zone latches, release lock and role; the trouble items; the sealed and
neighbour-seal flags; at a BAY the filtered RH (absent in SENSOR-FAULT), the excursion status, the
occupancy, the demand, 0 while forced safe, and the free slots; at a HATCH the custody count and
none of these. A composed STATUS carries this body: the transmit queue's statement. R55: a
FIRE-REPORT carries the fire state, both zone latches, the manual flag and the release lock; where
none is queued and the queue has room it joins at the end.

R188: the four status lines by start state: all on in LOADING and SELFTEST, line 3 alone in LISTEN,
line 0 for 1 s of every 2 s in JOINED, the code in FAULT, 6 in CLASH; none is driven without supply
or under the reset line. That the blink begins at entry into JOINED, with its second on, is the
model's choice (log entry 25). R96: the lamp of a slot: flashing while the transfer engine asks so;
else on while the transfer engine, the pull queue's LIT entry or the audit's cursor asks so; else
off. A request of the transfer engine changes that slot's lamp alone; that it takes the place of its
earlier one is the model's choice (log entry 18). -/
def Obligations.StatusAndOutputs : Prop :=
  ((∀ st : Station,
     let b := st.statusBody
     let code : Nat := match st.supp.fire with
       | .normal => 0 | .prealarm => 1 | .evacuate => 2 | .countdown => 3 | .held => 4
       | .release => 5 | .soak => 6 | .vent => 7 | .blocked => 8
     let isFree (sl : Slot) (n : Nat) : Bool :=
       decide (sl.difference = 0) && decide (sl.record = .vacant) && !st.table.hold.held n
     b.fire.toNat = code ∧ b.zoneA = st.det.zoneA ∧ b.zoneB = st.det.zoneB ∧
     b.lock = st.supp.lock ∧ b.role = st.cfg.role ∧
     (b.loopOpen = true ↔
       ∃ n : Fin 4, (st.cfg.loop n).kind ≠ .unused ∧ (st.det.loop n).trouble = .opened) ∧
     (b.loopShort = true ↔
       ∃ n : Fin 4, (st.cfg.loop n).kind ≠ .unused ∧ (st.det.loop n).trouble = .shorted) ∧
     b.battery = st.det.battery ∧ (b.stall = true ↔ st.motion.state = .stalled) ∧
     (b.sealedFlag = true ↔ st.supp.fire = .soak ∨ st.supp.fire = .vent) ∧
     b.interval = BitVec.ofNat 8 st.cfg.beacon ∧
     (st.cfg.role = .bay →
       (b.sensorFault = true ↔ st.moist.status = .sensorFault) ∧
       (b.neighbourSeal = true ↔ st.air.sealTimer ≠ none) ∧
       (st.moist.status = .sensorFault → b.filtered = none) ∧
       (st.moist.status ≠ .sensorFault → b.filtered = st.moist.filtered.map (BitVec.ofNat 16)) ∧
       b.excursion = st.moist.status ∧
       b.occupancy = BitVec.ofNat 4 st.door.occupancy.length ∧
       (st.air.forcedSafe = true → b.demand = 0) ∧
       (st.air.forcedSafe = false → b.demand = BitVec.ofNat 8 st.air.demand) ∧
       (st.table.slots.length = 256 → b.places = BitVec.ofNat 16
         (st.table.slots.zipIdx.filter fun p => isFree p.1 p.2).length)) ∧
     (st.cfg.role = .hatch →
       b.sensorFault = false ∧ b.neighbourSeal = false ∧ b.filtered = none ∧
       b.excursion = .inBand ∧ b.occupancy = 0 ∧ b.demand = 0 ∧
       b.places = BitVec.ofNat 16 st.hatch.custody.length)) ∧
   (∀ st : Station, st.joined = true → st.line.idle = false → st.line.queue.length < 16 →
     st.noReport →
     ∃ code : BitVec 4, st.handFireReport = st.post .suppression 255 (.fireReport
         { fire := code, zoneA := st.det.zoneA, zoneB := st.det.zoneB, lock := st.supp.lock
           manual := st.supp.manual }) ∧
       code.toNat = (match st.supp.fire with
         | .normal => 0 | .prealarm => 1 | .evacuate => 2 | .countdown => 3 | .held => 4
         | .release => 5 | .soak => 6 | .vent => 7 | .blocked => 8))) ∧
  ((∀ st : Station,
     (st.live = false → st.statusLines = 0) ∧
     (st.live = true →
       (st.loader.state = .loading ∨ st.loader.state = .selftest → st.statusLines = 15) ∧
       (st.loader.state = .listen → st.statusLines = 8) ∧
       (∀ k r, st.loader.state = .joined → st.loader.joinedFor = 250000 * k + r →
         (r < 125000 → st.statusLines = 1) ∧
         (125000 ≤ r → r < 250000 → st.statusLines = 0)) ∧
       (st.loader.state = .fault → st.loader.faultCode ≤ 15 →
         st.statusLines.toNat = st.loader.faultCode) ∧
       (st.loader.state = .clash → st.statusLines = 6))) ∧
   (∀ (st : Station) (n : Nat),
     (st.lamp n = .flashing ↔ (n, Lamp.flashing) ∈ st.xfer.lamps) ∧
     (st.lamp n = .on ↔ (n, Lamp.flashing) ∉ st.xfer.lamps ∧
       ((n, Lamp.on) ∈ st.xfer.lamps ∨ st.pulls.lamp = some n ∨ st.audit.lamp = some n)) ∧
     (st.lamp n = .off ↔ (n, Lamp.flashing) ∉ st.xfer.lamps ∧ (n, Lamp.on) ∉ st.xfer.lamps ∧
       st.pulls.lamp ≠ some n ∧ st.audit.lamp ≠ some n)) ∧
   (∀ (st : Station) (n : Nat) (l : Lamp),
     (∀ m, m ≠ n → (st.askLamp n l).lamp m = st.lamp m) ∧
     (l ≠ .off → (st.askLamp n l).lamp n = l) ∧
     (l = .off → st.pulls.lamp ≠ some n → st.audit.lamp ≠ some n →
       (st.askLamp n l).lamp n = .off) ∧
     (l = .off → st.pulls.lamp = some n ∨ st.audit.lamp = some n →
       (st.askLamp n l).lamp n = .on)))

/-- R180, R181: an attempt. At the idle point a queue that is not empty gives a choice: the oldest
FIRE message, or the oldest of the group TX_ORDER puts first, and waits its access delay; a
character during the wait ends it; at its end the frame is sent; a success takes the message out and
clears failures and backoff, a failure counts and makes a backoff due, and the sixteenth brings
LINE-FAULT, where each expiry permits one attempt, made from that moment where the line is idle
already; an expiry that finds an attempt under way or the queue empty permits none (log entry 22,
the model's). Whether the line is idle, and the frame sent whole that its readback has yet to show,
are fields of the model (log entry 13). -/
def Obligations.LineAttempts : Prop :=
  (∀ (l : Line) (order : TxOrder), l.choose order = none ↔ l.queue = []) ∧
  (∀ (l : Line) (order : TxOrder) (q : QMsg), l.choose order = some q →
    q ∈ l.queue ∧
    ((∃ x ∈ l.queue, x.body.group = .fire) → q.body.group = .fire) ∧
    ((∀ x ∈ l.queue, x.body.group ≠ .fire) →
      (order = .custodyFirst → (∃ x ∈ l.queue, x.body.group = .custody) →
        q.body.group = .custody) ∧
      (order = .routineFirst → (∃ x ∈ l.queue, x.body.group = .routine) →
        q.body.group = .routine)) ∧
    ∃ front rest, l.queue = front ++ q :: rest ∧ ∀ x ∈ front, x.body.group ≠ q.body.group) ∧
  ∀ s : Machine.State, s.station.joined = true →
    let st := s.station
    let l := st.line
    let put (l : Line) : Host.Outcome Machine.State Machine.Fault Machine.Refusal :=
      .next (s.put { st with line := l })
    let own := st.loader.own.toNat
    let base (g : Group) : Nat := match g with | .fire => 0 | .custody => 2 | .routine => 4
    let delay (g : Group) : Ticks :=
      (base g + own % 8) * 8 + if l.backoff then (own + 1) * 8 else 0
    let failures := min 16 (l.failures + 1)
    (l.attempt ≠ .none ∨ l.choose st.cfg.txOrder = none ∨ (l.state = .lineFault ∧ l.permit = false) →
      Machine.exec .lineIdle s = put { l with idle := true }) ∧
    (∀ q, l.attempt = .none → l.choose st.cfg.txOrder = some q → l.state = .normal ∨ l.permit = true →
      Machine.exec .lineIdle s = put { l with
        idle := true, attempt := .waiting q.made (delay q.body.group), permit := false }) ∧
    (∀ m n, l.attempt = .waiting m n →
      Machine.exec .characterDuringWait s = put { l with idle := false, attempt := .none } ∧
      (∀ q, l.queue.find? (fun q => decide (q.made = m)) = some q →
        Machine.exec .accessDelayExpiry s = put { l with
          idle := false, echo := none
          attempt := .sending m (frameOf
            { dest := q.dest, src := st.loader.own, seq := q.seq, body := q.body }) })) ∧
    ((∀ m n, l.attempt ≠ .waiting m n) →
      Machine.exec .characterDuringWait s = put { l with idle := false } ∧
      Machine.exec .accessDelayExpiry s = .next s) ∧
    (∀ m bytes, l.attempt = .sending m bytes →
      (l.state = .lineFault ∨ failures ≠ 16 → Machine.exec .readbackFailure s = put { l with
        attempt := .none, failures := failures, backoff := true }) ∧
      (l.state = .normal → failures = 16 → Machine.exec .readbackFailure s = put { l with
        attempt := .none, failures := 16, backoff := true, state := .lineFault
        faultTimer := some (ticksOfSec 1) }) ∧
      (st.loader.restartWait.map RestartWait.made ≠ some m →
        Machine.exec .transmitSuccess s = .next (s.put ({ st with
          line := { l with
            queue := l.queue.filter fun q => decide (q.made ≠ m)
            attempt := .none, failures := 0, backoff := false, permit := false, state := .normal
            faultTimer := if l.state = .lineFault then none else l.faultTimer
            echo := some bytes }
          } : Station).offerPlaces))) ∧
    ((∀ m bytes, l.attempt ≠ .sending m bytes) →
      Machine.exec .readbackFailure s = .next s ∧ Machine.exec .transmitSuccess s = .next s) ∧
    (l.state = .normal ∨ l.faultTimer = none → Machine.exec .lineFaultExpiry s = .next s) ∧
    (l.state = .lineFault → l.faultTimer.isSome → l.idle = false → l.attempt = .none →
      Machine.exec .lineFaultExpiry s = put { l with
        faultTimer := some (ticksOfSec 1), permit := !l.queue.isEmpty }) ∧
    (l.state = .lineFault → l.faultTimer.isSome → l.attempt ≠ .none ∨ l.queue = [] →
      Machine.exec .lineFaultExpiry s = put { l with
        faultTimer := some (ticksOfSec 1), permit := false }) ∧
    (∀ q, l.state = .lineFault → l.faultTimer.isSome → l.idle = true → l.attempt = .none →
      l.choose st.cfg.txOrder = some q → Machine.exec .lineFaultExpiry s = put { l with
        faultTimer := some (ticksOfSec 1), permit := false
        attempt := .waiting q.made (delay q.body.group) })

/-- R174, R176, R177: a frame that has ended on the line. The own readback, while the frame is sent
or after it has been, leaves no trace but that it has been judged; nor does a frame that fails a
test of R174: its length, its stated body length, its check, its kind, or a body too short for its
kind, a REPLY that ends at the byte that says a detail follows among them. A message from the own
address is a clash; one for another station is discarded; else the source's last-heard entry takes
the message, and a duplicate or a message of the wrong class goes no further, while any other is the
command its kind is. A source above 31 is no part of it (log entry 8). That a frame equal to the one
sent last is taken as its readback, once, after the sending too, is the model's choice (log entry
13), and so is a presence byte above 1 (log entry 14). -/
def Obligations.FrameFiltered : Prop :=
  ∀ (s : Machine.State) (bytes : List Byte), s.station.running = true →
    let st := s.station
    let run := Machine.exec (.frameReceive bytes) s
    let own := st.loader.own
    let readback := (∃ k, st.line.attempt = .sending k bytes) ∨ st.line.echo = some bytes
    let least : List Nat :=
      [9, 1, 1, 6, 10, 3, 3, 2, 5, 8, 2, 7, 8, 8, 5, 4, 1, 2, 0, 0, 1, 0, 4]
    (∀ m, st.line.attempt = .sending m bytes → run = .next s) ∧
    ((∀ m, st.line.attempt ≠ .sending m bytes) → st.line.echo = some bytes →
      run = .next (s.put { st with line := { st.line with echo := none } })) ∧
    (¬readback → parseFrame bytes = none → run = .next s) ∧
    (bytes.length < 7 ∨ 47 < bytes.length → parseFrame bytes = none) ∧
    (∀ (d a k q len hi lo : Byte) (body : List Byte),
      bytes = [d, a, k, q, len] ++ body ++ [hi, lo] →
      len.toNat ≠ body.length ∨ hi ++ lo ≠ lineCheck ([d, a, k, q, len] ++ body)
        ∨ k = 0 ∨ 23 < k.toNat ∨ (∃ n, least[k.toNat - 1]? = some n ∧ body.length < n)
        ∨ (k = 23 ∧ ∃ x y z p, body = [x, y, z, p] ∧ p ≠ 0) →
      parseFrame bytes = none) ∧
    (∀ m, parseFrame bytes = some m → ¬readback →
      (m.src = own →
        (st.loader.state = .clash → run = .next s) ∧
        (st.loader.state ≠ .clash → run = .next (s.put ({ st with
          loader := { st.loader with state := .clash, listenTimer := none, restartWait := none }
          line := { st.line with
            queue := [], pend := [], attempt := .none, permit := false, beacon := none
            faultTimer := none } } : Station).pullsChanged))) ∧
      (m.src ≠ own → m.dest ≠ own → m.dest ≠ 255 → run = .next s) ∧
      (m.src ≠ own → m.dest = own ∨ m.dest = 255 →
        let heard : Station := { st with
          line := { st.line with
            lastHeard := st.line.lastHeard.set m.src.toNat (some (m.seq, st.now)) } }
        let again := ∃ at', st.line.lastHeard[m.src.toNat]? = some (some (m.seq, at')) ∧
          st.now - at' < 125000
        (again → run = .next (s.put heard)) ∧
        (m.src.toNat < 24 → m.body.isRequest = true → run = .next (s.put heard)) ∧
        (24 ≤ m.src.toNat → m.src.toNat ≤ 31 → m.body.isRequest = false →
          run = .next (s.put heard)) ∧
        (24 ≤ m.src.toNat → m.src.toNat ≤ 31 → m.dest = 255 → m.body.isCheckout = false →
          run = .next (s.put heard)) ∧
        (¬again → (m.src.toNat < 24 ∧ m.body.isRequest = false) ∨
            (24 ≤ m.src.toNat ∧ m.src.toNat ≤ 31 ∧ m.body.isRequest = true ∧
              (m.dest ≠ 255 ∨ m.body.isCheckout = true)) →
          (∀ i, m.command = some i → run = Machine.exec i (s.put heard)) ∧
          (m.command = none → run = .next (s.put (heard.modifyPeer m.src Peer.refresh))))))

/-- R174, R175, R182, R183: a frame reads back as the message it was made of, for every message a
frame can carry, with every field at every value; and the STATUS byte layout of R182. What R183
leaves open in the coding is the model's choice (log entry 14). -/
def Obligations.FramesReadBack : Prop :=
  (∀ m : RxMsg, m.body.carried → parseFrame (frameOf m) = some m) ∧
  ∀ b : StatusBody, ∃ b0 b1 b2 b4 b5 b6 b7 : Byte,
    (Body.status b).bytes = [b0, b1, b2, b.demand, b4, b5, b6, b7, b.interval] ∧
    b0.extractLsb' 0 4 = b.fire ∧ b0.getLsbD 4 = b.zoneA ∧ b0.getLsbD 5 = b.zoneB ∧
    b0.getLsbD 6 = b.lock ∧ (b0.getLsbD 7 = true ↔ b.role = .hatch) ∧
    b1.getLsbD 0 = b.loopOpen ∧ b1.getLsbD 1 = b.loopShort ∧ b1.getLsbD 2 = b.battery ∧
    b1.getLsbD 3 = b.stall ∧ b1.getLsbD 4 = b.sensorFault ∧ b1.getLsbD 5 = b.sealedFlag ∧
    b1.getLsbD 6 = b.neighbourSeal ∧ b1.getLsbD 7 = b.filtered.isSome ∧
    b2.extractLsb' 0 4 = b.occupancy ∧
    (b2.extractLsb' 4 2).toNat = (match b.excursion with
      | .inBand => 0 | .high => 1 | .low => 2 | .sensorFault => 3) ∧
    b2.extractLsb' 6 2 = 0 ∧
    b4.toNat * 256 + b5.toNat = (b.filtered.getD 0).toNat ∧
    b6.toNat * 256 + b7.toNat = b.places.toNat

/-! ### Chapter 12: starts -/

/-- R18, R38, R39, R53, R75, R85, R105, R110, R124, R146, R164, R173, R184, R189: what a start makes
of every block, as an equation: the volatile state of its start table, the retained collections as
they were, the motion channel as its end switches read, and the release lock kept, or clear after
power-up. The reset line and the loss of the supply hold every output off, and cut a release pulse
short with the lock set; as equations too, so that all else stays. What a power-up finds decayed is
the model's operand (log entry 2). The order of the supply and the reset line, and the role by which
the switches are read before the image is, is the model's reading (log entry 15); what an idle audit
holds besides is its choice (log entry 23).

R189: a RESTART, by the table of R189. An accepted one is answered DONE and waits for that reply to
leave, or 2 s; one accepted while a restart waits adds no second wait. That one wait stands at a
time is the model's reading (log entry 15). -/
def Obligations.StartsBeginAfresh : Prop :=
  ((∀ (st : Station) (k : StartKind),
     let fresh : Loop :=
       { band := none, alarmRun := 0, latched := false, trouble := .none, troubleRun := 0 }
     st.beginStart k = { st with
       loader := { st.loader with
         state := .loading, faultCode := 0, startKind := k, listenTimer := none
         restartWait := none, joinedFor := 0 }
       moist :=
         { capturing := false, latest := .absent, temp := 250, raw := none, filtered := none
           faultRun := 0, status := .inBand, delay := none, slotTimer := none }
       air :=
         { demand := 0, airShare := 0, staged := 0, applied := 0, period := none, onTimer := none
           valve := false, forcedSafe := false, sealTimer := none }
       motion :=
         { state := match st.cfg.role, st.pins.closedEnd, st.pins.openEnd, st.pins.innerEnd with
             | .bay, true, _, _ => .resting .b
             | .bay, false, true, _ => .resting .a
             | .bay, false, false, _ => .stalled
             | .hatch, _, _, true => .resting .b
             | .hatch, _, _, false => .stalled
           last := none, coilA := false, coilB := false, dead := some 62500, travel := none
           cause := none }
       det :=
         { loop0 := fresh, loop1 := fresh, loop2 := fresh, loop3 := fresh, zoneA := false
           zoneB := false, battery := false, batteryRun := 0, scanCount := 0, longScan := false
           channel := none, scanTimer := none }
       supp :=
         { fire := .normal, manual := false, evacuation := none, countdown := none, pulse := none
           soak := none
           lock := match k with
             | .powerUp => false
             | .resetLine => st.supp.lock || st.supp.release
           holdClosed := false, holdFilter := none, sounder := false, warning := false
           release := false, exhaust := false }
       door := { st.door with unlock := none, output := false }
       table := { st.table with
         slots := st.table.slots.map fun sl =>
           { sl with debounced := none, last := none, damage := .none }
         keyOn := false, keyFilter := none, minute := none, scanTimer := none }
       pulls := { st.pulls with lamp := none }
       audit :=
         { state := .idle, first := 0, last := 0, cursor := none, finding := none
           strayPending := false, checked := 0, repaired := 0, mismatched := 0, requester := 0
           reqSeq := 0, step := none, lamp := none }
       xfer := { st.xfer with
         entries := st.xfer.entries.map fun e => { e with reply := none }
         claims := [], lamps := [] }
       hatch := { st.hatch with
         session :=
           { state := .idle, job := none, direction := none, timer := none, manifest := []
             reason := none }
         position := 0, refA := st.pins.phaseA, refB := st.pins.phaseB
         sendTimer := none, doneTimer := none }
       peers := { records := List.replicate 24 .unheard, neighbours := [] }
       line :=
         { state := .normal, queue := [], pend := [], made := st.line.made, failures := 0
           backoff := false, seq := 0, lastHeard := List.replicate 32 none, beacon := none
           faultTimer := none, attempt := .none, permit := false, idle := false
           echo := none } }) ∧
   (∀ s : Machine.State,
     let st := s.station
     let released : Station := { st with loader := { st.loader with resetAsserted := false } }
     let off : Station := { st with
       air := { st.air with valve := false, onTimer := none }
       motion := { st.motion with
         coilA := false, coilB := false, travel := none
         dead := if st.motion.coilA || st.motion.coilB then some 62500 else st.motion.dead }
       supp := { st.supp with
         lock := st.supp.lock || st.supp.release, pulse := none, sounder := false
         warning := false, release := false, exhaust := false }
       door := { st.door with output := false, unlock := none }
       pulls := { st.pulls with lamp := none }
       audit := { st.audit with lamp := none }
       xfer := { st.xfer with lamps := [] }
       line := { st.line with attempt := .none } }
     Machine.exec .resetLineAssert s
       = .next (s.put { off with loader := { st.loader with resetAsserted := true } }) ∧
     Machine.exec .powerLoss s
       = .next (s.put { off with loader := { st.loader with powered := false } }) ∧
     (∀ n, off.lamp n = .off) ∧
     (st.loader.powered = true →
       Machine.exec .resetLineRelease s = .next (s.put (released.beginStart .resetLine))) ∧
     (st.loader.powered = false → Machine.exec .resetLineRelease s = .next (s.put released)) ∧
     (∀ decay : List Decay,
       let left := decay.foldl Station.decay st
       Machine.exec (.powerUp decay) s = .next (s.put
         (({ left with loader := { left.loader with powered := true } } : Station).beginStart
           .powerUp))) ∧
     (∀ x : BitVec 16,
       st.decay .marker = { st with retention := { st.retention with markerGood := false } } ∧
       st.decay (.collection .pullQueue x)
         = { st with pulls := { st.pulls with check := st.pulls.check ^^^ x } } ∧
       st.decay (.collection .transferTable x)
         = { st with xfer := { st.xfer with check := st.xfer.check ^^^ x } } ∧
       st.decay (.collection .custodyList x)
         = { st with hatch := { st.hatch with custodyCheck := st.hatch.custodyCheck ^^^ x } } ∧
       st.decay (.collection .expectedList x)
         = { st with hatch := { st.hatch with expectedCheck := st.hatch.expectedCheck ^^^ x } } ∧
       st.decay (.collection .occupancyList x)
         = { st with door := { st.door with check := st.door.check ^^^ x } } ∧
       (∀ n sl, st.table.slots[n]? = some sl →
         (st.decay (.slotRecord n x)).table.slots
           = st.table.slots.set n { sl with difference := sl.difference ^^^ x })) ∧
     (st.joined = true → st.loader.restartWait.isSome →
       Machine.exec .restartTimerExpiry s = .next (s.put (st.beginStart .resetLine))) ∧
     (st.joined = false ∨ st.loader.restartWait = none →
       Machine.exec .restartTimerExpiry s = .next s ∧ Machine.exec .restartStart s = .next s) ∧
     (∀ w, st.joined = true → st.loader.restartWait = some w →
       (∃ q ∈ st.line.queue, q.made = w.made) →
       Machine.exec .restartStart s = .next (s.put (st.beginStart .resetLine))))) ∧
  (∀ (s : Machine.State) (src : Addr) (seq : Byte), s.station.hearsConsole src →
     let st := s.station
     let run := Machine.exec (.restart src seq) s
     let waiting : RestartWait := { made := st.line.made, timer := some (ticksOfSec 2) }
     (st.loader.state = .clash → run = .next s) ∧
     (st.joined = false → run = .next s) ∧
     (st.joined = true →
       (st.confirmed = true → run = .next (s.put (st.reply .loader src 22 seq .busy))) ∧
       (st.confirmed = false →
         (st.loader.restartWait = none → run = .next (s.put (({ st with
           loader := { st.loader with restartWait := some waiting } } : Station).reply .loader src 22
             seq .done))) ∧
         (st.loader.restartWait.isSome →
           run = .next (s.put (st.reply .loader src 22 seq .done))))))

/-- R185, R188: the straps and the image, tested in the order of R185, in LOADING alone; the first
failure ends the start in FAULT with its code, and a start that passes installs the record and is in
SELFTEST. An image passes exactly where every field without a default is set and every field set
lies in its range, MINPULSE within the smaller of 5,000 ms and a quarter of VALVE_PERIOD, P100 at
least P0 + 1,000; the record's fields are then the image's, or their defaults. The number coding of
the lists is the model's choice (log entry 9). -/
def Obligations.ImageJudged : Prop :=
  (∀ (s : Machine.State) (straps : BitVec 5) (r : ImageRead),
    let st := s.station
    let run := Machine.exec (.imageReadComplete straps r) s
    let fault (code : Nat) : Host.Outcome _ _ _ :=
      .next (s.put { st with loader := { st.loader with state := .fault, faultCode := code } })
    (st.live = false ∨ st.loader.state ≠ .loading → run = .next s) ∧
    (st.live = true → st.loader.state = .loading →
      (r.answered = false → run = fault 1) ∧
      (r.answered = true → r.checkOk = false → run = fault 2) ∧
      (r.answered = true → r.checkOk = true →
        (r.image.check = none → run = fault 3) ∧
        (∀ c, r.image.check = some c →
          (24 ≤ straps.toNat → run = fault 5) ∧
          (straps.toNat ≤ 23 → ∃ v : PeerView, run = .next (s.put { st with
              loader := { st.loader with state := .selftest, own := straps.setWidth 8, cfg := c }
              peers := v }) ∧
            v.records = st.peers.records ∧ v.neighbours.Nodup ∧
            ∀ a, a ∈ v.neighbours ↔ a ∈ c.neighbours ∧ a ≠ straps.setWidth 8))))) ∧
  (∀ i : RawImage,
    let within (lo hi : Nat) (x : Option Nat) : Prop := ∃ n, x = some n ∧ lo ≤ n ∧ n ≤ hi
    let unlessSet (lo hi : Nat) (x : Option Nat) : Prop := ∀ n, x = some n → lo ≤ n ∧ n ≤ hi
    let looped (l : RawLoop) : Prop := unlessSet 0 3 l.kind ∧ unlessSet 0 1 l.zone
    (i.check ≠ none ↔
      within 0 1 i.role ∧ within 0 1023 i.batteryLow ∧ within 8000 60000 i.p0 ∧
      within 200 700 i.sp ∧ within 10 100 i.band ∧ within 0 100 i.db ∧ within 1 255 i.gain ∧
      within 0 600 i.excDelay ∧ within 0 255 i.fallbackDemand ∧ within 1 4095 i.capacity ∧
      within 1 4095 i.cap ∧ within 1 4095 i.vfull ∧ within 4 60 i.valvePeriod ∧
      within 5 60 i.damperTravel ∧ within 5 60 i.drawerTravel ∧ within 1 65535 i.expoLimit ∧
      within 0 10080 i.acclim ∧ within 256 4000 i.posOut ∧ within 0 8 i.holdExtent ∧
      within 0 1 i.holdEnd ∧ within 0 1 i.holdComplement ∧ within 0 2 i.holdMode ∧
      unlessSet 1 10 i.beacon ∧ unlessSet 10 300 i.confWin ∧ unlessSet 30 600 i.evacLimit ∧
      unlessSet 10 60 i.predischarge ∧ unlessSet 1 10 i.releasePulse ∧
      unlessSet 10 120 i.soakTime ∧ unlessSet 60 3600 i.transitLimit ∧
      unlessSet 60 1800 i.sessionLimit ∧ unlessSet 60 1800 i.auditStepLimit ∧
      unlessSet 1 15 i.doorPulse ∧ unlessSet 0 1 i.txOrder ∧ looped i.loop0 ∧ looped i.loop1 ∧
      looped i.loop2 ∧ looped i.loop3 ∧
      (∃ n m, i.p0 = some n ∧ i.p100 = some m ∧ n + 1000 ≤ m ∧ m ≤ 65000) ∧
      (∃ n m, i.valvePeriod = some n ∧ i.minPulse = some m ∧ 100 ≤ m ∧ m ≤ 5000 ∧ m ≤ n * 250) ∧
      (∃ n, i.k = some n ∧ -64 ≤ n ∧ n ≤ 63) ∧
      (∃ n, i.alphaDiv = some n ∧ (n = 1 ∨ n = 2 ∨ n = 4 ∨ n = 8 ∨ n = 16)) ∧
      (∀ l, i.neighbours = some l → l.length ≤ 4 ∧ ∀ a ∈ l, a ≤ 23))) ∧
  ∀ (i : RawImage) (c : ConfigRecord), i.check = some c →
    let loop (l : RawLoop) : LoopConfig :=
      { kind := match l.kind.getD 0 with | 0 => .unused | 1 => .smoke | 2 => .heat | _ => .manual
        zone := if l.zone.getD 0 = 0 then .a else .b }
    c = {
      role := if i.role = some 0 then .bay else .hatch
      neighbours := (i.neighbours.getD []).map (BitVec.ofNat 8)
      txOrder := if i.txOrder.getD 0 = 0 then .custodyFirst else .routineFirst
      hold :=
        { extent := i.holdExtent.getD 0
          holdEnd := if i.holdEnd = some 0 then .low else .high
          complement := decide (i.holdComplement = some 1) }
      holdMode := if i.holdMode = some 0 then .opened
        else if i.holdMode = some 1 then .keyed else .fixed
      batteryLow := i.batteryLow.getD 0, p0 := i.p0.getD 0, sp := i.sp.getD 0,
      band := i.band.getD 0, db := i.db.getD 0, gain := i.gain.getD 0,
      excDelay := i.excDelay.getD 0, fallbackDemand := i.fallbackDemand.getD 0,
      capacity := i.capacity.getD 0, cap := i.cap.getD 0, vfull := i.vfull.getD 0,
      valvePeriod := i.valvePeriod.getD 0, damperTravel := i.damperTravel.getD 0,
      drawerTravel := i.drawerTravel.getD 0, expoLimit := i.expoLimit.getD 0,
      acclim := i.acclim.getD 0, posOut := i.posOut.getD 0, p100 := i.p100.getD 0,
      k := i.k.getD 0, alphaDiv := i.alphaDiv.getD 0, minPulse := i.minPulse.getD 0,
      beacon := i.beacon.getD 2, confWin := i.confWin.getD 60, evacLimit := i.evacLimit.getD 120,
      predischarge := i.predischarge.getD 30, releasePulse := i.releasePulse.getD 3,
      soakTime := i.soakTime.getD 20, transitLimit := i.transitLimit.getD 300,
      sessionLimit := i.sessionLimit.getD 600, auditStepLimit := i.auditStepLimit.getD 600,
      doorPulse := i.doorPulse.getD 5, loop0 := loop i.loop0, loop1 := loop i.loop1,
      loop2 := loop i.loop2, loop3 := loop i.loop3 }

/-- R186, R187, R188: SELFTEST ends in FAULT with code 4, or in LISTEN for three beacon intervals.
Retention is lost at a power-up whose marker or a check fails, and at any start under another role:
the collections are then empty and every slot record is marked for the rebuild. Else they are kept:
the occupancy list, the expected list and the transfer counter as they were; the transfer entries
with the transit timers of R146; IN-DRAWER entries HELD-OUTBOUND; the pull entries in order with LIT
made WAITING, at a BAY less those not in OUT whose slot is held (R105) or whose record is found
DAMAGED (R89); at a BAY every slot record, a DAMAGED one untouched with its report owed, a sound one
with its inspect flag set at EXPO_LIMIT, its copies from its presence, and an OUT one without a pull
entry unplanned (R105, R124). At entry into LISTEN an input at the other level begins its filter
(R64, R98), a BAY's first full scan is due at once (R91), and the lamps of PLACING and REFUSED
entries are asked for (R146), said here where no two entries name one slot (log entry 18). The
model's reading: that a station with no kept role has lost retention and that an unsettled record
stays so (log entry 15); that the start's reads find damage, where R90 names the first minute sweep
(log entry 11).

R110, R146, R182, R187, R90: entry into JOINED, step by step: the listen timer stops, the beacon
timer is loaded and the first STATUS composed; the pull queue's lighting and the suspension test;
each OFFERED entry of the transfer table, in its order, hands its OFFER again and each ARRIVED one
its ARRIVE, with attempts 0; the places left are offered to what is pending. Nothing else changes.
So, with the queue empty and the line busy, the queue holds the STATUS and then the OFFERs and
ARRIVEs in the order of the table where no damage report is PENDING and there is room, and the
STATUS and then the DAMAGED-RECORD alert where one is PENDING and nothing is handed again. -/
def Obligations.SelftestListenJoined : Prop :=
  ((∀ s : Machine.State, s.station.live = true → s.station.loader.state = .selftest →
     s.station.supp.fire = .normal →
     let st := s.station
     let lost := (st.loader.startKind = .powerUp ∧ (st.retention.markerGood = false ∨
         st.pulls.check ≠ 0 ∨ st.xfer.check ≠ 0 ∨ st.hatch.custodyCheck ≠ 0 ∨
         st.hatch.expectedCheck ≠ 0 ∨ st.door.check ≠ 0))
       ∨ st.retention.role ≠ some st.cfg.role
     Machine.exec (.selftestComplete false) s = .next (s.put { st with
       loader := { st.loader with state := .fault, faultCode := 4 } }) ∧
     ∃ t : Station, Machine.exec (.selftestComplete true) s = .next (s.put t) ∧
       t.loader.state = .listen ∧ t.loader.listenTimer = some (ticksOfSec (3 * st.cfg.beacon)) ∧
       t.cfg = st.cfg ∧ t.loader.own = st.loader.own ∧ t.det.scanTimer = some (ticksOfMs 250) ∧
       t.det.channel = some (.loop 0) ∧
       t.table.hold = st.cfg.hold ∧ t.table.mode = st.cfg.holdMode ∧
       t.table.slots.length = st.table.slots.length ∧
       (st.cfg.role = .bay → t.moist.slotTimer = some (ticksOfSec 2) ∧
         t.air.period = some (ticksOfSec st.cfg.valvePeriod) ∧
         t.table.minute = some (ticksOfSec 60) ∧ t.table.scanTimer = some 0 ∧
         t.motion.last = some (if st.air.forcedSafe then .b else .a)) ∧
       (st.cfg.role = .hatch → t.motion.last = some .b ∧ t.xfer.lamps = st.xfer.lamps) ∧
       t.supp = { st.supp with
         holdFilter := if st.pins.holdInput = st.supp.holdClosed then none else some 12500 } ∧
       (st.cfg.role = .bay → t.table.keyFilter
         = (if st.pins.keyInput = st.table.keyOn then none else some 12500)) ∧
       (∀ e ∈ t.pulls.entries, e.state ≠ .lit) ∧
       (∀ e ∈ t.hatch.custody, e.state ≠ .inDrawer) ∧
       (lost → t.pulls.entries = [] ∧ t.xfer.entries = [] ∧ t.xfer.counter = 0 ∧
         t.hatch.custody = [] ∧ t.hatch.expected = [] ∧ t.door.occupancy = [] ∧
         t.retention = { markerGood := true, role := some st.cfg.role } ∧
         ∀ sl ∈ t.table.slots, sl.record = .unsettled ∧ sl.difference = 0) ∧
       (¬lost → t.retention = st.retention ∧ t.door.occupancy = st.door.occupancy ∧
         t.hatch.expected = st.hatch.expected ∧ t.xfer.counter = st.xfer.counter ∧
         t.xfer.entries = st.xfer.entries.map (fun e =>
           { e with
             transit := if e.state = .offered ∨ e.state = .accepted ∨ e.state = .unanswered
               then .running (ticksOfSec st.cfg.transitLimit) else .stopped }) ∧
         (st.cfg.role = .bay → st.xfer.lamps = [] →
           (st.xfer.entries.filterMap XferEntry.slot).Nodup → ∀ n,
           ((n, Lamp.flashing) ∈ t.xfer.lamps ↔
             ∃ e ∈ st.xfer.entries, e.state = .refused ∧ e.slot = some n) ∧
           ((n, Lamp.on) ∈ t.xfer.lamps ↔
             ∃ e ∈ st.xfer.entries, e.state.receiving = true ∧ e.slot = some n ∧
               ∃ sl c, st.table.slots[n]? = some sl ∧ sl.difference = 0 ∧
                 sl.record = .placing c e.tid)) ∧
         t.hatch.custody = st.hatch.custody.map (fun e =>
           if e.state = .inDrawer then { e with state := .heldOutbound } else e) ∧
         let waits := st.pulls.entries.map fun e =>
           if e.state = .lit then { e with state := .waiting } else e
         (st.cfg.role = .hatch → t.pulls.entries = waits ∧ t.table.slots = st.table.slots) ∧
         (st.cfg.role = .bay → st.table.slots.length ≤ 256 →
           (∀ sl ∈ st.table.slots, sl.damage = .none) →
           (∀ e ∈ st.pulls.entries, ∃ sl c, st.table.slots[e.slot]? = some sl ∧
             sl.record.cart = some c ∧ c.id = e.cart) →
           let damaged (c : Cart) : Bool := st.table.slots.any fun sl =>
             decide (sl.difference ≠ 0) && decide (sl.record.cart.map CartData.id = some c)
           let limited (c : CartData) : CartData :=
             { c with inspect := c.inspect || decide (st.cfg.expoLimit ≤ c.exposure) }
           t.pulls.entries = waits.filter (fun e =>
             decide (e.state = .out) || !(st.cfg.hold.held e.slot || damaged e.cart)) ∧
           ∀ (n : Nat) (sl : Slot), st.table.slots[n]? = some sl →
             ∃ sl', t.table.slots[n]? = some sl' ∧ sl'.difference = sl.difference ∧
               (sl.difference ≠ 0 → sl'.record = sl.record ∧ sl'.debounced = none ∧
                 sl'.last = none ∧ ∃ m, sl'.damage = .pending m) ∧
               (sl.difference = 0 → sl'.damage = .none ∧ sl'.last = sl'.debounced ∧
                 (sl.record = .unsettled → sl'.debounced = none) ∧
                 (sl.record ≠ .unsettled → sl'.debounced = some sl.record.presence) ∧
                 (∀ c u, sl.record = .out c u → sl'.record = .out (limited c)
                   (u || t.pulls.entries.all fun e => decide (e.cart ≠ c.id))) ∧
                 ((∀ c u, sl.record ≠ .out c u) → sl'.record = sl.record.mapCart limited))))) ∧
   (∀ s : Machine.State, s.station.live = false ∨ s.station.loader.state ≠ .selftest →
     ∀ ok, Machine.exec (.selftestComplete ok) s = .next s) ∧
   (∀ s : Machine.State, s.station.live = true → s.station.loader.state = .listen →
     s.station.damageReported → s.station.line.queue = [] → s.station.line.pend = [] →
     ∃ (t : Station) (q : QMsg) (rest : List QMsg), Machine.exec .listenEnd s = .next (s.put t) ∧
       t.loader.state = .joined ∧ t.loader.listenTimer = none ∧
       t.line.beacon = some (ticksOfSec s.station.cfg.beacon) ∧
       t.line.queue = q :: rest ∧ q.body = .status s.station.statusBody ∧ q.dest = 255 ∧
       q.seq = s.station.line.seq + 1) ∧
   (∀ s : Machine.State, s.station.live = false ∨ s.station.loader.state ≠ .listen →
     Machine.exec .listenEnd s = .next s)) ∧
  (∀ s : Machine.State, s.station.live = true → s.station.loader.state = .listen →
     s.station.damageReported →
     let st := s.station
     let run := Machine.exec .listenEnd s
     let reset (x : Station) (t : Tid) : Station :=
       x.setXfers (x.xfer.entries.map fun e => if e.tid = t then { e with attempts := 0 } else e)
     let again (x : Station) (e : XferEntry) : Station :=
       match e.state with
       | .offered => (reset x e.tid).hand .transfers e.peer
           (.offer e.tid e.cart e.job (if e.direction = .outbound then 0 else 1))
       | .arrived => (reset x e.tid).hand .transfers e.peer (.arrive e.tid)
       | _ => x
     let told : Station := { st with
       loader := { st.loader with state := .joined, listenTimer := none, joinedFor := 0 }
       line := { st.line with
         beacon := some (ticksOfSec st.cfg.beacon), seq := st.line.seq + 1
         made := st.line.made + 1
         queue := [
           { made := st.line.made, blk := .line, dest := 255, seq := st.line.seq + 1
             body := .status st.statusBody }] } }
     st.line.queue = [] → st.line.pend = [] → st.line.idle = false →
     run = .next (s.put (st.xfer.entries.foldl again told.relight.suspensionTest).offerPlaces) ∧
     (st.audit.state = .idle →
       (∀ sl ∈ st.table.slots, ∀ m, sl.damage ≠ .pending m) →
       (st.xfer.entries.map XferEntry.tid).Nodup →
       let resends := st.xfer.entries.filterMap fun e =>
         match e.state with
         | .offered => some (e.peer,
             Body.offer e.tid e.cart e.job (if e.direction = .outbound then 0 else 1))
         | .arrived => some (e.peer, Body.arrive e.tid)
         | _ => none
       resends.length ≤ 15 →
       ∃ (pulls : PullQueue) (line : Line), run = .next (s.put { st with
           loader := { st.loader with state := .joined, listenTimer := none, joinedFor := 0 }
           pulls := pulls
           xfer := { st.xfer with
             check := if resends = [] then st.xfer.check else 0
             entries := st.xfer.entries.map fun e =>
               if e.state = .offered ∨ e.state = .arrived
               then { e with attempts := 0, reply := some 125000 } else e }
           line := line }) ∧
         line.queue.map (fun q => (q.dest, q.body)) = (255, Body.status st.statusBody) :: resends) ∧
     (∀ (n m : Nat) (sl : Slot), st.audit.state = .idle → st.table.slots[n]? = some sl →
       sl.damage = .pending m →
       (∀ k sk j, k ≠ n → st.table.slots[k]? = some sk → sk.damage ≠ .pending j) →
       (∀ e ∈ st.xfer.entries, e.state ≠ .offered ∧ e.state ≠ .arrived) →
       ∃ (t : Station), run = .next (s.put t) ∧
         t.table.slots = st.table.slots.set n { sl with damage := .sent } ∧
         t.line.queue.map (fun q => (q.dest, q.body)) =
           [(255, Body.status st.statusBody), (255, Body.custodyAlert
             { kind := 3, slot := some (BitVec.ofNat 8 n)
               cart := sl.record.cart.map CartData.id, cart2 := none, tid := none
               reason := none })]))

/-! ### What every step keeps -/

/-- R31, R39, R188: every step, from any state in which a coil drives only in the moving state
toward its end with no dead time running, and nothing moves before LISTEN or in FAULT, leaves the
channel so; the two coils are then never on together. -/
def Obligations.DriveStaysLawful : Prop :=
  (∀ s t : Machine.State, s.station.DriveLawful → Machine.step s = .next t →
    t.station.DriveLawful) ∧
  ∀ st : Station, st.DriveLawful → st.coilsApart

/-- R65, R77, R107, R178: every step keeps the release output off under the release lock, at most 16
messages in the queue, at most 8 distinct badge ids on the list, and at most 16 pull entries; each
law is kept by itself. -/
def Obligations.ReleaseAndBoundsKept : Prop :=
  ∀ s t : Machine.State, Machine.step s = .next t →
    (s.station.releaseLawful → t.station.releaseLawful) ∧
    (s.station.queueBounded → t.station.queueBounded) ∧
    (s.station.occupancyLawful → t.station.occupancyLawful) ∧
    (s.station.pullsBounded → t.station.pullsBounded)

/-- R23, R24, R25, R38: every step keeps the stage and the applied on-time among the on-times that
R23 gives under the installed record: 0, the whole period, or MINPULSE away from both. -/
def Obligations.OnTimesStayLawful : Prop :=
  ∀ s t : Machine.State, s.station.StageLawful → Machine.step s = .next t → t.station.StageLawful

/-- The state after reset keeps every law that the statements above say every step keeps, no command
waits in it, and its start is in LOADING. -/
def Obligations.ResetIsLawful : Prop :=
  Machine.State.reset.station.DriveLawful ∧ Machine.State.reset.station.releaseLawful ∧
  Machine.State.reset.station.queueBounded ∧ Machine.State.reset.station.occupancyLawful ∧
  Machine.State.reset.station.pullsBounded ∧ Machine.State.reset.station.StageLawful ∧
  Machine.State.reset.station.TransfersLawful ∧ Machine.State.reset.station.idsUnique ∧
  Machine.State.reset.pending = [] ∧ Machine.State.reset.station.loader.state = .loading ∧
  Machine.State.reset.station.supp.lock = false
end

