-- ==== Sys2Proof/Laws/State.lean ====
section
/-! SUPPORT. One lemma per field per update of a block, true by rfl: no later proof unfolds a record
update. -/

namespace Sys2Proof

section
variable (st : Station) (f : Loader → Loader)

@[simp] theorem Station.onLoader_loader : (st.onLoader f).loader = f st.loader := rfl
@[simp] theorem Station.onLoader_retention : (st.onLoader f).retention = st.retention := rfl
@[simp] theorem Station.onLoader_pins : (st.onLoader f).pins = st.pins := rfl
@[simp] theorem Station.onLoader_moist : (st.onLoader f).moist = st.moist := rfl
@[simp] theorem Station.onLoader_air : (st.onLoader f).air = st.air := rfl
@[simp] theorem Station.onLoader_motion : (st.onLoader f).motion = st.motion := rfl
@[simp] theorem Station.onLoader_det : (st.onLoader f).det = st.det := rfl
@[simp] theorem Station.onLoader_supp : (st.onLoader f).supp = st.supp := rfl
@[simp] theorem Station.onLoader_door : (st.onLoader f).door = st.door := rfl
@[simp] theorem Station.onLoader_table : (st.onLoader f).table = st.table := rfl
@[simp] theorem Station.onLoader_pulls : (st.onLoader f).pulls = st.pulls := rfl
@[simp] theorem Station.onLoader_audit : (st.onLoader f).audit = st.audit := rfl
@[simp] theorem Station.onLoader_xfer : (st.onLoader f).xfer = st.xfer := rfl
@[simp] theorem Station.onLoader_hatch : (st.onLoader f).hatch = st.hatch := rfl
@[simp] theorem Station.onLoader_peers : (st.onLoader f).peers = st.peers := rfl
@[simp] theorem Station.onLoader_line : (st.onLoader f).line = st.line := rfl
@[simp] theorem Station.onLoader_now : (st.onLoader f).now = st.now := rfl

end

section
variable (st : Station) (f : Retention → Retention)

@[simp] theorem Station.onRetention_loader : (st.onRetention f).loader = st.loader := rfl
@[simp] theorem Station.onRetention_retention : (st.onRetention f).retention = f st.retention := rfl
@[simp] theorem Station.onRetention_pins : (st.onRetention f).pins = st.pins := rfl
@[simp] theorem Station.onRetention_moist : (st.onRetention f).moist = st.moist := rfl
@[simp] theorem Station.onRetention_air : (st.onRetention f).air = st.air := rfl
@[simp] theorem Station.onRetention_motion : (st.onRetention f).motion = st.motion := rfl
@[simp] theorem Station.onRetention_det : (st.onRetention f).det = st.det := rfl
@[simp] theorem Station.onRetention_supp : (st.onRetention f).supp = st.supp := rfl
@[simp] theorem Station.onRetention_door : (st.onRetention f).door = st.door := rfl
@[simp] theorem Station.onRetention_table : (st.onRetention f).table = st.table := rfl
@[simp] theorem Station.onRetention_pulls : (st.onRetention f).pulls = st.pulls := rfl
@[simp] theorem Station.onRetention_audit : (st.onRetention f).audit = st.audit := rfl
@[simp] theorem Station.onRetention_xfer : (st.onRetention f).xfer = st.xfer := rfl
@[simp] theorem Station.onRetention_hatch : (st.onRetention f).hatch = st.hatch := rfl
@[simp] theorem Station.onRetention_peers : (st.onRetention f).peers = st.peers := rfl
@[simp] theorem Station.onRetention_line : (st.onRetention f).line = st.line := rfl
@[simp] theorem Station.onRetention_now : (st.onRetention f).now = st.now := rfl

end

section
variable (st : Station) (f : Pins → Pins)

@[simp] theorem Station.onPins_loader : (st.onPins f).loader = st.loader := rfl
@[simp] theorem Station.onPins_retention : (st.onPins f).retention = st.retention := rfl
@[simp] theorem Station.onPins_pins : (st.onPins f).pins = f st.pins := rfl
@[simp] theorem Station.onPins_moist : (st.onPins f).moist = st.moist := rfl
@[simp] theorem Station.onPins_air : (st.onPins f).air = st.air := rfl
@[simp] theorem Station.onPins_motion : (st.onPins f).motion = st.motion := rfl
@[simp] theorem Station.onPins_det : (st.onPins f).det = st.det := rfl
@[simp] theorem Station.onPins_supp : (st.onPins f).supp = st.supp := rfl
@[simp] theorem Station.onPins_door : (st.onPins f).door = st.door := rfl
@[simp] theorem Station.onPins_table : (st.onPins f).table = st.table := rfl
@[simp] theorem Station.onPins_pulls : (st.onPins f).pulls = st.pulls := rfl
@[simp] theorem Station.onPins_audit : (st.onPins f).audit = st.audit := rfl
@[simp] theorem Station.onPins_xfer : (st.onPins f).xfer = st.xfer := rfl
@[simp] theorem Station.onPins_hatch : (st.onPins f).hatch = st.hatch := rfl
@[simp] theorem Station.onPins_peers : (st.onPins f).peers = st.peers := rfl
@[simp] theorem Station.onPins_line : (st.onPins f).line = st.line := rfl
@[simp] theorem Station.onPins_now : (st.onPins f).now = st.now := rfl

end

section
variable (st : Station) (f : Moisture → Moisture)

@[simp] theorem Station.onMoist_loader : (st.onMoist f).loader = st.loader := rfl
@[simp] theorem Station.onMoist_retention : (st.onMoist f).retention = st.retention := rfl
@[simp] theorem Station.onMoist_pins : (st.onMoist f).pins = st.pins := rfl
@[simp] theorem Station.onMoist_moist : (st.onMoist f).moist = f st.moist := rfl
@[simp] theorem Station.onMoist_air : (st.onMoist f).air = st.air := rfl
@[simp] theorem Station.onMoist_motion : (st.onMoist f).motion = st.motion := rfl
@[simp] theorem Station.onMoist_det : (st.onMoist f).det = st.det := rfl
@[simp] theorem Station.onMoist_supp : (st.onMoist f).supp = st.supp := rfl
@[simp] theorem Station.onMoist_door : (st.onMoist f).door = st.door := rfl
@[simp] theorem Station.onMoist_table : (st.onMoist f).table = st.table := rfl
@[simp] theorem Station.onMoist_pulls : (st.onMoist f).pulls = st.pulls := rfl
@[simp] theorem Station.onMoist_audit : (st.onMoist f).audit = st.audit := rfl
@[simp] theorem Station.onMoist_xfer : (st.onMoist f).xfer = st.xfer := rfl
@[simp] theorem Station.onMoist_hatch : (st.onMoist f).hatch = st.hatch := rfl
@[simp] theorem Station.onMoist_peers : (st.onMoist f).peers = st.peers := rfl
@[simp] theorem Station.onMoist_line : (st.onMoist f).line = st.line := rfl
@[simp] theorem Station.onMoist_now : (st.onMoist f).now = st.now := rfl

end

section
variable (st : Station) (f : DryAir → DryAir)

@[simp] theorem Station.onAir_loader : (st.onAir f).loader = st.loader := rfl
@[simp] theorem Station.onAir_retention : (st.onAir f).retention = st.retention := rfl
@[simp] theorem Station.onAir_pins : (st.onAir f).pins = st.pins := rfl
@[simp] theorem Station.onAir_moist : (st.onAir f).moist = st.moist := rfl
@[simp] theorem Station.onAir_air : (st.onAir f).air = f st.air := rfl
@[simp] theorem Station.onAir_motion : (st.onAir f).motion = st.motion := rfl
@[simp] theorem Station.onAir_det : (st.onAir f).det = st.det := rfl
@[simp] theorem Station.onAir_supp : (st.onAir f).supp = st.supp := rfl
@[simp] theorem Station.onAir_door : (st.onAir f).door = st.door := rfl
@[simp] theorem Station.onAir_table : (st.onAir f).table = st.table := rfl
@[simp] theorem Station.onAir_pulls : (st.onAir f).pulls = st.pulls := rfl
@[simp] theorem Station.onAir_audit : (st.onAir f).audit = st.audit := rfl
@[simp] theorem Station.onAir_xfer : (st.onAir f).xfer = st.xfer := rfl
@[simp] theorem Station.onAir_hatch : (st.onAir f).hatch = st.hatch := rfl
@[simp] theorem Station.onAir_peers : (st.onAir f).peers = st.peers := rfl
@[simp] theorem Station.onAir_line : (st.onAir f).line = st.line := rfl
@[simp] theorem Station.onAir_now : (st.onAir f).now = st.now := rfl

end

section
variable (st : Station) (f : Motion → Motion)

@[simp] theorem Station.onMotion_loader : (st.onMotion f).loader = st.loader := rfl
@[simp] theorem Station.onMotion_retention : (st.onMotion f).retention = st.retention := rfl
@[simp] theorem Station.onMotion_pins : (st.onMotion f).pins = st.pins := rfl
@[simp] theorem Station.onMotion_moist : (st.onMotion f).moist = st.moist := rfl
@[simp] theorem Station.onMotion_air : (st.onMotion f).air = st.air := rfl
@[simp] theorem Station.onMotion_motion : (st.onMotion f).motion = f st.motion := rfl
@[simp] theorem Station.onMotion_det : (st.onMotion f).det = st.det := rfl
@[simp] theorem Station.onMotion_supp : (st.onMotion f).supp = st.supp := rfl
@[simp] theorem Station.onMotion_door : (st.onMotion f).door = st.door := rfl
@[simp] theorem Station.onMotion_table : (st.onMotion f).table = st.table := rfl
@[simp] theorem Station.onMotion_pulls : (st.onMotion f).pulls = st.pulls := rfl
@[simp] theorem Station.onMotion_audit : (st.onMotion f).audit = st.audit := rfl
@[simp] theorem Station.onMotion_xfer : (st.onMotion f).xfer = st.xfer := rfl
@[simp] theorem Station.onMotion_hatch : (st.onMotion f).hatch = st.hatch := rfl
@[simp] theorem Station.onMotion_peers : (st.onMotion f).peers = st.peers := rfl
@[simp] theorem Station.onMotion_line : (st.onMotion f).line = st.line := rfl
@[simp] theorem Station.onMotion_now : (st.onMotion f).now = st.now := rfl

end

section
variable (st : Station) (f : Detection → Detection)

@[simp] theorem Station.onDet_loader : (st.onDet f).loader = st.loader := rfl
@[simp] theorem Station.onDet_retention : (st.onDet f).retention = st.retention := rfl
@[simp] theorem Station.onDet_pins : (st.onDet f).pins = st.pins := rfl
@[simp] theorem Station.onDet_moist : (st.onDet f).moist = st.moist := rfl
@[simp] theorem Station.onDet_air : (st.onDet f).air = st.air := rfl
@[simp] theorem Station.onDet_motion : (st.onDet f).motion = st.motion := rfl
@[simp] theorem Station.onDet_det : (st.onDet f).det = f st.det := rfl
@[simp] theorem Station.onDet_supp : (st.onDet f).supp = st.supp := rfl
@[simp] theorem Station.onDet_door : (st.onDet f).door = st.door := rfl
@[simp] theorem Station.onDet_table : (st.onDet f).table = st.table := rfl
@[simp] theorem Station.onDet_pulls : (st.onDet f).pulls = st.pulls := rfl
@[simp] theorem Station.onDet_audit : (st.onDet f).audit = st.audit := rfl
@[simp] theorem Station.onDet_xfer : (st.onDet f).xfer = st.xfer := rfl
@[simp] theorem Station.onDet_hatch : (st.onDet f).hatch = st.hatch := rfl
@[simp] theorem Station.onDet_peers : (st.onDet f).peers = st.peers := rfl
@[simp] theorem Station.onDet_line : (st.onDet f).line = st.line := rfl
@[simp] theorem Station.onDet_now : (st.onDet f).now = st.now := rfl

end

section
variable (st : Station) (f : Suppression → Suppression)

@[simp] theorem Station.onSupp_loader : (st.onSupp f).loader = st.loader := rfl
@[simp] theorem Station.onSupp_retention : (st.onSupp f).retention = st.retention := rfl
@[simp] theorem Station.onSupp_pins : (st.onSupp f).pins = st.pins := rfl
@[simp] theorem Station.onSupp_moist : (st.onSupp f).moist = st.moist := rfl
@[simp] theorem Station.onSupp_air : (st.onSupp f).air = st.air := rfl
@[simp] theorem Station.onSupp_motion : (st.onSupp f).motion = st.motion := rfl
@[simp] theorem Station.onSupp_det : (st.onSupp f).det = st.det := rfl
@[simp] theorem Station.onSupp_supp : (st.onSupp f).supp = f st.supp := rfl
@[simp] theorem Station.onSupp_door : (st.onSupp f).door = st.door := rfl
@[simp] theorem Station.onSupp_table : (st.onSupp f).table = st.table := rfl
@[simp] theorem Station.onSupp_pulls : (st.onSupp f).pulls = st.pulls := rfl
@[simp] theorem Station.onSupp_audit : (st.onSupp f).audit = st.audit := rfl
@[simp] theorem Station.onSupp_xfer : (st.onSupp f).xfer = st.xfer := rfl
@[simp] theorem Station.onSupp_hatch : (st.onSupp f).hatch = st.hatch := rfl
@[simp] theorem Station.onSupp_peers : (st.onSupp f).peers = st.peers := rfl
@[simp] theorem Station.onSupp_line : (st.onSupp f).line = st.line := rfl
@[simp] theorem Station.onSupp_now : (st.onSupp f).now = st.now := rfl

end

section
variable (st : Station) (f : Door → Door)

@[simp] theorem Station.onDoor_loader : (st.onDoor f).loader = st.loader := rfl
@[simp] theorem Station.onDoor_retention : (st.onDoor f).retention = st.retention := rfl
@[simp] theorem Station.onDoor_pins : (st.onDoor f).pins = st.pins := rfl
@[simp] theorem Station.onDoor_moist : (st.onDoor f).moist = st.moist := rfl
@[simp] theorem Station.onDoor_air : (st.onDoor f).air = st.air := rfl
@[simp] theorem Station.onDoor_motion : (st.onDoor f).motion = st.motion := rfl
@[simp] theorem Station.onDoor_det : (st.onDoor f).det = st.det := rfl
@[simp] theorem Station.onDoor_supp : (st.onDoor f).supp = st.supp := rfl
@[simp] theorem Station.onDoor_door : (st.onDoor f).door = f st.door := rfl
@[simp] theorem Station.onDoor_table : (st.onDoor f).table = st.table := rfl
@[simp] theorem Station.onDoor_pulls : (st.onDoor f).pulls = st.pulls := rfl
@[simp] theorem Station.onDoor_audit : (st.onDoor f).audit = st.audit := rfl
@[simp] theorem Station.onDoor_xfer : (st.onDoor f).xfer = st.xfer := rfl
@[simp] theorem Station.onDoor_hatch : (st.onDoor f).hatch = st.hatch := rfl
@[simp] theorem Station.onDoor_peers : (st.onDoor f).peers = st.peers := rfl
@[simp] theorem Station.onDoor_line : (st.onDoor f).line = st.line := rfl
@[simp] theorem Station.onDoor_now : (st.onDoor f).now = st.now := rfl

end

section
variable (st : Station) (f : SlotTable → SlotTable)

@[simp] theorem Station.onTable_loader : (st.onTable f).loader = st.loader := rfl
@[simp] theorem Station.onTable_retention : (st.onTable f).retention = st.retention := rfl
@[simp] theorem Station.onTable_pins : (st.onTable f).pins = st.pins := rfl
@[simp] theorem Station.onTable_moist : (st.onTable f).moist = st.moist := rfl
@[simp] theorem Station.onTable_air : (st.onTable f).air = st.air := rfl
@[simp] theorem Station.onTable_motion : (st.onTable f).motion = st.motion := rfl
@[simp] theorem Station.onTable_det : (st.onTable f).det = st.det := rfl
@[simp] theorem Station.onTable_supp : (st.onTable f).supp = st.supp := rfl
@[simp] theorem Station.onTable_door : (st.onTable f).door = st.door := rfl
@[simp] theorem Station.onTable_table : (st.onTable f).table = f st.table := rfl
@[simp] theorem Station.onTable_pulls : (st.onTable f).pulls = st.pulls := rfl
@[simp] theorem Station.onTable_audit : (st.onTable f).audit = st.audit := rfl
@[simp] theorem Station.onTable_xfer : (st.onTable f).xfer = st.xfer := rfl
@[simp] theorem Station.onTable_hatch : (st.onTable f).hatch = st.hatch := rfl
@[simp] theorem Station.onTable_peers : (st.onTable f).peers = st.peers := rfl
@[simp] theorem Station.onTable_line : (st.onTable f).line = st.line := rfl
@[simp] theorem Station.onTable_now : (st.onTable f).now = st.now := rfl

end

section
variable (st : Station) (f : PullQueue → PullQueue)

@[simp] theorem Station.onPulls_loader : (st.onPulls f).loader = st.loader := rfl
@[simp] theorem Station.onPulls_retention : (st.onPulls f).retention = st.retention := rfl
@[simp] theorem Station.onPulls_pins : (st.onPulls f).pins = st.pins := rfl
@[simp] theorem Station.onPulls_moist : (st.onPulls f).moist = st.moist := rfl
@[simp] theorem Station.onPulls_air : (st.onPulls f).air = st.air := rfl
@[simp] theorem Station.onPulls_motion : (st.onPulls f).motion = st.motion := rfl
@[simp] theorem Station.onPulls_det : (st.onPulls f).det = st.det := rfl
@[simp] theorem Station.onPulls_supp : (st.onPulls f).supp = st.supp := rfl
@[simp] theorem Station.onPulls_door : (st.onPulls f).door = st.door := rfl
@[simp] theorem Station.onPulls_table : (st.onPulls f).table = st.table := rfl
@[simp] theorem Station.onPulls_pulls : (st.onPulls f).pulls = f st.pulls := rfl
@[simp] theorem Station.onPulls_audit : (st.onPulls f).audit = st.audit := rfl
@[simp] theorem Station.onPulls_xfer : (st.onPulls f).xfer = st.xfer := rfl
@[simp] theorem Station.onPulls_hatch : (st.onPulls f).hatch = st.hatch := rfl
@[simp] theorem Station.onPulls_peers : (st.onPulls f).peers = st.peers := rfl
@[simp] theorem Station.onPulls_line : (st.onPulls f).line = st.line := rfl
@[simp] theorem Station.onPulls_now : (st.onPulls f).now = st.now := rfl

end

section
variable (st : Station) (f : Audit → Audit)

@[simp] theorem Station.onAudit_loader : (st.onAudit f).loader = st.loader := rfl
@[simp] theorem Station.onAudit_retention : (st.onAudit f).retention = st.retention := rfl
@[simp] theorem Station.onAudit_pins : (st.onAudit f).pins = st.pins := rfl
@[simp] theorem Station.onAudit_moist : (st.onAudit f).moist = st.moist := rfl
@[simp] theorem Station.onAudit_air : (st.onAudit f).air = st.air := rfl
@[simp] theorem Station.onAudit_motion : (st.onAudit f).motion = st.motion := rfl
@[simp] theorem Station.onAudit_det : (st.onAudit f).det = st.det := rfl
@[simp] theorem Station.onAudit_supp : (st.onAudit f).supp = st.supp := rfl
@[simp] theorem Station.onAudit_door : (st.onAudit f).door = st.door := rfl
@[simp] theorem Station.onAudit_table : (st.onAudit f).table = st.table := rfl
@[simp] theorem Station.onAudit_pulls : (st.onAudit f).pulls = st.pulls := rfl
@[simp] theorem Station.onAudit_audit : (st.onAudit f).audit = f st.audit := rfl
@[simp] theorem Station.onAudit_xfer : (st.onAudit f).xfer = st.xfer := rfl
@[simp] theorem Station.onAudit_hatch : (st.onAudit f).hatch = st.hatch := rfl
@[simp] theorem Station.onAudit_peers : (st.onAudit f).peers = st.peers := rfl
@[simp] theorem Station.onAudit_line : (st.onAudit f).line = st.line := rfl
@[simp] theorem Station.onAudit_now : (st.onAudit f).now = st.now := rfl

end

section
variable (st : Station) (f : Transfers → Transfers)

@[simp] theorem Station.onXfer_loader : (st.onXfer f).loader = st.loader := rfl
@[simp] theorem Station.onXfer_retention : (st.onXfer f).retention = st.retention := rfl
@[simp] theorem Station.onXfer_pins : (st.onXfer f).pins = st.pins := rfl
@[simp] theorem Station.onXfer_moist : (st.onXfer f).moist = st.moist := rfl
@[simp] theorem Station.onXfer_air : (st.onXfer f).air = st.air := rfl
@[simp] theorem Station.onXfer_motion : (st.onXfer f).motion = st.motion := rfl
@[simp] theorem Station.onXfer_det : (st.onXfer f).det = st.det := rfl
@[simp] theorem Station.onXfer_supp : (st.onXfer f).supp = st.supp := rfl
@[simp] theorem Station.onXfer_door : (st.onXfer f).door = st.door := rfl
@[simp] theorem Station.onXfer_table : (st.onXfer f).table = st.table := rfl
@[simp] theorem Station.onXfer_pulls : (st.onXfer f).pulls = st.pulls := rfl
@[simp] theorem Station.onXfer_audit : (st.onXfer f).audit = st.audit := rfl
@[simp] theorem Station.onXfer_xfer : (st.onXfer f).xfer = f st.xfer := rfl
@[simp] theorem Station.onXfer_hatch : (st.onXfer f).hatch = st.hatch := rfl
@[simp] theorem Station.onXfer_peers : (st.onXfer f).peers = st.peers := rfl
@[simp] theorem Station.onXfer_line : (st.onXfer f).line = st.line := rfl
@[simp] theorem Station.onXfer_now : (st.onXfer f).now = st.now := rfl

end

section
variable (st : Station) (f : Hatch → Hatch)

@[simp] theorem Station.onHatch_loader : (st.onHatch f).loader = st.loader := rfl
@[simp] theorem Station.onHatch_retention : (st.onHatch f).retention = st.retention := rfl
@[simp] theorem Station.onHatch_pins : (st.onHatch f).pins = st.pins := rfl
@[simp] theorem Station.onHatch_moist : (st.onHatch f).moist = st.moist := rfl
@[simp] theorem Station.onHatch_air : (st.onHatch f).air = st.air := rfl
@[simp] theorem Station.onHatch_motion : (st.onHatch f).motion = st.motion := rfl
@[simp] theorem Station.onHatch_det : (st.onHatch f).det = st.det := rfl
@[simp] theorem Station.onHatch_supp : (st.onHatch f).supp = st.supp := rfl
@[simp] theorem Station.onHatch_door : (st.onHatch f).door = st.door := rfl
@[simp] theorem Station.onHatch_table : (st.onHatch f).table = st.table := rfl
@[simp] theorem Station.onHatch_pulls : (st.onHatch f).pulls = st.pulls := rfl
@[simp] theorem Station.onHatch_audit : (st.onHatch f).audit = st.audit := rfl
@[simp] theorem Station.onHatch_xfer : (st.onHatch f).xfer = st.xfer := rfl
@[simp] theorem Station.onHatch_hatch : (st.onHatch f).hatch = f st.hatch := rfl
@[simp] theorem Station.onHatch_peers : (st.onHatch f).peers = st.peers := rfl
@[simp] theorem Station.onHatch_line : (st.onHatch f).line = st.line := rfl
@[simp] theorem Station.onHatch_now : (st.onHatch f).now = st.now := rfl

end

section
variable (st : Station) (f : PeerView → PeerView)

@[simp] theorem Station.onPeers_loader : (st.onPeers f).loader = st.loader := rfl
@[simp] theorem Station.onPeers_retention : (st.onPeers f).retention = st.retention := rfl
@[simp] theorem Station.onPeers_pins : (st.onPeers f).pins = st.pins := rfl
@[simp] theorem Station.onPeers_moist : (st.onPeers f).moist = st.moist := rfl
@[simp] theorem Station.onPeers_air : (st.onPeers f).air = st.air := rfl
@[simp] theorem Station.onPeers_motion : (st.onPeers f).motion = st.motion := rfl
@[simp] theorem Station.onPeers_det : (st.onPeers f).det = st.det := rfl
@[simp] theorem Station.onPeers_supp : (st.onPeers f).supp = st.supp := rfl
@[simp] theorem Station.onPeers_door : (st.onPeers f).door = st.door := rfl
@[simp] theorem Station.onPeers_table : (st.onPeers f).table = st.table := rfl
@[simp] theorem Station.onPeers_pulls : (st.onPeers f).pulls = st.pulls := rfl
@[simp] theorem Station.onPeers_audit : (st.onPeers f).audit = st.audit := rfl
@[simp] theorem Station.onPeers_xfer : (st.onPeers f).xfer = st.xfer := rfl
@[simp] theorem Station.onPeers_hatch : (st.onPeers f).hatch = st.hatch := rfl
@[simp] theorem Station.onPeers_peers : (st.onPeers f).peers = f st.peers := rfl
@[simp] theorem Station.onPeers_line : (st.onPeers f).line = st.line := rfl
@[simp] theorem Station.onPeers_now : (st.onPeers f).now = st.now := rfl

end

section
variable (st : Station) (f : Line → Line)

@[simp] theorem Station.onLine_loader : (st.onLine f).loader = st.loader := rfl
@[simp] theorem Station.onLine_retention : (st.onLine f).retention = st.retention := rfl
@[simp] theorem Station.onLine_pins : (st.onLine f).pins = st.pins := rfl
@[simp] theorem Station.onLine_moist : (st.onLine f).moist = st.moist := rfl
@[simp] theorem Station.onLine_air : (st.onLine f).air = st.air := rfl
@[simp] theorem Station.onLine_motion : (st.onLine f).motion = st.motion := rfl
@[simp] theorem Station.onLine_det : (st.onLine f).det = st.det := rfl
@[simp] theorem Station.onLine_supp : (st.onLine f).supp = st.supp := rfl
@[simp] theorem Station.onLine_door : (st.onLine f).door = st.door := rfl
@[simp] theorem Station.onLine_table : (st.onLine f).table = st.table := rfl
@[simp] theorem Station.onLine_pulls : (st.onLine f).pulls = st.pulls := rfl
@[simp] theorem Station.onLine_audit : (st.onLine f).audit = st.audit := rfl
@[simp] theorem Station.onLine_xfer : (st.onLine f).xfer = st.xfer := rfl
@[simp] theorem Station.onLine_hatch : (st.onLine f).hatch = st.hatch := rfl
@[simp] theorem Station.onLine_peers : (st.onLine f).peers = st.peers := rfl
@[simp] theorem Station.onLine_line : (st.onLine f).line = f st.line := rfl
@[simp] theorem Station.onLine_now : (st.onLine f).now = st.now := rfl

end

/-- The effect of a command on the machine: the queue of commands stays. -/
theorem Machine.State.run_eq (s : Machine.State) (f : Station → Station) :
    s.run f = .next { station := f s.station, pending := s.pending } := rfl

@[simp] theorem Station.onlyIf_true (st : Station) (f : Station → Station) :
    st.onlyIf true f = f st := rfl

@[simp] theorem Station.onlyIf_false (st : Station) (f : Station → Station) :
    st.onlyIf false f = st := rfl

/-- A guarded effect keeps whatever holds before and is kept by the effect. -/
theorem Station.onlyIf_keeps {P : Station → Prop} {st : Station} {c : Bool} {f : Station → Station}
    (h : P st) (hf : P st → P (f st)) : P (st.onlyIf c f) := by
  cases c
  · exact h
  · exact hf h

end Sys2Proof
end

