-- ==== Sys2Proof/Laws/Outer.lean ====
section
/-! SUPPORT. What the custody operations leave alone. `Station.outer` gathers the blocks that no
operation of the transmit queue, the slot table, the pull queue, the audit or the transfer engine
writes; one simp lemma per operation says so, and a block's own lemma follows by projection. -/

namespace Sys2Proof

/-- The blocks outside custody: all but the slot table, the pull queue, the audit, the transfer
engine, the hatch unit and the line interface. -/
structure Outer where
  loader : Loader
  retention : Retention
  pins : Pins
  moist : Moisture
  air : DryAir
  motion : Motion
  det : Detection
  supp : Suppression
  door : Door
  peers : PeerView
  now : Ticks

/-- The outer blocks of a station. -/
def Station.outer (st : Station) : Outer where
  loader := st.loader
  retention := st.retention
  pins := st.pins
  moist := st.moist
  air := st.air
  motion := st.motion
  det := st.det
  supp := st.supp
  door := st.door
  peers := st.peers
  now := st.now

section
variable {a b : Station} (h : a.outer = b.outer)
include h

theorem Station.loader_of_outer : a.loader = b.loader := congrArg Outer.loader h
theorem Station.retention_of_outer : a.retention = b.retention := congrArg Outer.retention h
theorem Station.pins_of_outer : a.pins = b.pins := congrArg Outer.pins h
theorem Station.moist_of_outer : a.moist = b.moist := congrArg Outer.moist h
theorem Station.air_of_outer : a.air = b.air := congrArg Outer.air h
theorem Station.motion_of_outer : a.motion = b.motion := congrArg Outer.motion h
theorem Station.det_of_outer : a.det = b.det := congrArg Outer.det h
theorem Station.supp_of_outer : a.supp = b.supp := congrArg Outer.supp h
theorem Station.door_of_outer : a.door = b.door := congrArg Outer.door h
theorem Station.peers_of_outer : a.peers = b.peers := congrArg Outer.peers h
theorem Station.now_of_outer : a.now = b.now := congrArg Outer.now h

end

section
variable (st : Station)

@[simp] theorem Station.onTable_outer (f) : (st.onTable f).outer = st.outer := rfl
@[simp] theorem Station.onPulls_outer (f) : (st.onPulls f).outer = st.outer := rfl
@[simp] theorem Station.onAudit_outer (f) : (st.onAudit f).outer = st.outer := rfl
@[simp] theorem Station.onXfer_outer (f) : (st.onXfer f).outer = st.outer := rfl
@[simp] theorem Station.onHatch_outer (f) : (st.onHatch f).outer = st.outer := rfl
@[simp] theorem Station.onLine_outer (f) : (st.onLine f).outer = st.outer := rfl
@[simp] theorem Station.onSession_outer (f) : (st.onSession f).outer = st.outer := rfl
@[simp] theorem Station.modifySlot_outer (n f) : (st.modifySlot n f).outer = st.outer := rfl
@[simp] theorem Station.setPulls_outer (es) : (st.setPulls es).outer = st.outer := rfl
@[simp] theorem Station.setXfers_outer (es) : (st.setXfers es).outer = st.outer := rfl
@[simp] theorem Station.setCustody_outer (es) : (st.setCustody es).outer = st.outer := rfl
@[simp] theorem Station.setExpected_outer (es) : (st.setExpected es).outer = st.outer := rfl
@[simp] theorem Station.putRecord_outer (n r) : (st.putRecord n r).outer = st.outer := rfl
@[simp] theorem Station.loadReply_outer (t) : (st.loadReply t).outer = st.outer := rfl
@[simp] theorem Station.numbered_outer : st.numbered.outer = st.outer := rfl
@[simp] theorem Station.askLamp_outer (n l) : (st.askLamp n l).outer = st.outer := rfl

/-- A guarded effect that leaves the outer blocks alone. -/
theorem Station.onlyIf_outer {c : Bool} {f : Station → Station} (h : ∀ s : Station, (f s).outer = s.outer) :
    (st.onlyIf c f).outer = st.outer := by
  cases c
  · rfl
  · exact h st

/-! ### The transmit queue -/

@[simp] theorem Station.select_outer : st.select.outer = st.outer :=
  st.onlyIf_outer fun _ => rfl

@[simp] theorem Station.join_outer (p) : (st.join p).outer = st.outer := by
  unfold Station.join
  cases p.body.timedTid <;> simp

@[simp] theorem Station.takeDamage_outer (d) : (st.takeDamage d).outer = st.outer := by
  simp [Station.takeDamage]

@[simp] theorem Station.takePend_outer (p r) : (st.takePend p r).outer = st.outer := by
  simp [Station.takePend]

/-- An offered place leaves the outer blocks alone. -/
theorem Station.placeOffer_outer {st st' : Station} (h : st.placeOffer = some st') :
    st'.outer = st.outer := by
  unfold Station.placeOffer at h
  split at h
  · cases h
  · split at h
    · cases h
    · cases h; simp
    · cases h; simp
    · split at h <;> (cases h; simp)

theorem Station.offerUpTo_outer (k : Nat) : (Station.offerUpTo k st).outer = st.outer := by
  induction k generalizing st with
  | zero => rfl
  | succ k ih =>
    unfold Station.offerUpTo
    cases h : st.placeOffer with
    | none => rfl
    | some st' => exact (ih st').trans (Station.placeOffer_outer h)

@[simp] theorem Station.offerPlaces_outer : st.offerPlaces.outer = st.outer := st.offerUpTo_outer 16

@[simp] theorem Station.hand_outer (k d b) : (st.hand k d b).outer = st.outer :=
  st.onlyIf_outer fun s => by simp

@[simp] theorem Station.handAlert_outer (k b) : (st.handAlert k b).outer = st.outer :=
  st.onlyIf_outer (f := (·.hand k allAddr (.custodyAlert b))) fun s => by simp

@[simp] theorem Station.reply_outer (k c n q o d) : (st.reply k c n q o d).outer = st.outer := by
  simp [Station.reply]

@[simp] theorem Station.handFire_outer (b) : (st.handFire b).outer = st.outer :=
  st.onlyIf_outer fun s => by simp

@[simp] theorem Station.handFireReport_outer : st.handFireReport.outer = st.outer := by
  simp [Station.handFireReport]

@[simp] theorem Station.withdrawLamp_outer (n) : (st.withdrawLamp n).outer = st.outer := by
  cases n <;> simp [Station.withdrawLamp]

/-! ### The pull queue and the audit's cursor -/

@[simp] theorem Station.auditAt_outer (n) : (st.auditAt n).outer = st.outer := rfl

@[simp] theorem Station.auditReply_outer (o d) : (st.auditReply o d).outer = st.outer := by
  simp [Station.auditReply]

@[simp] theorem Station.auditComplete_outer : st.auditComplete.outer = st.outer := by
  simp [Station.auditComplete]

@[simp] theorem Station.suspensionTest_outer : st.suspensionTest.outer = st.outer := by
  unfold Station.suspensionTest
  split
  · exact st.onlyIf_outer fun s => by simp
  · refine st.onlyIf_outer fun s => ?_
    cases s.table.firstPresent (s.audit.cursor.getD s.audit.first) s.audit.last <;> simp

@[simp] theorem Station.auditRunAt_outer (n) : (st.auditRunAt n).outer = st.outer := by
  simp [Station.auditRunAt]

@[simp] theorem Station.relight_outer : st.relight.outer = st.outer := rfl

@[simp] theorem Station.pullsChanged_outer : st.pullsChanged.outer = st.outer := by
  simp [Station.pullsChanged]

@[simp] theorem Station.replyCancelled_outer (e) : (st.replyCancelled e).outer = st.outer := by
  simp [Station.replyCancelled]

/-- A fold of operations that leave the outer blocks alone leaves them alone. -/
theorem Station.foldl_outer {α : Type} (f : Station → α → Station)
    (h : ∀ s x, (f s x).outer = s.outer) (l : List α) (st : Station) :
    (l.foldl f st).outer = st.outer := by
  induction l generalizing st with
  | nil => rfl
  | cons x l ih => exact (ih (f st x)).trans (h st x)

@[simp] theorem Station.cancelPulls_outer (p) : (st.cancelPulls p).outer = st.outer := by
  unfold Station.cancelPulls
  dsimp only
  split
  · rfl
  · simp [Station.foldl_outer _ (fun s e => Station.replyCancelled_outer s e)]

@[simp] theorem Station.setPullState_outer (c s) : (st.setPullState c s).outer = st.outer := rfl

@[simp] theorem Station.cancelHeld_outer : st.cancelHeld.outer = st.outer := by
  simp [Station.cancelHeld]

/-! ### Slot records -/

@[simp] theorem Station.noticeDamage_outer (n) : (st.noticeDamage n).outer = st.outer := by
  unfold Station.noticeDamage
  dsimp only
  split
  · cases (st.table.slot n).record.cart <;> simp
  · rfl

@[simp] theorem Station.readAll_outer : st.readAll.outer = st.outer :=
  Station.foldl_outer _ (fun s n => s.noticeDamage_outer n) _ st

@[simp] theorem Station.writeRecord_outer (n r) : (st.writeRecord n r).outer = st.outer := by
  simp [Station.writeRecord]

@[simp] theorem Station.placeWrite_outer (n t) : (st.placeWrite n t).1.outer = st.outer := by
  unfold Station.placeWrite
  dsimp only
  split
  · split <;> simp
  · simp

@[simp] theorem Station.closeOutWrite_outer (n t) : (st.closeOutWrite n t).outer = st.outer := by
  unfold Station.closeOutWrite
  dsimp only
  split
  · split <;> simp
  · simp

@[simp] theorem Station.freeWrite_outer (n t) : (st.freeWrite n t).1.outer = st.outer := by
  unfold Station.freeWrite
  dsimp only
  split
  · split <;> simp
  · simp

@[simp] theorem Station.reserveWrite_outer (c t) : (st.reserveWrite c t).1.outer = st.outer := by
  unfold Station.reserveWrite
  simp only
  split
  · simp
  · split <;> simp

@[simp] theorem Station.setUnplanned_outer (n) : (st.setUnplanned n).outer = st.outer := by
  unfold Station.setUnplanned
  split <;> simp

/-! ### The audit -/

@[simp] theorem Station.auditLifted_outer (n f) : (st.auditLifted n f).outer = st.outer :=
  st.onlyIf_outer fun s => by simp

@[simp] theorem Station.auditAdvance_outer (n) : (st.auditAdvance n).outer = st.outer := by
  unfold Station.auditAdvance
  split <;> simp

@[simp] theorem Station.auditStray_outer (n) : (st.auditStray n).outer = st.outer := by
  unfold Station.auditStray
  split
  · split <;> simp
  · rfl

@[simp] theorem Station.auditInserted_outer (n) : (st.auditInserted n).outer = st.outer := by
  unfold Station.auditInserted
  split
  · simp
  · split <;> simp

@[simp] theorem Station.auditAbort_outer : st.auditAbort.outer = st.outer := by
  refine st.onlyIf_outer fun s => ?_
  simp only
  split
  · simp
  · split
    · split <;> simp
    · simp

@[simp] theorem Station.auditMismatch_outer (n y c) : (st.auditMismatch n y c).outer = st.outer := by
  simp [Station.auditMismatch]

@[simp] theorem Station.auditDecide_outer (n y) : (st.auditDecide n y).outer = st.outer := by
  unfold Station.auditDecide
  split
  · split
    · simp
    · split
      · simp
      · simp only; split <;> simp
  · simp only; split <;> simp
  · simp

@[simp] theorem Station.auditScan_outer (y) : (st.auditScan y).outer = st.outer := by
  unfold Station.auditScan
  split <;> simp

/-! ### The transfer engine -/

@[simp] theorem Station.modifyXfer_outer (t f) : (st.modifyXfer t f).outer = st.outer := rfl
@[simp] theorem Station.removeXfer_outer (t) : (st.removeXfer t).outer = st.outer := rfl
@[simp] theorem Station.removeClaim_outer (c) : (st.removeClaim c).outer = st.outer := rfl
@[simp] theorem Station.dropOutgoing_outer (c) : (st.dropOutgoing c).outer = st.outer := rfl
@[simp] theorem Station.returnOutgoing_outer (c) : (st.returnOutgoing c).outer = st.outer := rfl
@[simp] theorem Station.toHatchOutbound_outer (c j) : (st.toHatchOutbound c j).outer = st.outer := rfl
@[simp] theorem Station.onTransits_outer (f) : (st.onTransits f).outer = st.outer := rfl

@[simp] theorem Station.sendXfer_outer (d b) : (st.sendXfer d b).outer = st.outer := by
  simp [Station.sendXfer]

@[simp] theorem Station.xferAlert_outer (k n c t r) : (st.xferAlert k n c t r).outer = st.outer := by
  simp [Station.xferAlert]

@[simp] theorem Station.openXfer_outer (d c j n k p) : (st.openXfer d c j n k p).1.outer = st.outer := by
  unfold Station.openXfer
  split <;> simp

@[simp] theorem Station.resend_outer (e) : (st.resend e).outer = st.outer := by
  unfold Station.resend
  split <;> simp

@[simp] theorem Station.becomeArrived_outer (e) : (st.becomeArrived e).outer = st.outer := by
  simp [Station.becomeArrived]

@[simp] theorem Station.withdrawSending_outer (e) : (st.withdrawSending e).outer = st.outer := by
  unfold Station.withdrawSending
  exact (Station.onlyIf_outer _ fun s => by simp).trans (by simp)

@[simp] theorem Station.xferInserted_outer (n t p) : (st.xferInserted n t p).outer = st.outer := by
  unfold Station.xferInserted
  split
  · rfl
  · split
    · simp only; split <;> simp
    · split <;> simp

@[simp] theorem Station.xferReturned_outer (t) : (st.xferReturned t).outer = st.outer := by
  unfold Station.xferReturned
  split <;> simp

@[simp] theorem Station.makeClaim_outer (c) : (st.makeClaim c).outer = st.outer := by
  unfold Station.makeClaim
  split
  · rfl
  · split
    · rfl
    · split <;> simp

/-! ### Presence -/

@[simp] theorem Station.pullInserted_outer (n c) : (st.pullInserted n c).outer = st.outer := by
  unfold Station.pullInserted
  simp only
  split
  · split <;> simp
  · rfl

@[simp] theorem Station.removal_outer (n) : (st.removal n).outer = st.outer := by
  unfold Station.removal
  simp only
  split
  · split
    · simp
    · split <;> simp
  · simp
  · simp
  · simp

@[simp] theorem Station.strayInserted_outer (n) : (st.strayInserted n).outer = st.outer := by
  unfold Station.strayInserted
  simp only
  split <;> simp

@[simp] theorem Station.insertion_outer (n) : (st.insertion n).outer = st.outer := by
  have key : ∀ s : Station, (s.insertionAt n).outer = s.outer := by
    intro s
    unfold Station.insertionAt
    split <;> simp
  simp [Station.insertion, key]

@[simp] theorem Station.readSlot_outer (n r) : (st.readSlot n r).outer = st.outer := by
  unfold Station.readSlot
  simp only
  split
  · simp
  · split
    · unfold Station.settleSlot Station.setDebounced
      simp only
      split <;> simp
    · split <;> simp [Station.setDebounced]

/-- A presence scan leaves the outer blocks alone. -/
@[simp] theorem Station.presenceScanned_outer (r) : (st.presenceScanned r).outer = st.outer :=
  Station.foldl_outer _ (fun s n => s.readSlot_outer n _) _ st

end

end Sys2Proof
end

