-- ==== Sys2Proof/Laws/Hand.lean ====
section
/-! SUPPORT. What handing a message on can change, whether or not the queue takes it: the line
interface, the reply timers of the transfer entries, and the damage reports of the slots.
`Station.kept` gathers the rest; one simp lemma per operation of the transmit queue says that it
leaves it alone, and a block's own lemma follows by projection. -/

namespace Sys2Proof

/-- What a slot holds beside its damage report. -/
def Slot.content (sl : Slot) : Slot := { sl with damage := .none }

/-- What an entry holds beside its reply timer. -/
def XferEntry.content (e : XferEntry) : XferEntry := { e with reply := none }

/-- All that handing a message on leaves alone. -/
structure Kept where
  outer : Outer
  pulls : PullQueue
  audit : Audit
  hatch : Hatch
  xfer : Transfers
  table : SlotTable

/-- What a station keeps while messages are handed on. -/
def Station.kept (st : Station) : Kept where
  outer := st.outer
  pulls := st.pulls
  audit := st.audit
  hatch := st.hatch
  xfer := { st.xfer with entries := st.xfer.entries.map XferEntry.content }
  table := { st.table with slots := st.table.slots.map Slot.content }

section
variable (st : Station)

@[simp] theorem Station.onLine_kept (f) : (st.onLine f).kept = st.kept := rfl

@[simp] theorem Station.select_kept : st.select.kept = st.kept := by
  unfold Station.select Station.onlyIf
  split <;> rfl

@[simp] theorem Station.loadReply_kept (t) : (st.loadReply t).kept = st.kept := by
  have e : ∀ e : XferEntry, XferEntry.content (if e.tid = t ∧ (e.state = .offered ∨ e.state = .arrived)
      then { e with reply := some (ticksOfSec 1) } else e) = e.content := by
    intro e
    split <;> rfl
  simp [Station.kept, Station.loadReply, Station.outer, e]

@[simp] theorem Station.join_kept (p) : (st.join p).kept = st.kept := by
  unfold Station.join
  cases p.body.timedTid <;> simp

/-- A slot rewritten in its damage report alone. -/
theorem Station.modifySlot_kept (n : Nat) (f : Slot → Slot) (h : ∀ sl, (f sl).content = sl.content) :
    (st.modifySlot n f).kept = st.kept := by
  have e : (st.table.slots.modify n f).map Slot.content = st.table.slots.map Slot.content := by
    apply List.ext_getElem?
    intro m
    simp only [List.getElem?_map, List.getElem?_modify]
    cases st.table.slots[m]? with
    | none => rfl
    | some sl => by_cases hm : n = m <;> simp [hm, h sl]
  simp [Station.kept, Station.modifySlot, SlotTable.modify, e, Station.outer]

@[simp] theorem Station.takeDamage_kept (d) : (st.takeDamage d).kept = st.kept := by
  simp only [Station.takeDamage, Station.join_kept]
  exact st.modifySlot_kept _ _ fun _ => rfl

@[simp] theorem Station.takePend_kept (p r) : (st.takePend p r).kept = st.kept := by
  simp [Station.takePend]

/-- An offered place leaves the rest alone. -/
theorem Station.placeOffer_kept {st st' : Station} (h : st.placeOffer = some st') :
    st'.kept = st.kept := by
  unfold Station.placeOffer at h
  split at h
  · cases h
  · split at h
    · cases h
    · cases h; simp
    · cases h; simp
    · split at h <;> (cases h; simp)

theorem Station.offerUpTo_kept (k : Nat) : (Station.offerUpTo k st).kept = st.kept := by
  induction k generalizing st with
  | zero => rfl
  | succ k ih =>
    unfold Station.offerUpTo
    cases h : st.placeOffer with
    | none => rfl
    | some st' => exact (ih st').trans (Station.placeOffer_kept h)

@[simp] theorem Station.offerPlaces_kept : st.offerPlaces.kept = st.kept := st.offerUpTo_kept 16

@[simp] theorem Station.hand_kept (k d b) : (st.hand k d b).kept = st.kept := by
  unfold Station.hand Station.onlyIf
  split <;> simp

@[simp] theorem Station.handAlert_kept (k b) : (st.handAlert k b).kept = st.kept := by
  unfold Station.handAlert Station.onlyIf
  split <;> simp

@[simp] theorem Station.reply_kept (k c n q o d) : (st.reply k c n q o d).kept = st.kept := by
  simp [Station.reply]

@[simp] theorem Station.handFire_kept (b) : (st.handFire b).kept = st.kept := by
  unfold Station.handFire Station.onlyIf
  split <;> simp

@[simp] theorem Station.handFireReport_kept : st.handFireReport.kept = st.kept := by
  simp [Station.handFireReport]

end

section
variable {a b : Station} (h : a.kept = b.kept)
include h

theorem Station.outer_of_kept : a.outer = b.outer := congrArg Kept.outer h
theorem Station.pulls_of_kept : a.pulls = b.pulls := congrArg Kept.pulls h
theorem Station.audit_of_kept : a.audit = b.audit := congrArg Kept.audit h
theorem Station.hatch_of_kept : a.hatch = b.hatch := congrArg Kept.hatch h

/-- The records, copies and last readings of the slots. -/
theorem Station.slots_of_kept : a.table.slots.map Slot.content = b.table.slots.map Slot.content :=
  congrArg (fun k => k.table.slots) h

/-- The transfer entries beside their reply timers. -/
theorem Station.xfers_of_kept :
    a.xfer.entries.map XferEntry.content = b.xfer.entries.map XferEntry.content :=
  congrArg (fun k => k.xfer.entries) h

end

section
variable (st : Station)

@[simp] theorem Station.hand_pulls (k d b) : (st.hand k d b).pulls = st.pulls :=
  Station.pulls_of_kept (st.hand_kept k d b)
@[simp] theorem Station.hand_audit (k d b) : (st.hand k d b).audit = st.audit :=
  Station.audit_of_kept (st.hand_kept k d b)
@[simp] theorem Station.hand_hatch (k d b) : (st.hand k d b).hatch = st.hatch :=
  Station.hatch_of_kept (st.hand_kept k d b)
@[simp] theorem Station.hand_motion (k d b) : (st.hand k d b).motion = st.motion :=
  Station.motion_of_outer (st.hand_outer k d b)
@[simp] theorem Station.hand_loader (k d b) : (st.hand k d b).loader = st.loader :=
  Station.loader_of_outer (st.hand_outer k d b)
@[simp] theorem Station.hand_supp (k d b) : (st.hand k d b).supp = st.supp :=
  Station.supp_of_outer (st.hand_outer k d b)
@[simp] theorem Station.hand_pins (k d b) : (st.hand k d b).pins = st.pins :=
  Station.pins_of_outer (st.hand_outer k d b)

end

end Sys2Proof
end

