-- ==== Sys2Proof/Laws/Line.lean ====
section
/-! SUPPORT. What handing a message does where the queue has room: `hand`, `reply`, `handFire` and
`handFireReport` each put exactly one message at the end of the queue. -/

namespace Sys2Proof

/-- With no slot owing a damage report, none is offered (R90). -/
theorem Station.firstDamage_none {st : Station}
    (h : ∀ sl ∈ st.table.slots, sl.difference = 0 ∧ sl.damage = .none) : st.firstDamage = none := by
  unfold Station.firstDamage
  rw [List.findSome?_eq_none_iff]
  intro p hp
  simp [(h p.1 (List.fst_mem_of_mem_zipIdx hp)).2]

/-- With every record sound, no read finds damage (R88, R90). -/
theorem Station.unreported_nil {st : Station}
    (h : ∀ sl ∈ st.table.slots, sl.difference = 0 ∧ sl.damage = .none) : st.unreported = [] := by
  unfold Station.unreported
  rw [List.map_eq_nil_iff, List.filter_eq_nil_iff]
  intro p hp
  simp [Slot.sound, (h p.1 (List.fst_mem_of_mem_zipIdx hp)).1]

/-- Reading every record of a sound table changes nothing. -/
theorem Station.readAll_sound {st : Station}
    (h : ∀ sl ∈ st.table.slots, sl.difference = 0 ∧ sl.damage = .none) : st.readAll = st := by
  simp [Station.readAll, Station.unreported_nil h]

/-- A slot of a sound table is sound, blank slots beyond the table included. -/
theorem Station.slot_sound {st : Station}
    (h : ∀ sl ∈ st.table.slots, sl.difference = 0 ∧ sl.damage = .none) (n : Nat) :
    (st.table.slot n).sound = true := by
  unfold SlotTable.slot
  rw [List.getD_eq_getElem?_getD]
  cases e : st.table.slots[n]? with
  | none => rfl
  | some sl => simp [Slot.sound, (h sl (List.mem_of_getElem? e)).1]

/-- Reading one record of a sound table changes nothing. -/
theorem Station.noticeDamage_sound {st : Station}
    (h : ∀ sl ∈ st.table.slots, sl.difference = 0 ∧ sl.damage = .none) (n : Nat) :
    st.noticeDamage n = st := by
  simp [Station.noticeDamage, Station.slot_sound h n]

/-- With the line not idle no attempt is selected (R180). -/
theorem Station.select_busy {st : Station} (h : st.line.idle = false) : st.select = st := by
  unfold Station.select Station.onlyIf
  split
  · simp [Station.onLine, Line.select, h]
  · rfl

/-- A message without a reply timer, handed to a quiet queue, is put at its end (R178, R179). -/
theorem Station.hand_quiet {st : Station} {n : Nat} {k : Blk} {d : Addr} {b : Body}
    (h : st.Quiet (n + 1)) (hb : b.timedTid = none) : st.hand k d b = st.post k d b := by
  have hd : ∀ s : Station, s.table = st.table → s.firstDamage = none := fun s e =>
    Station.firstDamage_none (by rw [e]; exact h.sound)
  have hr := h.room
  unfold Station.hand Station.onlyIf
  rw [if_pos h.joined]
  have first : (st.onLine fun l =>
      { l with
        pend := l.pend ++ [{ made := l.made, blk := k, dest := d, body := b }]
        made := l.made + 1 }).placeOffer = some (st.post k d b) := by
    unfold Station.placeOffer
    rw [if_neg]
    · simp only [Station.onLine_line, h.pend, List.nil_append]
      rw [hd _ (by rfl)]
      simp only [Station.takePend, Station.join, hb]
      rw [Station.select_busy (by simp [Line.append, h.busy])]
      simp [Station.post, Line.post, Station.onLine, Line.append, h.pend]
    · rintro (e | e)
      · have : (!st.joined) = true := e
        simp [h.joined] at this
      · simp only [Station.onLine_line] at e
        omega
  have second : (st.post k d b).placeOffer = none := by
    unfold Station.placeOffer
    split
    · rfl
    · simp only [Station.post, Line.post, h.pend]
      rw [hd _ (by rfl)]
  simp [Station.offerPlaces, Station.offerUpTo, first, second]

/-- A REPLY handed to a quiet queue (R179). -/
theorem Station.reply_quiet {st : Station} {n : Nat} {k : Blk} {c : Addr} {kind seq : Byte}
    {o : ReplyOutcome} {d : Option Detail} (h : st.Quiet (n + 1)) :
    st.reply k c kind seq o d = st.postReply k c kind seq o d :=
  Station.hand_quiet h rfl

/-- Quiet after one message more. -/
theorem Station.Quiet.post {st : Station} {n : Nat} (h : st.Quiet (n + 1)) (k : Blk) (d : Addr)
    (b : Body) : (st.post k d b).Quiet n where
  joined := h.joined
  pend := h.pend
  sound := h.sound
  room := by
    have := h.room
    simp [Station.post, Line.post]
    omega
  busy := h.busy

/-- A FIRE message handed to a quiet queue that holds no FIRE-REPORT (R178, R179). -/
theorem Station.handFire_quiet {st : Station} {n : Nat} {b : Body} (h : st.Quiet (n + 1))
    (hb : b.isFireReport = false ∨ st.noReport) :
    st.handFire b = st.post .suppression allAddr b := by
  have hr := h.room
  have none : st.line.queue.find? (fun q => b.isFireReport && q.body.isFireReport) = none := by
    rw [List.find?_eq_none]
    intro q hq
    rcases hb with e | e
    · simp [e]
    · simp [e q hq]
  have offered : st.line.offerFire b = st.line.post .suppression allAddr b := by
    unfold Line.offerFire
    rw [none]
    simp only
    rw [if_pos (by omega)]
    rfl
  unfold Station.handFire Station.onlyIf
  rw [if_pos h.joined]
  have e : (st.onLine fun l => l.offerFire b) = st.post .suppression allAddr b := by
    simp only [Station.onLine, offered, Station.post]
  simp only [e]
  exact Station.select_busy h.busy

/-- The FIRE-REPORT handed to a quiet queue that holds none (R55). -/
theorem Station.handFireReport_quiet {st : Station} {n : Nat} (h : st.Quiet (n + 1))
    (hb : st.noReport) :
    st.handFireReport = st.post .suppression allAddr (.fireReport st.fireReportBody) :=
  Station.handFire_quiet h (.inr hb)

end Sys2Proof
end

