-- ==== Sys2Proof/Laws/Records.lean ====
section
/-! SUPPORT. What reading and writing a slot record comes to where no damage is found and no pull entry
stands at the slot; what a command to the motion channel and the choice of a transfer id can change. -/

namespace Sys2Proof

/-! ### Reads -/

theorem Station.slot_eq {st : Station} {n : Nat} {sl : Slot} (h : st.table.slots[n]? = some sl) :
    st.table.slot n = sl := by
  simp [SlotTable.slot, List.getD, h]

/-- A sound record that is settled reads as it stands. -/
theorem Slot.view_of_sound {sl : Slot} (h : sl.difference = 0) (hr : sl.record ≠ .unsettled) :
    sl.view = sl.record := by
  simp [Slot.view, Slot.sound, h, hr]

theorem Slot.view_of_damaged {sl : Slot} (h : sl.difference ≠ 0) : sl.view = .unknown := by
  unfold Slot.view Slot.sound
  rw [if_neg (by simpa using h)]

/-- A read that finds no damage, or none that is new, changes nothing. -/
theorem Station.noticeDamage_of_known {st : Station} {n : Nat} {sl : Slot}
    (hs : st.table.slots[n]? = some sl) (h : sl.difference = 0 ∨ sl.damage ≠ .none) :
    st.noticeDamage n = st := by
  unfold Station.noticeDamage
  rw [Station.slot_eq hs]
  rcases h with h | h <;> simp [Slot.sound, h]

/-- A read of every record changes nothing where all damage has been reported. -/
theorem Station.readAll_of_reported {st : Station} (h : st.damageReported) : st.readAll = st := by
  have e : st.unreported = [] := by
    unfold Station.unreported
    rw [List.map_eq_nil_iff, List.filter_eq_nil_iff]
    rintro ⟨sl, n⟩ hp
    rcases h sl (List.mem_of_getElem? (List.mk_mem_zipIdx_iff_getElem?.1 hp)) with h | h <;>
      simp [Slot.sound, h]
  simp [Station.readAll, e]

/-! ### Writes -/

theorem Station.cancelPulls_of_none {st : Station} {p : PullEntry → Bool}
    (h : ∀ e ∈ st.pulls.entries, p e = false) : st.cancelPulls p = st := by
  unfold Station.cancelPulls
  have e : st.pulls.entries.filter p = [] := by simpa using h
  simp [e]

theorem Station.putRecord_eq (st : Station) (n : Nat) (r : Rec) :
    st.putRecord n r = st.withRecord n r := rfl

/-- A write at a slot without a pull entry writes the record alone. -/
theorem Station.writeRecord_of_unpulled {st : Station} {n : Nat} (r : Rec)
    (h : ∀ e ∈ st.pulls.entries, e.slot ≠ n) : st.writeRecord n r = st.withRecord n r := by
  unfold Station.writeRecord
  exact Station.cancelPulls_of_none fun e he => by simp [h e he]

theorem Station.withRecord_slot {st : Station} {n : Nat} {sl : Slot} (r : Rec)
    (h : st.table.slots[n]? = some sl) :
    (st.withRecord n r).table.slots[n]?
      = some { sl with record := r, difference := 0, damage := .none } := by
  simp [Station.withRecord, h]

/-- A write leaves every slot's debounced copy. -/
theorem Station.withRecord_debounced (st : Station) (n : Nat) (r : Rec) (m : Nat) :
    ((st.withRecord n r).table.slot m).debounced = (st.table.slot m).debounced := by
  simp only [SlotTable.slot, Station.withRecord, List.getD, List.getElem?_modify]
  cases st.table.slots[m]? with
  | none => rfl
  | some s => by_cases h : n = m <;> simp [h]

/-! ### The motion channel -/

theorem Station.driveDue_motion (st : Station) (e : MotionEnd) :
    (st.driveDue e).1 = { st with motion := (st.driveDue e).1.motion } := by
  unfold Station.driveDue
  split <;> rfl

theorem Station.startDrive_motion (st : Station) (e : MotionEnd) :
    (st.startDrive e).1 = { st with motion := (st.startDrive e).1.motion } := by
  unfold Station.startDrive
  dsimp only
  split
  · rfl
  · rw [Station.driveDue_motion]; rfl

/-- A command changes the channel alone. -/
theorem Station.command_motion (st : Station) (e : MotionEnd) :
    (st.command e).1 = { st with motion := (st.command e).1.motion } := by
  unfold Station.command
  dsimp only
  split
  · split
    · rfl
    · rw [Station.startDrive_motion]; rfl
  · split
    · rfl
    · split
      · rfl
      · rw [Station.startDrive_motion]; rfl
  · split
    · rfl
    · rw [Station.startDrive_motion]; rfl

/-! ### The transfer counter -/

/-- Where one of the next `f` numbers is free, the counter takes the first that is. -/
theorem nextCounter_first (used : List Byte) : ∀ (f : Nat) (c : Byte),
    (∃ h < f, c + 1 + BitVec.ofNat 8 h ∉ used) →
    ∃ i, nextCounter used f c = c + 1 + BitVec.ofNat 8 i ∧ c + 1 + BitVec.ofNat 8 i ∉ used ∧
      ∀ h < i, c + 1 + BitVec.ofNat 8 h ∈ used := by
  intro f
  induction f with
  | zero => rintro c ⟨h, h1, _⟩; omega
  | succ f ih =>
    rintro c ⟨h, h1, h2⟩
    have shift : ∀ k : Nat, c + 1 + 1 + BitVec.ofNat 8 k = c + 1 + BitVec.ofNat 8 (k + 1) := by
      intro k
      rw [BitVec.add_assoc (c + 1)]
      congr 1
      apply BitVec.eq_of_toNat_eq
      simp
      omega
    unfold nextCounter
    by_cases hc : c + 1 ∈ used
    · rw [if_pos (by simpa using hc)]
      obtain ⟨i, h3, h4, h5⟩ := ih (c + 1) (by
        cases h with
        | zero => exact absurd hc (by simpa using h2)
        | succ k => exact ⟨k, by omega, by rwa [shift]⟩)
      refine ⟨i + 1, by rw [h3, shift], by rwa [← shift], ?_⟩
      intro k hk
      cases k with
      | zero => simpa using hc
      | succ k => rw [← shift]; exact h5 k (by omega)
    · rw [if_neg (by simpa using hc)]
      exact ⟨0, by simp, by simpa using hc, fun h hh => by omega⟩

end Sys2Proof
end

