-- ==== Sys2Proof/WellFormed.lean ====
section
/-! DEFINITION. The well-formed commands: operands within what the line, the field wiring and the
retained memory can give. Every meaning is total on ill-formed operands too. -/

namespace Sys2Proof

/-- A message of a station kind comes from a station address (R175, R176). -/
def stationSource (a : Addr) : Bool := decide (a.toNat < 24)

/-- A message of a console kind comes from a console address (R175, R176). -/
def consoleSource (a : Addr) : Bool := decide (24 ≤ a.toNat ∧ a.toNat < 32)

/-- A slot's decay names one of the 256 slots (R86). -/
def Decay.wf : Decay → Bool
  | .marker => true
  | .collection _ _ => true
  | .slotRecord n _ => decide (n < 256)

/-- A frame the line can carry as one (R174): at most 47 characters. -/
def frameLength (bytes : List Byte) : Bool := decide (bytes.length ≤ 47)

/-- A well-formed command. -/
def Instr.wf (i : Instr) : Bool :=
  match i with
  | .powerUp decay => decay.all Decay.wf
  | .resetLineAssert => true
  | .resetLineRelease => true
  | .imageReadComplete _ _ => true
  | .selftestComplete _ => true
  | .listenEnd => true
  | .restart src _ => consoleSource src
  | .restartTimerExpiry => true
  | .restartStart => true
  | .measurementSlot => true
  | .captureComplete _ => true
  | .excursionDelayExpiry => true
  | .adcScan => true
  | .loopSample _ _ => true
  | .temperatureCode _ => true
  | .batteryCode _ => true
  | .valvePeriodExpiry => true
  | .onTimeExpiry => true
  | .neighbourSealExpiry => true
  | .deadTimeExpiry => true
  | .travelExpiry => true
  | .endSwitchClose _ => true
  | .endSwitchOpen _ => true
  | .holdSwitchChange _ => true
  | .evacuationExpiry => true
  | .countdownExpiry => true
  | .releasePulseExpiry => true
  | .soakExpiry => true
  | .restore src _ => consoleSource src
  | .attendantRead _ _ => true
  | .doorUnlockExpiry => true
  | .occupancyClear src _ => consoleSource src
  | .presenceScan _ => true
  | .minuteTimerExpiry => true
  | .keySwitchChange _ => true
  | .holdSet src _ _ _ _ _ => consoleSource src
  | .inspectClear src _ _ => consoleSource src
  | .querySlot src _ _ => consoleSource src
  | .queryCartridge src _ _ => consoleSource src
  | .queryTransfer src _ _ => consoleSource src
  | .checkout src _ _ _ _ _ => consoleSource src
  | .cancel src _ _ => consoleSource src
  | .checkStationScan _ _ => true
  | .audit src _ _ _ => consoleSource src
  | .auditStepExpiry => true
  | .offer src _ _ _ _ => stationSource src
  | .accept src _ _ => stationSource src
  | .refuse src _ _ => stationSource src
  | .arrive src _ => stationSource src
  | .close src _ _ _ => stationSource src
  | .withdraw src _ => stationSource src
  | .claim src _ => stationSource src
  | .replyTimerExpiry _ => true
  | .transitExpiry _ => true
  | .claimTimerExpiry _ => true
  | .checkin src _ _ _ _ => consoleSource src
  | .innerRead _ _ => true
  | .courierRead _ => true
  | .outerCartridgeRead _ => true
  | .sendPress _ => true
  | .donePress _ => true
  | .sessionTimerExpiry => true
  | .encoderTransition _ _ => true
  | .flapChange _ _ => true
  | .status src _ => stationSource src
  | .fireReport src _ => stationSource src
  | .discharge src _ => stationSource src
  | .custodyAlert src _ => stationSource src
  | .handover src _ => stationSource src
  | .peerSilent addr => stationSource addr
  | .peerLost addr => stationSource addr
  | .frameReceive bytes => frameLength bytes
  | .beaconExpiry => true
  | .lineFaultExpiry => true
  | .lineIdle => true
  | .accessDelayExpiry => true
  | .characterDuringWait => true
  | .transmitSuccess => true
  | .readbackFailure => true
  | .powerLoss => true

end Sys2Proof
end

