-- ==== Sys2Proof/Tests/Slice0.lean ====
section
/-! SUPPORT. The model's own tests: what WellFormed refuses, the manual's worked examples, and for each
statement with hypotheses a witness that meets them, with what the statement then says evaluated. -/

namespace Sys2Proof.Tests

-- The tests are evaluated by the kernel one after the other: at once, they would hold a thread each.
set_option Elab.async false

/-! ### The benches -/

/-- The configuration of the manual's worked examples (sections 1.4 and 2.2), with four used loops. -/
def bayCfg : ConfigRecord :=
  { ConfigRecord.none with
    neighbours := [4, 6], loop0 := ⟨.smoke, .a⟩, loop1 := ⟨.smoke, .b⟩, loop2 := ⟨.heat, .a⟩
    loop3 := ⟨.manual, .b⟩, batteryLow := 300, p0 := 24000, p100 := 31000, k := 12, sp := 400
    band := 50, db := 20, gain := 32, alphaDiv := 8, excDelay := 10, fallbackDemand := 100
    capacity := 1200, cap := 500, vfull := 640, valvePeriod := 20, minPulse := 500
    damperTravel := 30, drawerTravel := 20, expoLimit := 100, acclim := 60, posOut := 2000 }

/-- A sound slot, its cartridge present or not as the record says. -/
def slotOf (r : Rec) : Slot :=
  { record := r, difference := 0, debounced := some r.presence, last := some r.presence
    damage := .none }

/-- The data of a cartridge just filed. -/
def cartOf (id : Cart) : CartData :=
  { id := id, exposure := 0, acclim := none, inspect := false, mark := none }

/-- A JOINED BAY at address 5, damper OPEN, no fire, cartridges 100 to 103 in its first four slots. -/
def bay : Station :=
  { Station.reset with
    loader := { Station.reset.loader with state := .joined, own := 5, cfg := bayCfg }
    retention := { markerGood := true, role := some .bay }
    motion := { Station.reset.motion with state := .resting .a, last := some .a, dead := none }
    pins := { Station.reset.pins with openEnd := true }
    peers := { Station.reset.peers with neighbours := [4, 6] }
    table := { Station.reset.table with
      minute := some 0
      slots := [slotOf (.filed (cartOf 100)), slotOf (.filed (cartOf 101)),
        slotOf (.filed (cartOf 102)), slotOf (.filed (cartOf 103))]
        ++ List.replicate 252 (slotOf .vacant) } }

/-- A JOINED HATCH at address 20, drawer IN, no session, one cartridge waiting for job 700 and one
expected under job 701 for bay 5. -/
def hatch : Station :=
  { Station.reset with
    loader := { Station.reset.loader with
      state := .joined, own := 20, cfg := { bayCfg with role := .hatch } }
    retention := { markerGood := true, role := some .hatch }
    motion := { Station.reset.motion with state := .resting .b, last := some .b, dead := none }
    pins := { Station.reset.pins with innerEnd := true }
    hatch := { Station.reset.hatch with
      custody := [{ cart := 9, job := 700, state := .heldOutbound, dest := none }]
      expected := [{ job := 701, cart := 30, dest := 5 }] } }

/-- The machine of a station, with no command waiting. -/
def mach (st : Station) : Machine.State := { station := st, pending := [] }

/-- The station after a command. -/
def after (c : Instr) (st : Station) : Station :=
  match Machine.exec c (mach st) with
  | .next s => s.station
  | .fault _ => st
  | .refused _ => st

/-- A bay in a fire state, its outputs as the manual's table gives. -/
def inFire (f : FireState) (st : Station) : Station :=
  { st with supp := st.supp.inState f f.sounder f.warning f.releaseOn f.exhaust }

/-- A peer that has been heard with a STATUS. -/
def heardPeer (r : Role) (demand : Nat) : Peer :=
  .alive { age := 0, interval := 2, roleDemand := some (r, demand), fire := some (.normal, 0) }

/-- The bay with stations 4, 6 and 20 heard: two bays in its neighbour set, and a hatch. -/
def bayHeard : Station :=
  { bay with peers := { bay.peers with
      records := ((bay.peers.records.set 4 (heardPeer .bay 60)).set 6 (heardPeer .bay 140)).set 20
        (heardPeer .hatch 0) } }

/-! ### WellFormed -/

theorem test_wf_console_source : (Instr.restart 5 0).wf = false ∧ (Instr.restart 24 0).wf = true ∧
    (Instr.restart 32 0).wf = false := by decide

theorem test_wf_station_source : (Instr.arrive 24 ⟨5, 1⟩).wf = false ∧
    (Instr.arrive 23 ⟨5, 1⟩).wf = true := by decide

theorem test_wf_decay_slot : (Instr.powerUp [.slotRecord 256 1]).wf = false ∧
    (Instr.powerUp [.slotRecord 255 1]).wf = true := by decide

theorem test_wf_frame_length : (Instr.frameReceive (List.replicate 48 0)).wf = false ∧
    (Instr.frameReceive (List.replicate 47 0)).wf = true := by decide

/-! ### The interface -/

/-- The table spells no command in bits, so a word leaves the machine as it is. -/
theorem test_no_word_spells : (mach bay).withFetchWord 8 0 = mach bay := rfl

theorem test_core_resets : core.reset = Machine.State.reset := rfl

theorem test_step_runs_front :
    Machine.step { station := bay, pending := [.measurementSlot] }
      = .next (mach (after .measurementSlot bay)) := rfl

/-- The damper's dead time runs from the start (R39), and its expiry comes due in its turn. -/
theorem witness_IdleStepPassesTime :
    (mach bay).pending = [] ∧ bay.live = true ∧ bay.due = [.minuteTimerExpiry] ∧
    Station.reset.live = true ∧ Station.reset.due = [] ∧ Station.reset.tick.motion.dead = some 62499 ∧
    ({ bay with loader := { bay.loader with powered := false } } : Station).live = false := by
  decide +kernel

/-- A bay with station 4's record ALIVE or SILENT at an age, its beacon interval 2 s. -/
def aged (silent : Bool) (age : Ticks) : Station :=
  let d : PeerData := { age := age, interval := 2, roleDemand := none, fire := none }
  { bay with
    table := { bay.table with minute := none }
    peers := { bay.peers with records := bay.peers.records.set 4 (if silent then .silent d else .alive d) } }

/-- SILENT at 6 s, LOST at 20 s, and one tick before each. -/
theorem witness_DueListed :
    (aged false 749999).due = [] ∧ (aged false 750000).due = [.peerSilent 4] ∧
    (aged true 2499999).due = [] ∧ (aged true 2500000).due = [.peerLost 4] ∧
    (aged true 7).peers.records.length ≤ 256 ∧
    (aged false 749999).tick.peers.records = (aged false 750000).peers.records := by
  decide +kernel

/-! ### Chapter 1 -/

/-- Codes at their limits, and the two of section 1.4 (443 and 444). -/
theorem witness_SamplesAndExcursionDelay :
    bay.bay = true ∧ hatch.bay = false ∧
    after .measurementSlot bay = { bay with
      moist := { bay.moist with capturing := true, slotTimer := some 250000 } } ∧
    after .measurementSlot hatch = hatch ∧
    (after (.temperatureCode (.sample 1)) bay).moist.temp = -499 ∧
    (after (.temperatureCode (.sample 1022)) bay).moist.temp = 1148 ∧
    (after (.temperatureCode (.sample 443)) bay).moist.temp = 214 ∧
    (after (.temperatureCode (.sample 444)) bay).moist.temp = 216 ∧
    after (.temperatureCode (.sample 0)) bay = bay ∧ after (.temperatureCode (.sample 1023)) bay = bay ∧
    after (.temperatureCode (.sample 444)) hatch = hatch ∧
    (after .adcScan bay).det.longScan = true ∧ (after .adcScan bay).det.scanCount = 1 ∧
    (after .adcScan { bay with det := { bay.det with scanCount := 7 } }).det.scanCount = 0 ∧
    after .adcScan Station.reset = Station.reset := by
  decide +kernel

/-- The bay with the excursion delay running for a side. -/
def delaying (side : Side) : Station :=
  { bay with moist := { bay.moist with filtered := some 450, delay := some (side, 0) } }

theorem witness_ExcursionDelay :
    (after .excursionDelayExpiry (delaying .above)).moist.status = .high ∧
    (after .excursionDelayExpiry (delaying .below)).moist.status = .low ∧
    after .excursionDelayExpiry bay = bay ∧
    (delaying .above).moist.status ≠ .sensorFault ∧
    (after (.captureComplete (.complete (some 27150)))
      (after .excursionDelayExpiry (delaying .above))).moist.filtered = some 450 ∧
    (after (.captureComplete (.complete (some 27150)))
      (after .excursionDelayExpiry (delaying .above))).moist.status = .inBand ∧
    after .excursionDelayExpiry (after (.captureComplete (.complete (some 27150))) (delaying .above))
      = after (.captureComplete (.complete (some 27150))) (delaying .above) := by
  decide +kernel

/-- The counts that section 1.2's table judges at 25.0 °C, at their limits, and an overflow. -/
theorem witness_MeasurementJudgedAndFiltered :
    let run (n : Nat) (p : Option (BitVec 16)) : Moisture :=
      (after (.captureComplete (.complete p)) { bay with
        moist := { bay.moist with filtered := some 455, raw := some 455, faultRun := n } }).moist
    (run 0 none).faultRun = 1 ∧ (run 0 (some 7999)).faultRun = 1 ∧
    (run 0 (some 22999)).faultRun = 1 ∧ (run 0 (some 32001)).faultRun = 1 ∧
    (run 255 none).faultRun = 255 ∧ (run 4 none).status = .sensorFault ∧
    (run 3 none).status ≠ .sensorFault ∧ (run 3 none).filtered = some 455 ∧
    (run 0 (some 23000)).raw = some 0 ∧ (run 0 (some 32000)).raw = some 1000 ∧
    (run 5 (some 26500)).filtered = (run 5 (some 26500)).raw ∧ (run 1 none).raw = some 455 := by
  decide +kernel

/-- Section 1.4: at 21.6 °C the count 26,460 gives the raw RH 357 and the filtered RH 443. -/
theorem test_measurement_of_section_1_4 :
    let m := (after (.captureComplete (.complete (some 26460))) (after (.temperatureCode (.sample 444)) { bay with
      moist := { bay.moist with filtered := some 455 } })).moist
    m.raw = some 357 ∧ m.filtered = some 443 ∧ m.status = .inBand := by
  decide

/-- Either side of the band's two edges, 350 and 450, and with the delay running. -/
theorem witness_MeasurementClassified :
    let run (f : Nat) (delay : Option (Side × Ticks)) : Moisture :=
      (after (.captureComplete (.complete (some 27500))) { bay with
        loader := { bay.loader with cfg := { bayCfg with sp := f, alphaDiv := 1 } }
        moist := { bay.moist with filtered := some 500, delay := delay } }).moist
    (run 450 none).filtered = some 500 ∧ (run 450 none).status = .inBand ∧
    (run 450 none).delay = none ∧ (run 449 none).delay = some (.above, 1250000) ∧
    (run 449 (some (.above, 7))).delay = some (.above, 7) ∧
    (run 550 none).delay = none ∧ (run 551 none).delay = some (.below, 1250000) ∧
    (run 551 (some (.above, 7))).delay = some (.below, 1250000) := by
  decide

/-! ### Chapter 2 -/

/-- Section 2.2: the filtered RH 443 with peers of demand 60 and 140 gives demand 126, share 463 and
on-time 14,460 ms; a third peer that is SILENT adds nothing. -/
theorem test_share_of_section_2_2 :
    let silent : Peer :=
      .silent { age := 0, interval := 2, roleDemand := some (.bay, 90), fire := none }
    let a := (after (.captureComplete (.complete (some 26460))) { bayHeard with
      moist := { bay.moist with temp := 216, filtered := some 455 }
      peers := { bayHeard.peers with records := bayHeard.peers.records.set 7 silent } }).air
    a.demand = 126 ∧ a.airShare = 463 ∧ a.staged = 14460 := by
  decide +kernel

/-- The on-time at the two margins of MINPULSE, 500 ms in 20 s. -/
theorem witness_DemandShareOnTime :
    bay.bay = true ∧ bayCfg.minPulse ≤ bayCfg.valvePeriod * 250 ∧
    onTimeOf bayCfg 24 = 0 ∧ onTimeOf bayCfg 25 = 500 ∧ onTimeOf bayCfg 975 = 19500 ∧
    onTimeOf bayCfg 976 = 20000 ∧ onTimeOf bayCfg 1000 = 20000 := by
  decide

/-- The bay with a staged on-time, its valve period running. -/
def stagedBay (staged : Nat) (safe : Bool) : Station :=
  { bay with air := { bay.air with staged := staged, period := some 0, forcedSafe := safe } }

theorem witness_ValveAndNeighbourSeal :
    (after .valvePeriodExpiry (stagedBay 500 false)).air.onTimer = some 62500 ∧
    (after .valvePeriodExpiry (stagedBay 500 false)).air.valve = true ∧
    (after .valvePeriodExpiry (stagedBay 20000 false)).air.valve = true ∧
    (after .valvePeriodExpiry (stagedBay 20000 false)).air.onTimer = none ∧
    (after .valvePeriodExpiry (stagedBay 0 false)).air.valve = false ∧
    (after .valvePeriodExpiry (stagedBay 500 true)).air.valve = false ∧
    after .valvePeriodExpiry bay = bay ∧
    (after .onTimeExpiry (after .valvePeriodExpiry (stagedBay 500 false))).air.valve = false ∧
    after .onTimeExpiry bay = bay := by
  decide +kernel

/-- The bay under a neighbour's seal. -/
def sealedBay : Station :=
  { bay with air := { bay.air with forcedSafe := true, sealTimer := some 0 } }

theorem witness_NeighbourSeal :
    bay.hearsPeer 4 ∧ bay.hearsPeer 7 ∧ hatch.hearsPeer 4 ∧ bay.hearsPeer 23 ∧
    (after (.discharge 4 9) bay).air.sealTimer = some 75000000 ∧
    (after (.discharge 4 121) bay).air.sealTimer = some 900000000 ∧
    (after (.discharge 4 20) bay).air.forcedSafe = true ∧
    (after (.discharge 4 20) bay).motion.state = .moving .b ∧
    (after (.discharge 4 20) sealedBay).motion = bay.motion ∧
    (after (.discharge 7 20) bay).air = bay.air ∧ (after (.discharge 4 20) hatch).air = hatch.air ∧
    (after .neighbourSealExpiry sealedBay).air.forcedSafe = false ∧
    (after .neighbourSealExpiry (inFire .prealarm sealedBay)).air.forcedSafe = false ∧
    (after .neighbourSealExpiry (inFire .evacuate sealedBay)).air.forcedSafe = true ∧
    after .neighbourSealExpiry bay = bay := by
  decide +kernel

/-- The bay with its channel in a state. -/
def channel (m : MotionState) (dead : Timer) (coilB : Bool) : Station :=
  { bay with motion := { bay.motion with state := m, dead := dead, coilB := coilB } }

theorem witness_MotionCommandTable :
    bay.command .a = (bay, none) ∧
    ((channel (.moving .a) none false).command .a).2 = none ∧
    ((channel (.resting .b) none false).command .a).2 = some (.arrived .a) ∧
    ((channel .stalled none false).command .a).1.motion.state = .resting .a ∧
    (bay.command .b).1.motion.coilB = true ∧
    (bay.command .b).1.motion.travel = some 3750000 ∧
    ((channel (.resting .a) (some 1) false).command .b).1.motion.coilB = false ∧
    ((channel (.moving .b) none true).command .a).1.motion.dead = some 62500 ∧
    ({ hatch with pins := { hatch.pins with outerFlapOpen := true } }.command .a).2
      = some (.stalled .interlock) := by
  decide +kernel

theorem witness_DeadTimeAndTravelExpire :
    bay.live = true ∧ after .deadTimeExpiry bay = bay ∧
    (after .deadTimeExpiry (channel (.resting .a) (some 0) false)).motion.dead = none ∧
    (after .deadTimeExpiry (channel (.moving .b) (some 0) false)).motion.coilB = true ∧
    (after .deadTimeExpiry { hatch with
      motion := { hatch.motion with state := .moving .a, dead := some 0 }
      pins := { hatch.pins with innerFlapOpen := true } }).motion.cause = some .interlock ∧
    hatch.hatch.session.state.active = false ∧ bay.running = true ∧
    (after .travelExpiry { bay with
      motion := { bay.motion with state := .moving .b, coilB := true, travel := some 0 } }).motion
      = { bay.motion with
          state := .stalled, cause := some .travel, dead := some 62500 } ∧
    after .travelExpiry bay = bay := by
  decide +kernel

theorem witness_DamperEndSwitches :
    (after (.endSwitchClose .closedEnd) (channel (.moving .b) none true)).motion.state
      = .resting .b ∧
    (after (.endSwitchClose .openEnd) (channel .stalled none false)).motion.state = .resting .a ∧
    (after (.endSwitchClose .closedEnd) bay).motion = bay.motion ∧
    (after (.endSwitchClose .innerEnd) bay).motion = bay.motion ∧
    (after (.endSwitchOpen .openEnd) bay).motion.coilA = true ∧
    (after (.endSwitchOpen .openEnd) (channel (.resting .a) (some 1) false)).motion.coilA = false ∧
    (after (.endSwitchOpen .closedEnd) bay).motion = bay.motion ∧
    (after (.endSwitchOpen .innerEnd) bay).motion = bay.motion := by
  decide +kernel

/-! ### Chapter 3 -/

/-- The bay after samples of loop 0, a SMOKE loop. -/
def sampled (codes : List (BitVec 10)) : Station :=
  codes.foldl (fun st c => after (.loopSample 0 (.sample c)) st) bay

/-- The edges of R43's bands; UNUSED loops; the runs of three and four. -/
theorem witness_LoopBandSorted :
    (sampled [900]).det.loop0.band = some .opened ∧ (sampled [899]).det.loop0.band = some .normal ∧
    (sampled [500]).det.loop0.band = some .normal ∧ (sampled [499]).det.loop0.band = some .alarm ∧
    (sampled [150]).det.loop0.band = some .alarm ∧ (sampled [149]).det.loop0.band = some .shorted ∧
    (bayCfg.loop 2).kind ≠ .smoke ∧ (after (.loopSample 2 (.sample 499)) bay).det.loop2.latched = true ∧
    (after (.loopSample 0 (.sample 400)) { bay with
      loader := { bay.loader with cfg := ConfigRecord.none } }).det = bay.det ∧
    (sampled [400, 400]).det.loop0.alarmRun = 2 ∧ (sampled [400, 500]).det.loop0.alarmRun = 0 ∧
    (sampled [400, 400]).det.loop0.latched = false ∧
    (sampled [900, 0, 900]).det.loop0.trouble = .none ∧
    (sampled [900, 0, 900]).det.loop0.troubleRun = 3 ∧
    (sampled [900, 0, 900, 149]).det.loop0.trouble = .shorted ∧
    (sampled [900, 0, 900, 149, 900]).det.loop0.trouble = .opened ∧
    (sampled [0, 0, 0, 0, 600, 600, 600]).det.loop0.trouble = .shorted ∧
    (sampled [0, 0, 0, 0, 600, 600, 600, 600]).det.loop0.trouble = .none := by
  decide +kernel

/-- BATTERY_LOW is 300: one below, one at it. -/
theorem witness_BatteryJudged :
    let low := after (.batteryCode (.sample 299)) bay
    low.det.battery = false ∧ low.det.batteryRun = 1 ∧
    (after (.batteryCode (.sample 299)) low).det.battery = true ∧ (after (.batteryCode (.sample 300)) low).det = bay.det ∧
    (after (.batteryCode (.sample 0)) { bay with
      loader := { bay.loader with cfg := { bayCfg with batteryLow := 0 } } }).det = bay.det ∧
    (after .countdownExpiry { inFire .countdown bay with
      det := { bay.det with battery := true }
      supp := { (inFire .countdown bay).supp with countdown := some 0 } }).supp.release = true := by
  decide +kernel

/-! ### Chapter 4 -/

/-- The bay with a pull of cartridge 100 in a state. -/
def pulling (s : PullState) (st : Station) : Station :=
  st.withPulls
    [{ cart := 100, slot := 0, job := 7, hatch := 20, requester := 24, reqSeq := 1, state := s }]

/-- The bay heard with station 4 in PREALARM for some time, and loop 2 latched. -/
def confirming (age : Ticks) : Station :=
  let inPrealarm : Peer :=
    .silent { age := 0, interval := 2, roleDemand := none, fire := some (.prealarm, age) }
  { bay with
    det := { bay.det with loop2 := { bay.det.loop2 with latched := true } }
    peers := { bay.peers with records := bay.peers.records.set 4 inPrealarm } }

/-- CONF_WIN is 60 s: at it and one tick beyond; both zones; occupied, empty, held, and a hatch. -/
theorem witness_ConfirmationTested :
    (confirming 7500000).confirmationHolds = true ∧ (confirming 7500001).confirmationHolds = false ∧
    ({ bay with det := { bay.det with zoneA := true, zoneB := true } } : Station).confirmationHolds
      = true ∧
    bay.confirmed = false ∧ (inFire .prealarm bay).confirmed = false ∧
    ({ bay with door := { bay.door with occupancy := [1] } } : Station).confirm.supp.fire
      = .evacuate ∧
    ({ bay with door := { bay.door with occupancy := [1] } } : Station).confirm.supp.evacuation
      = some 15000000 ∧
    bay.confirm.supp.fire = .countdown ∧ bay.confirm.supp.countdown = some 3750000 ∧
    ({ bay with supp := { bay.supp with holdClosed := true } } : Station).confirm.supp.fire = .held ∧
    ({ hatch with door := { hatch.door with occupancy := [1] } } : Station).confirm.supp.fire
      = .countdown := by
  decide +kernel

/-- The loop that latches, from its second ALARM sample. -/
def latchedLoop (run : Nat) : Loop :=
  { band := some .alarm, alarmRun := run, latched := true, trouble := .none, troubleRun := 0 }

/-- Loop 0, SMOKE of zone A, at its third sample; loop 2, HEAT, at its first; loop 3, MANUAL of zone B,
unconfirmed and confirmed. -/
theorem witness_AlarmsTakenIn :
    let second := sampled [400, 400]
    let first (d : Detection) (st : Station) : Station :=
      ({ st with det := d, supp := st.supp.inState .prealarm true false false false } :
        Station).handFireReport
    let d0 : Detection := { second.det with loop0 := latchedLoop 3, zoneA := true }
    let d2 : Detection := { bay.det with loop2 := latchedLoop 1, zoneA := true }
    let d3 : Detection := { bay.det with loop3 := latchedLoop 1, zoneB := true }
    second.supp.fire = .normal ∧ second.det.loop0.latched = false ∧ 2 ≤ second.det.loop0.alarmRun ∧
    (second.det.loop0.judgeTrouble .alarm).trouble = .none ∧
    ({ second with det := d0 } : Station).confirmationHolds = false ∧
    after (.loopSample 0 (.sample 499)) second = first d0 second ∧
    after (.loopSample 2 (.sample 150)) bay = first d2 bay ∧
    bay.supp.holdClosed = false ∧
    after (.loopSample 3 (.sample 150)) bay = ({ bay with
      det := d3
      supp := { bay.supp.inState .countdown true true false false with
        manual := true, countdown := some 3750000 } } : Station).followConfirmed.handFireReport ∧
    (after (.loopSample 3 (.sample 150)) (inFire .soak bay)) = { inFire .soak bay with det := d3 } := by
  decide +kernel

/-- The latch of loop 2 with the condition holding, by a neighbour in NORMAL and by zone B in
PREALARM; with it not holding, in PREALARM; in a confirmed state; and the call point's with the hold
switch CLOSED. -/
theorem witness_FirstAlarmConfirms :
    let heard : Station := { bay with peers := (confirming 0).peers }
    let inB (st : Station) : Station := { st with det := { st.det with zoneB := true } }
    let latch (st : Station) : Station :=
      { st with det := { st.det with loop2 := latchedLoop 1, zoneA := true } }
    let closed : Station := { bay with supp := { bay.supp with holdClosed := true } }
    let counted : Station := ({ closed with
      det := { bay.det with loop3 := latchedLoop 1, zoneB := true }
      supp := { closed.supp.inState .countdown true true false false with
        manual := true, countdown := some 3750000 } } : Station).followConfirmed.handFireReport
    (latch heard).confirmationHolds = true ∧
    after (.loopSample 2 (.sample 150)) heard = (latch heard).confirm ∧
    after (.loopSample 2 (.sample 150)) (inB (inFire .prealarm bay)) = (latch (inB (inFire .prealarm bay))).confirm ∧
    (latch (inFire .prealarm bay)).confirmationHolds = false ∧
    after (.loopSample 2 (.sample 150)) (inFire .prealarm bay) = latch (inFire .prealarm bay) ∧
    after (.loopSample 2 (.sample 150)) (inB (inFire .vent bay)) = latch (inB (inFire .vent bay)) ∧
    after (.loopSample 3 (.sample 150)) closed = ({ counted with
      supp := { counted.supp.inState .held true true false false with countdown := none } } :
        Station).handFireReport ∧
    (after (.loopSample 3 (.sample 150)) closed).supp.fire = .held := by
  decide +kernel

/-- A bay with a pull, an open transfer and a waiting restart, as it enters a confirmed state; and a
hatch with a session. -/
def busyBay : Station :=
  { bay with
    pulls := { bay.pulls with
      entries := [{ cart := 100, slot := 0, job := 7, hatch := 20, requester := 24, reqSeq := 1
                    state := .lit }]
      lamp := some 0 }
    xfer := { bay.xfer with
      entries := [{ tid := ⟨5, 1⟩, cart := 101, peer := 20, job := 7, direction := .outbound
                    state := .accepted, attempts := 0, transit := .running 9, slot := some 1
                    custody := none, acceptedSlot := none, reply := none }] }
    loader := { bay.loader with restartWait := some { made := 0, timer := some 1 } } }

theorem witness_BlocksFollowConfirmation :
    let st := inFire .countdown busyBay
    st.confirmed = true ∧ st.air.forcedSafe = false ∧
    st.followConfirmed.air.forcedSafe = true ∧ st.followConfirmed.motion.last = some .b ∧
    st.followConfirmed.pulls.lamp = none ∧
    st.followConfirmed.xfer.entries.map XferEntry.transit = [.paused 9] ∧
    st.followConfirmed.loader.restartWait = none ∧ (inFire .countdown hatch).confirmed = true ∧
    (inFire .countdown sealedBay).confirmed = true ∧
    (inFire .countdown sealedBay).followConfirmed.air = sealedBay.air ∧
    (inFire .countdown sealedBay).followConfirmed.motion = sealedBay.motion := by
  decide +kernel

/-- The exit from VENT: the damper closed and opened again, a neighbour's seal that holds it, a hatch. -/
theorem witness_BlocksResume :
    let paused (st : Station) : Station := { st with
      xfer := { busyBay.xfer with
        entries := busyBay.xfer.entries.map fun e => { e with transit := .paused 9 } } }
    let shut : Station := paused (pulling .waiting { channel (.resting .b) none false with
      air := { bay.air with forcedSafe := true } })
    shut.confirmed = false ∧ shut.audit.state = .idle ∧
    shut.followUnconfirmed.air.forcedSafe = false ∧
    shut.followUnconfirmed.motion.state = .resting .a ∧
    shut.followUnconfirmed.pulls.lamp = some 0 ∧
    shut.followUnconfirmed.xfer.entries.map XferEntry.transit = [.running 9] ∧
    sealedBay.followUnconfirmed = sealedBay ∧ bay.followUnconfirmed = bay ∧
    hatch.followUnconfirmed = hatch := by
  decide +kernel

/-- The bay in a state of the sequence with that state's timer at its end. -/
def atEnd (f : FireState) (lock hold : Bool) : Station :=
  { inFire f bay with
    supp := { (inFire f bay).supp with
      evacuation := if f = .evacuate then some 0 else none
      countdown := if f = .countdown then some 0 else none
      pulse := if f = .release then some 0 else none
      soak := if f = .soak then some 0 else none
      lock := lock, holdClosed := hold } }

theorem witness_SequenceTimersAndHold :
    (after .evacuationExpiry (atEnd .evacuate false false)).supp.fire = .countdown ∧
    (after .evacuationExpiry (atEnd .evacuate false true)).supp.fire = .held ∧
    after .evacuationExpiry bay = bay ∧
    (after (.holdSwitchChange (.filtered true)) (atEnd .countdown false false)).supp.fire = .held ∧
    (after (.holdSwitchChange (.filtered false)) (atEnd .held false true)).supp.countdown = some 3750000 ∧
    (after (.holdSwitchChange (.filtered true)) bay).supp = { bay.supp with holdClosed := true } ∧
    (after .countdownExpiry (atEnd .countdown false false)).supp.release = true ∧
    (after .countdownExpiry (atEnd .countdown true false)).supp.fire = .blocked ∧
    after .countdownExpiry bay = bay ∧
    (after .releasePulseExpiry (atEnd .release false false)).supp.fire = .soak ∧
    (after .releasePulseExpiry (atEnd .release false false)).supp.lock = true ∧
    (after .releasePulseExpiry (atEnd .release false false)).line.queue.map (fun q => q.body.kind)
      = [3, 2] ∧
    after .releasePulseExpiry bay = bay ∧
    (after .soakExpiry (atEnd .soak true false)).supp.exhaust = true ∧
    after .soakExpiry bay = bay := by
  decide +kernel

theorem witness_RestoreTable :
    let alarmed (st : Station) : Station :=
      { st with det := { st.det with loop2 := { st.det.loop2 with band := some .alarm } } }
    let outcome (st : Station) : List (Option Body) :=
      ((after (.restore 31 9) st).line.queue.map QMsg.body).map fun b =>
        match b with
        | .reply r => some (.reply r)
        | _ => none
    let told (o : ReplyOutcome) : Option Body :=
      some (.reply { kind := 19, seq := 9, outcome := o.code, detail := none })
    bay.hearsConsole 24 ∧ bay.hearsConsole 31 ∧
    outcome bay = [told .done] ∧ outcome (inFire .soak bay) = [told .busy] ∧
    outcome (alarmed (inFire .vent bay)) = [told .active] ∧
    outcome (inFire .prealarm bay) = [none, told .done] ∧
    outcome (inFire .blocked bay) = [none, told .done] ∧
    after (.restore 31 9) { bay with loader := { bay.loader with state := .listen } }
      = { bay with loader := { bay.loader with state := .listen } } := by
  decide +kernel

theorem witness_ReleaseLockKept :
    (atEnd .release true false).supp.lock = true ∧
    (after .resetLineRelease (atEnd .vent true false)).supp.lock = true ∧
    (after (.powerUp []) (atEnd .vent true false)).supp.lock = false := by
  decide +kernel

/-! ### Chapter 5 -/

/-- The bay with the records of its first four slots alone, which its scans read faster. -/
def bay4 : Station := { bay with table := { bay.table with slots := bay.table.slots.take 4 } }

/-- The bay with attendants inside. -/
def occupied (ids : List Cart) : Station := { bay4 with door := { bay4.door with occupancy := ids } }

set_option maxRecDepth 20000 in
/-- The list at its limits: one inside, seven, and eight. -/
theorem witness_BadgeReadAndUnlock :
    after (.attendantRead .courier 1) bay = bay ∧
    (after (.attendantRead .attendant 1) (occupied [1, 2])).door.occupancy = [2] ∧
    (after (.attendantRead .attendant 1) (occupied [1])).door.occupancy = [] ∧
    (after (.attendantRead .attendant 8) (occupied [1, 2, 3, 4, 5, 6, 7])).door.occupancy
      = [1, 2, 3, 4, 5, 6, 7, 8] ∧
    after (.attendantRead .attendant 9) (occupied [1, 2, 3, 4, 5, 6, 7, 8])
      = occupied [1, 2, 3, 4, 5, 6, 7, 8] ∧
    after (.attendantRead .attendant 9) (inFire .evacuate bay) = inFire .evacuate bay ∧
    (after (.attendantRead .attendant 9) bay).door.unlock = some 625000 ∧
    (after .doorUnlockExpiry (after (.attendantRead .attendant 9) bay)).door.output = false ∧
    after .doorUnlockExpiry bay = bay := by
  decide +kernel

/-- The bay with cartridge 100 out of its slot. -/
def outBay (unplanned : Bool) : Station :=
  { bay4 with table := { bay4.table with
      slots := slotOf (.out (cartOf 100) unplanned) :: bay4.table.slots.tail } }

set_option maxRecDepth 20000 in
theorem witness_OccupancyClearAndEmptying :
    let outcome (st : Station) : List Byte :=
      (after (.occupancyClear 24 9) st).line.queue.map fun q =>
        match q.body with
        | .reply r => r.outcome
        | .custodyAlert b => 200 + b.kind
        | _ => 255
    outcome hatch = [8] ∧ outcome (inFire .vent bay4) = [10] ∧ outcome bay4 = [0] ∧
    outcome (occupied [1]) = [0] ∧
    outcome { outBay true with door := { bay.door with occupancy := [1] } } = [205, 0] ∧
    ((outBay true).table.slot 0).difference = 0 ∧ (outBay false).emptyBayCheck 0 = outBay false ∧
    (({ inFire .evacuate bay4 with
      supp := { (inFire .evacuate bay4).supp with evacuation := some 9 } } :
        Station).bayEmptied).supp.fire = .countdown := by
  decide +kernel

/-! ### Chapter 6 -/

/-- The held sets of R97's table, at the edges of the extents. -/
theorem witness_HeldSetComputed :
    let held (e : Nat) (d : HoldEnd) (c : Bool) : List Nat :=
      (List.range 256).filter (⟨e, d, c⟩ : HoldSetting).held
    held 0 .low false = [] ∧ (held 0 .high true).length = 256 ∧
    held 3 .low false = [0, 1, 2, 3, 4, 5, 6, 7] ∧ (held 5 .high false).head? = some 224 ∧
    (held 5 .high false).length = 32 ∧ (held 5 .high true).getLast? = some 223 ∧
    (held 8 .low false).length = 256 ∧ held 8 .high true = [] ∧
    ({ bay with table := { bay.table with hold := ⟨1, .low, false⟩ } } : Station).recordRefusal 1
      (.filed (cartOf 101)) = some .held ∧
    (bay4.reserveWrite 55 ⟨5, 1⟩).2 = .full ∧ (bay.reserveWrite 55 ⟨5, 1⟩).2 = .slot 4 := by
  decide +kernel

/-- A table with cartridge 7 damaged in slots 0 and 2, and cartridge 8 sound in slot 1. -/
def mixed : SlotTable :=
  { bay.table with
    slots := [{ slotOf (.filed (cartOf 7)) with difference := 1 }, slotOf (.filed (cartOf 8)),
      { slotOf (.filed (cartOf 7)) with difference := 1 }] }

theorem witness_LookupByCartridge :
    mixed.lookup 7 = .damaged 0 ∧ mixed.lookup 8 = .sound 1 (.filed (cartOf 8)) ∧
    mixed.lookup 9 = .absent := by
  decide +kernel

/-- The state after reset holds no cartridge, so each stands in at most one record. -/
theorem witness_CartridgeIdsStayUnique : Machine.State.reset.station.idsUnique := by
  intro m n a b c d ha _ _ _ hc
  simp only [Machine.State.reset, Station.reset, List.getElem?_replicate, Option.ite_none_right_eq_some,
    Option.some.injEq] at ha
  obtain ⟨_, rfl⟩ := ha
  simp [Slot.blank, Rec.cart] at hc

/-- Slot 0 has read EMPTY once, and the bay's readings are as its records say elsewhere. -/
def lifted : Station :=
  { bay with table := { bay.table with
      slots := { slotOf (.filed (cartOf 100)) with last := some false } :: bay.table.slots.tail } }

theorem witness_quiet : bay.Quiet 1 ∧ lifted.Quiet 1 :=
  ⟨⟨by decide, by decide, by decide +kernel, by decide, by decide⟩,
    ⟨by decide, by decide, by decide +kernel, by decide, by decide⟩⟩

theorem witness_UnplannedRemovalFound :
    lifted.bay = true ∧ lifted.table.slots.length = 256 ∧ lifted.audit.state ≠ .running ∧
    (∀ e ∈ lifted.pulls.entries, e.slot ≠ 0 ∧ e.cart ≠ 100) ∧
    lifted.table.slots[0]? = some { slotOf (.filed (cartOf 100)) with last := some false } ∧
    (14#256).getLsbD 0 = false ∧
    (∀ m ∈ List.range 256, m ≠ 0 → lifted.table.slots[m]?.map Slot.debounced
      = some (some ((14#256).getLsbD m))) := by
  decide +kernel

/-- The short table's bay, slot 0 with a record. -/
def holding (r : Rec) : Station :=
  { bay4 with table := { bay4.table with slots := slotOf r :: bay4.table.slots.tail } }

/-- An audit at slot 0 in a state. -/
def auditing (s : AuditState) (st : Station) : Station :=
  { st with audit := { st.audit with
      state := s, cursor := some 0, requester := 24, finding := some (.identified 100)
      step := some 0 } }

theorem witness_PresenceChanges :
    (bay.table.slot 0).debounced = some true ∧
    (bay.readSlot 0 false).table.slots[0]?.map Slot.last = some (some false) ∧
    ((lifted.readSlot 0 false).table.slot 0).record = .out (cartOf 100) true ∧
    (((pulling .lit bay4).removal 0).table.slot 0).record = .out (cartOf 100) false ∧
    ((pulling .lit bay4).removal 0).pulls.entries.map PullEntry.state = [.out] ∧
    ((auditing .running bay4).removal 0).audit.state = .reading ∧
    ((auditing .running (holding .stray)).removal 0).audit.finding = some .unidentified ∧
    (((holding .unknown).removal 0).table.slot 0).record = .vacant ∧
    bay.audit.cursor ≠ some 0 ∧
    (((holding (.out (cartOf 100) true)).insertion 0).table.slot 0).record
      = .filed (cartOf 100) ∧
    (((holding (.departing (cartOf 100) ⟨5, 1⟩)).insertion 0).table.slot 0).record
      = .filed (cartOf 100) ∧
    (((holding (.reserved (cartOf 100) ⟨20, 1⟩)).insertion 0).table.slot 0).record
      = .filed { cartOf 100 with acclim := some 60 } ∧
    (((holding (.placing (cartOf 100) ⟨20, 1⟩)).insertion 0).table.slot 0).record
      = .filed { cartOf 100 with acclim := some 60 } ∧
    (((holding .vacant).insertion 0).table.slot 0).record = .stray ∧
    (((holding (.out (cartOf 100) true)).modifySlot 0 fun sl =>
      { sl with difference := 1, damage := .sent }).insertion 0).table.slots.map Slot.record
      = .stray :: bay4.table.slots.tail.map Slot.record := by
  decide +kernel

/-- OUT with its pull, free and held; DEPARTING and RESERVED with their entries; PLACING; a stray beside
a PLACING record. -/
theorem witness_InsertionsTold :
    let ins (st : Station) : Station := st.insertion 0
    let kinds (st : Station) : List Byte := st.line.queue.map fun q => q.body.kind
    let entry (tid : Tid) (s : XferState) (st : Station) : Station :=
      { st with xfer := { st.xfer with
          lamps := [(0, .on)]
          entries := [{ tid := tid, cart := 100, peer := 20, job := 700, direction := .outbound
                        state := s, attempts := 2, transit := .stopped, slot := some 0
                        custody := none, acceptedSlot := none, reply := none }] } }
    let out : Station := pulling .out (outBay false)
    let held : Station := { out with table := { out.table with hold := ⟨8, .low, false⟩ } }
    let leaving (s : XferState) : Station := entry ⟨5, 1⟩ s (holding (.departing (cartOf 100) ⟨5, 1⟩))
    let coming (r : Rec) (s : XferState) : Station := entry ⟨20, 1⟩ s (holding r)
    let beside : Station := { bay4 with table := { bay4.table with
      slots := [slotOf .vacant, slotOf .vacant, slotOf (.placing (cartOf 55) ⟨20, 1⟩)] } }
    (ins out).pulls.entries.map PullEntry.state = [.lit] ∧ (ins out).pulls.lamp = some 0 ∧
    (ins held).pulls.entries = [] ∧ kinds (ins held) = [23] ∧
    (ins (leaving .offered)).xfer.entries = [] ∧ kinds (ins (leaving .offered)) = [11] ∧
    (ins (leaving .offered)).lamp 0 = .off ∧
    (ins (leaving .refused)).xfer.entries = [] ∧ kinds (ins (leaving .refused)) = [] ∧
    (ins (coming (.reserved (cartOf 100) ⟨20, 1⟩) .expected)).xfer.entries.map XferEntry.state
      = [.arrived] ∧
    kinds (ins (coming (.reserved (cartOf 100) ⟨20, 1⟩) .expected)) = [8] ∧
    kinds (ins (coming (.reserved (cartOf 100) ⟨20, 1⟩) .arrived)) = [] ∧
    (ins (coming (.placing (cartOf 100) ⟨20, 1⟩) .placing)).xfer.entries = [] ∧
    (ins (coming (.placing (cartOf 100) ⟨20, 1⟩) .arrived)).xfer.entries.map XferEntry.state
      = [.arrived] ∧
    (ins (coming (.placing (cartOf 100) ⟨20, 1⟩) .arrived)).lamp 0 = .off ∧
    (ins beside).line.queue.map QMsg.body
      = [.custodyAlert ⟨1, some 0, none, none, none, none⟩,
        .custodyAlert ⟨2, some 0, some 55, none, some ⟨20, 1⟩, none⟩] ∧
    bay4.damageReported := by
  decide +kernel

theorem witness_SlotSettled :
    let found (r : Rec) (last : Option Bool) : Station :=
      (holding r).modifySlot 0 fun sl => { sl with debounced := none, last := last }
    let read (r : Rec) (last : Option Bool) (now : Bool) : Slot :=
      ((found r last).readSlot 0 now).table.slot 0
    (read .unsettled none true).last = some true ∧
    read .unsettled (some true) true = slotOf .unknown ∧
    read .unsettled (some false) false = slotOf .vacant ∧
    (read .unsettled (some false) true).record = .unsettled ∧
    (read (.filed (cartOf 100)) (some false) false).record = .filed (cartOf 100) ∧
    (read (.filed (cartOf 100)) (some false) false).debounced = some false := by
  decide +kernel

/-- Cartridge 100 one minute from EXPO_LIMIT, 100, and from the end of its acclimatization. -/
theorem witness_MinuteSweepAndDischargeMarks :
    let near : CartData := { cartOf 100 with exposure := 99, acclim := some 1 }
    let swept (s : Excursion) : Rec :=
      ((after .minuteTimerExpiry { holding (.filed near) with
        moist := { bay.moist with status := s } }).table.slot 0).record
    bay.damageReported ∧ bay.table.minute.isSome ∧
    swept .high = .filed { near with exposure := 100, inspect := true } ∧
    swept .inBand = .filed { near with acclim := none } ∧
    after .minuteTimerExpiry { bay with table := { bay.table with minute := none } }
      = { bay with table := { bay.table with minute := none } } ∧
    (((holding (.filed near)).markDischarge).table.slot 0).record
      = .filed { near with inspect := true } ∧
    (((holding (.out near false)).markDischarge).table.slot 0).record = .out near false := by
  decide +kernel

/-- The outcomes of the replies that a command has queued. -/
def outcomes (c : Instr) (st : Station) : List Byte :=
  (after c st).line.queue.map fun q =>
    match q.body with
    | .reply r => r.outcome
    | _ => 255

/-- HOLD-SET's bytes at the edges of their ranges, and in each protection mode. -/
theorem witness_HoldSetAndInspectClear :
    let locked (m : HoldMode) (key : Bool) : Station :=
      { bay with table := { bay.table with mode := m, keyOn := key } }
    (after (.keySwitchChange (.filtered true)) bay).table.keyOn = true ∧
    after (.keySwitchChange (.filtered true)) hatch = hatch ∧
    outcomes (.holdSet 24 1 8 1 1 2) bay = [0] ∧ outcomes (.holdSet 24 1 9 1 1 2) bay = [21] ∧
    outcomes (.holdSet 24 1 8 2 1 2) bay = [21] ∧ outcomes (.holdSet 24 1 8 1 2 2) bay = [21] ∧
    outcomes (.holdSet 24 1 8 1 1 3) bay = [21] ∧
    outcomes (.holdSet 24 1 1 0 0 0) (locked .fixed true) = [18] ∧
    outcomes (.holdSet 24 1 1 0 0 0) (locked .keyed false) = [18] ∧
    outcomes (.holdSet 24 1 1 0 0 0) (locked .keyed true) = [0] ∧
    outcomes (.holdSet 24 1 1 0 0 0) (inFire .soak bay) = [10] ∧
    outcomes (.holdSet 24 1 1 0 0 0) hatch = [8] ∧
    outcomes (.holdSet 24 1 1 0 0 0) (pulling .lit bay) = [5, 0] ∧
    outcomes (.holdSet 24 1 1 0 0 0) (pulling .out bay) = [0] ∧
    (∀ e ∈ (pulling .out bay).pulls.entries, (decide (e.state = .out) || !bay.isHeld e.slot)
      = true) := by
  decide +kernel

theorem witness_InspectClearTable :
    let dirty : Rec := .filed { cartOf 100 with exposure := 5, inspect := true }
    outcomes (.inspectClear 24 1 (some 255)) bay = [6] ∧
    outcomes (.inspectClear 24 1 (some 256)) bay = [21] ∧
    outcomes (.inspectClear 24 1 (some 0)) bay = [0] ∧
    outcomes (.inspectClear 24 1 (some 0)) hatch = [8] ∧
    outcomes (.inspectClear 24 1 none) (inFire .vent bay) = [10] ∧
    ((after (.inspectClear 24 1 (some 0)) (holding dirty)).table.slot 0).record
      = .filed (cartOf 100) ∧
    (after (.inspectClear 24 1 none) (holding dirty)).line.queue.map QMsg.body
      = [.reply { kind := 17, seq := 1, outcome := 0, detail := some (.number 1) }] := by
  decide +kernel

/-- A transfer entry of the bay toward hatch 20. -/
def sending (s : XferState) (transit : Transit) : XferEntry :=
  { tid := ⟨5, 1⟩, cart := 100, peer := 20, job := 700, direction := .outbound, state := s
    attempts := 0, transit := transit, slot := some 0, custody := none, acceptedSlot := none
    reply := some 0 }

/-- A station with one transfer entry. -/
def withEntry (e : XferEntry) (st : Station) : Station :=
  { st with xfer := { st.xfer with entries := [e] } }

theorem witness_LookupAndQuery :
    outcomes (.querySlot 24 1 0) hatch = [8] ∧ outcomes (.querySlot 24 1 255) bay = [0] ∧
    outcomes (.querySlot 24 1 256) bay = [21] ∧ outcomes (.queryCartridge 24 1 103) bay = [0] ∧
    outcomes (.queryCartridge 24 1 104) bay = [6] ∧ outcomes (.queryCartridge 24 1 9) hatch = [0] ∧
    (after (.queryCartridge 24 1 30) hatch).line.queue.map QMsg.body
      = [.reply { kind := 21, seq := 1, outcome := 0, detail := some (.expected 701 5) }] ∧
    outcomes (.queryCartridge 24 1 31) hatch = [6] ∧
    outcomes (.queryTransfer 24 1 ⟨5, 1⟩) bay = [6] ∧
    outcomes (.queryTransfer 24 1 ⟨5, 1⟩) (withEntry (sending .lapsed .stopped) bay) = [0] ∧
    outcomes (.queryTransfer 24 1 ⟨5, 1⟩) (withEntry (sending .offered (.running 250000)) bay)
      = [0] := by
  decide +kernel

/-! ### Chapter 7 -/

theorem witness_CheckoutTable :
    let ask (st : Station) : List Byte := outcomes (.checkout 24 1 false 100 7 20) st
    bayHeard.damageReported ∧
    bayHeard.table.lookup 100 = .sound 0 (.filed (cartOf 100)) ∧
    ask bayHeard = [1] ∧ ask bay = [17] ∧ ask hatch = [8] ∧ ask (inFire .soak bay) = [10] ∧
    ask (inFire .held bay) = [9] ∧ outcomes (.checkout 24 1 false 104 7 20) bay = [6] ∧
    ask (pulling .out bay) = [16] ∧ ask (holding (.filed { cartOf 100 with inspect := true })) = [12] ∧
    ask (holding (.filed { cartOf 100 with acclim := some 1 })) = [13] ∧
    ask (outBay false) = [19] ∧
    ask { bayHeard with table := { bay.table with hold := ⟨1, .low, false⟩ } } = [11] ∧
    ask ((holding (.filed (cartOf 100))).modifySlot 0 fun sl =>
      { sl with difference := 1, damage := .sent }) = [14] ∧
    ask (bayHeard.withPulls (List.replicate 16
      { cart := 1, slot := 9, job := 7, hatch := 20, requester := 24, reqSeq := 1
        state := .out })) = [15] ∧
    after (.checkout 24 1 true 104 7 20) bay = bay ∧
    outcomes (.checkout 24 1 true 100 7 20) bayHeard = [1] := by
  decide +kernel

theorem witness_PullLightingAndCancel :
    ((pulling .waiting bay).relight).pulls.lamp = some 0 ∧
    ((pulling .lit (inFire .evacuate bay)).relight).pulls.lamp = none ∧
    outcomes (.cancel 24 1 100) hatch = [8] ∧ outcomes (.cancel 24 1 100) (inFire .vent bay) = [10] ∧
    outcomes (.cancel 24 1 100) bay = [6] ∧ outcomes (.cancel 24 1 100) (pulling .out bay) = [19] ∧
    outcomes (.cancel 24 1 100) (pulling .lit bay) = [5, 0] ∧
    (after (.cancel 24 1 100) (pulling .lit bay)).pulls.entries = [] := by
  decide +kernel

/-- Rows 3 to 7 of R113 with nothing else in the way, and the audit's scans at a lifted slot 0. -/
theorem witness_CheckStationScans :
    let scan (c : Cart) (st : Station) : Station := after (.checkStationScan .cartridge c) st
    let kinds (st : Station) : List Byte := st.line.queue.map fun q => q.body.kind
    let lifted : Station := auditing .reading (outBay false)
    let unknown : Station :=
      { holding .vacant with audit := { lifted.audit with finding := some .unidentified } }
    after (.checkStationScan .courier 100) bay = bay ∧ scan 100 hatch = hatch ∧
    kinds (scan 100 bay) = [4] ∧ kinds (scan 104 bay) = [9] ∧
    (scan 104 bay).xfer.claims = [{ cart := 104, timer := 250000 }] ∧
    scan 104 (scan 104 bay) = scan 104 bay ∧
    scan 100 (holding (.reserved (cartOf 100) ⟨20, 1⟩)) = holding (.reserved (cartOf 100) ⟨20, 1⟩) ∧
    lifted.damageReported ∧
    ((scan 100 lifted).table.slot 0).record = .out { cartOf 100 with mark := some .matched } false ∧
    ((scan 104 lifted).table.slot 0).record
      = .out { cartOf 104 with inspect := true, mark := some .mismatch } false ∧
    (scan 104 lifted).audit.mismatched = 1 ∧ (scan 100 lifted).audit.state = .returning ∧
    ((scan 104 unknown).table.slot 0).record
      = .out { cartOf 104 with inspect := true, mark := some .matched } false ∧
    (scan 104 unknown).audit.repaired = 1 := by
  decide +kernel

/-- The arrival at its reserved slot, and at one that is no longer reserved for it. -/
theorem witness_ArrivalScanned :
    let expecting (r : Rec) : Station :=
      withEntry { sending .expected .stopped with tid := ⟨20, 1⟩, cart := 55 } (holding r)
    let scan (st : Station) : Station := after (.checkStationScan .cartridge 55) st
    let placed : Station := scan (expecting (.reserved (cartOf 55) ⟨20, 1⟩))
    let missed : Station := scan (expecting .vacant)
    let damaged : Station := (expecting (.reserved (cartOf 55) ⟨20, 1⟩)).modifySlot 0 fun sl =>
      { sl with difference := 1, damage := .sent }
    ((expecting .vacant).expectedXfer 55).isSome ∧
    (placed.table.slot 0).record = .placing (cartOf 55) ⟨20, 1⟩ ∧ placed.lamp 0 = .on ∧
    placed.xfer.entries.map (fun e => (e.state, e.attempts)) = [(.arrived, 0)] ∧
    placed.line.queue.map QMsg.body = [.arrive ⟨20, 1⟩] ∧
    (missed.table.slot 0).record = .vacant ∧
    missed.xfer.entries.map XferEntry.state = [.arrived] ∧
    missed.line.queue.map QMsg.body
      = [.custodyAlert ⟨10, none, some 55, none, some ⟨20, 1⟩, none⟩, .arrive ⟨20, 1⟩] ∧
    (scan damaged).line.queue.map (fun q => q.body.kind) = [4, 8] ∧
    ((scan damaged).table.slot 0).difference = 1 := by
  decide +kernel

/-- The audit at the lifted slot 0 scans 101, FILED in slot 1: rewritten UNKNOWN; damaged there; with a
pull of it. -/
theorem witness_AuditScanElsewhere :
    let scan (st : Station) : Station := after (.checkStationScan .cartridge 101) st
    let found (f : Finding) (st : Station) : Station :=
      { st with audit := { (auditing .reading st).audit with finding := some f } }
    let known : Station := found (.identified 100) (outBay false)
    let unknown : Station := found .unidentified (holding .vacant)
    let damage (st : Station) : Station :=
      st.modifySlot 1 fun sl => { sl with difference := 1, damage := .sent }
    let pulled (st : Station) : Station := st.withPulls
      [{ cart := 101, slot := 1, job := 7, hatch := 20, requester := 24, reqSeq := 1
         state := .waiting }]
    let alert (second : Option Cart) (st : Station) : Bool :=
      decide (st.line.queue.map QMsg.body
        = [.custodyAlert ⟨4, some 0, some 101, second, none, none⟩])
    let sl (n : Nat) (st : Station) : Rec := (st.table.slot n).record
    let written (k : Mark) : Rec :=
      .out { cartOf 101 with inspect := true, mark := some k } false
    (damage known).damageReported ∧
    sl 0 (scan known) = written .mismatch ∧ sl 1 (scan known) = .unknown ∧
    alert (some 100) (scan known) ∧
    sl 0 (scan (damage known)) = written .mismatch ∧ sl 1 (scan (damage known)) = .filed (cartOf 101) ∧
    sl 0 (scan (pulled known)) = .out (cartOf 100) false ∧
    (scan (pulled known)).audit.strayPending = true ∧
    sl 0 (scan unknown) = written .matched ∧ sl 1 (scan unknown) = .unknown ∧
    alert none (scan unknown) ∧
    sl 0 (scan (damage unknown)) = written .matched ∧ sl 0 (scan (pulled unknown)) = .vacant ∧
    (scan (pulled unknown)).audit.strayPending = false ∧
    sl 0 (scan (found (.identified 100) (holding .stray))) = .stray ∧
    alert none (scan (found (.identified 100) (holding .stray))) ∧
    sl 0 (scan (found .unidentified (outBay false))) = .out (cartOf 100) false ∧
    alert (some 100) (scan (found .unidentified (outBay false))) ∧
    (scan known).audit.mismatched = 1 := by
  decide +kernel

/-- The bay with cartridge 100 pulled and out of its slot, hatch 20 heard, and not heard. -/
def departing (heard : Bool) : Station :=
  { pulling .out (outBay false) with peers := if heard then bayHeard.peers else bay.peers }

theorem witness_DepartureOpensTransfer :
    (departing true).declines .outbound 100 20 = false ∧
    (departing false).declines .outbound 100 20 = true ∧
    after (.checkStationScan .cartridge 100) (departing false) = departing false ∧
    ((after (.checkStationScan .cartridge 100) (departing true)).table.slot 0).record
      = .departing (cartOf 100) ⟨5, 1⟩ ∧
    (after (.checkStationScan .cartridge 100) (departing true)).pulls.entries = [] ∧
    (after (.checkStationScan .cartridge 100) (departing true)).xfer.entries.map XferEntry.state
      = [.offered] := by
  decide +kernel

/-- The counter passes the origin sequence 1, which an entry holds. -/
theorem witness_TransferOpened :
    let opened (st : Station) : Station × Option Tid := st.openXfer .outbound 100 7 (some 0) none 20
    let inUse : Station := withEntry { sending .lapsed .stopped with cart := 55 } (departing true)
    (opened (departing false)) = (departing false, none) ∧
    inUse.declines .outbound 100 20 = false ∧ (opened inUse).2 = some ⟨5, 2⟩ ∧
    (opened inUse).1.xfer.counter = 2 ∧ (opened (departing true)).2 = some ⟨5, 1⟩ ∧
    (opened (departing true)).1.xfer.entries.map XferEntry.transit
      = [.running (125000 * bayCfg.transitLimit)] ∧
    (opened (departing true)).1.line.queue.map (fun q => (q.dest, q.body))
      = [(20, .offer ⟨5, 1⟩ 100 7 0)] ∧
    (opened (inFire .held (departing true))).1.xfer.entries.map XferEntry.transit
      = [.paused (125000 * bayCfg.transitLimit)] := by
  decide +kernel

theorem witness_AuditMoves :
    outcomes (.audit 24 1 0 255) hatch = [8] ∧ outcomes (.audit 24 1 0 255) (inFire .soak bay) = [10] ∧
    outcomes (.audit 24 1 0 255) (inFire .held bay) = [9] ∧ outcomes (.audit 24 1 1 0) bay = [21] ∧
    outcomes (.audit 24 1 0 256) bay = [21] ∧ outcomes (.audit 24 1 3 3) bay = [2] ∧
    (after (.audit 24 1 3 255) bay).audit.cursor = some 3 ∧
    outcomes (.audit 24 1 0 3) (auditing .running bay) = [19] ∧
    outcomes (.audit 24 1 4 9) bay = [2, 3] ∧ bay.audit = .start ∧
    (after .auditStepExpiry (auditing .returning (outBay false))).audit = .start ∧
    ((after .auditStepExpiry (auditing .returning (outBay false))).table.slot 0).record
      = .out (cartOf 100) true ∧
    (after .auditStepExpiry (auditing .running bay)).table = bay.table ∧
    after .auditStepExpiry bay = bay := by
  decide +kernel

/-- The cartridge back at the audit's slot 0, in READING and RETURNING; the next PRESENT slot, the last
of the range, and a stray pending; the suspension and its end. -/
theorem witness_AuditInsertionAndSuspension :
    let at' (s : AuditState) (last : Nat) (stray : Bool) : Station :=
      let st := auditing s (outBay false)
      { st with audit := { st.audit with last := last, strayPending := stray } }
    let ins (st : Station) : Station := st.insertion 0
    let suspended (last : Nat) : Station :=
      { auditing .suspended bay4 with audit := { (at' .suspended last false).audit with
          cursor := some 1 } }
    (ins (at' .reading 3 false)).audit.state = .running ∧
    (ins (at' .reading 3 false)).audit.cursor = some 0 ∧
    (ins (at' .reading 3 false)).audit.finding = none ∧
    (ins (at' .returning 3 false)).audit.cursor = some 1 ∧
    ((ins (at' .returning 3 false)).table.slot 0).record = .filed (cartOf 100) ∧
    ((ins (at' .returning 3 true)).table.slot 0).record = .stray ∧
    (ins (at' .returning 0 false)).audit = .start ∧
    outcomes .measurementSlot (ins (at' .returning 0 false)) = [3] ∧
    ((ins (at' .running 3 false)).table.slot 0).record = .filed (cartOf 100) ∧
    (pulling .lit (auditing .running bay4)).suspensionTest.audit.state = .suspended ∧
    (pulling .lit (auditing .reading bay4)).suspensionTest = pulling .lit (auditing .reading bay4) ∧
    (pulling .out (auditing .running bay4)).suspensionTest = pulling .out (auditing .running bay4) ∧
    (suspended 3).suspensionTest.audit.state = .running ∧
    (suspended 3).suspensionTest.audit.cursor = some 1 ∧
    (suspended 0).suspensionTest.audit = .start := by
  decide +kernel

/-! ### Chapter 8 -/

/-- The kinds of the messages a station has queued, a REFUSE with its reason after it. -/
def kinds (st : Station) : List Byte :=
  (st.line.queue.map fun q =>
    match q.body with
    | .refuse _ r => [q.body.kind, r]
    | _ => [q.body.kind]).flatten

/-- A hatch whose 32 places are taken. -/
def fullHatch : Station :=
  { hatch with hatch := { hatch.hatch with
      custody := List.replicate 32 { cart := 9, job := 1, state := .heldOutbound, dest := none } } }

theorem witness_OfferTable :
    let ask (d : Byte) (st : Station) : List Byte := kinds (after (.offer 4 ⟨4, 1⟩ 55 7 d) st)
    let mine : XferEntry :=
      { sending .expected .stopped with tid := ⟨4, 1⟩, cart := 55, peer := 4, slot := some 4 }
    bay.hearsPeer 4 ∧ bay.damageReported ∧ ask 1 bay = [6] ∧ ask 0 hatch = [6] ∧
    (after (.offer 4 ⟨4, 1⟩ 55 7 1) bay).xfer.entries.map XferEntry.slot = [some 4] ∧
    ask 1 (withEntry mine bay) = [6] ∧ ask 1 (withEntry { mine with peer := 3 } bay) = [7, 1] ∧
    ask 1 (withEntry { mine with tid := ⟨4, 2⟩ } bay) = [7, 1] ∧
    kinds (after (.offer 4 ⟨4, 1⟩ 9 7 0) hatch) = [7, 1] ∧
    ask 1 { bay with xfer := { bay.xfer with
      entries := List.replicate 16 (sending .lapsed .stopped) } } = [7, 0] ∧
    ask 1 (inFire .vent bay) = [7, 2] ∧ ask 1 (inFire .blocked bay) = [7, 3] ∧
    ask 0 bay = [7, 4] ∧ ask 1 hatch = [7, 4] ∧ ask 2 bay = [7, 4] ∧ ask 0 fullHatch = [7, 0] ∧
    kinds (after (.offer 4 ⟨4, 1⟩ 100 7 1) bay) = [7, 1] ∧ ask 1 bay4 = [7, 0] ∧
    kinds (after (.offer 4 ⟨4, 1⟩ 55 7 1) { bay with
      loader := { bay.loader with state := .listen } }) = [] := by
  decide +kernel

/-- Hatch 20 with cartridge 9 OUTGOING toward bay 5. -/
def outgoing (s : XferState) : Station :=
  { withEntry { sending s (.running 9) with
      tid := ⟨20, 1⟩, cart := 9, peer := 5, direction := .inbound, slot := none
      custody := some 9 } hatch with
    hatch := { hatch.hatch with
      custody := [{ cart := 9, job := 700, state := .outgoing, dest := some 5 }] } }

/-- The states of a station's transfer entries. -/
def stages (st : Station) : List XferState := st.xfer.entries.map XferEntry.state

theorem witness_AcceptRefuseTable :
    let at' (s : XferState) : Station := withEntry (sending s (.running 9)) bay
    let accept (st : Station) : Station := after (.accept 20 ⟨5, 1⟩ none) st
    let refuse (r : Byte) (st : Station) : Station := after (.refuse 20 ⟨5, 1⟩ r) st
    bay.hearsPeer 20 ∧ stages (accept (at' .offered)) = [.accepted] ∧
    stages (accept (at' .unanswered)) = [.accepted] ∧ stages (accept (at' .lapsed)) = [.lapsed] ∧
    kinds (accept (at' .refused)) = [11] ∧ kinds (accept bay) = [11] ∧
    kinds (refuse 0 bay) = [] ∧ stages (refuse 0 (at' .offered)) = [.refused] ∧
    (refuse 0 (at' .offered)).lamp 0 = .flashing ∧ stages (refuse 5 (at' .accepted)) = [.accepted] ∧
    stages (after (.accept 19 ⟨5, 1⟩ none) (at' .offered)) = [.offered] ∧
    (refuse 6 (at' .unanswered)).line.queue.map QMsg.body
      = [.custodyAlert { kind := 7, slot := some 0, cart := some 100, cart2 := none
                         tid := some ⟨5, 1⟩, reason := some 5 }] ∧
    ((after (.refuse 5 ⟨20, 1⟩ 0) (outgoing .offered)).hatch.custody.map CustodyEntry.state)
      = [.heldInbound] ∧
    stages (refuse 5 (at' .arrived)) = [] ∧ stages (refuse 4 (at' .arrived)) = [.arrived] := by
  decide +kernel

/-- The bay with cartridge 100 DEPARTING under its transfer. -/
def departed (s : XferState) : Station :=
  withEntry (sending s .stopped) (holding (.departing (cartOf 100) ⟨5, 1⟩))

theorem witness_SenderClosesTransfer :
    let arrive (st : Station) : Station := after (.arrive 20 ⟨5, 1⟩) st
    ((arrive (departed .accepted)).table.slot 0).record = .vacant ∧
    stages (arrive (departed .accepted)) = [] ∧ kinds (arrive (departed .accepted)) = [10] ∧
    kinds (arrive (departed .lapsed)) = [10, 4] ∧ kinds (arrive bay) = [7, 5] ∧
    kinds (after (.arrive 19 ⟨5, 1⟩) (departed .accepted)) = [7, 5] ∧
    kinds (arrive (withEntry (sending .accepted .stopped) bay4)) = [10] ∧
    (after (.arrive 5 ⟨20, 1⟩) (outgoing .accepted)).hatch.custody = [] ∧
    kinds (after (.claim 20 100) (departed .accepted)) = [10] ∧
    kinds (after (.claim 19 100) (departed .accepted)) = [10, 11] ∧
    kinds (after (.claim 19 100) (departed .refused)) = [10] ∧
    kinds (after (.claim 19 101) (departed .accepted)) = [] := by
  decide +kernel

/-- A receiving entry of the bay from hatch 20, for cartridge 55 and slot 0. -/
def receiving (s : XferState) : XferEntry :=
  { sending s .stopped with tid := ⟨20, 1⟩, cart := 55, slot := some 0 }

theorem witness_ReceiverClosesTransfer :
    let close (st : Station) : Station := after (.close 20 ⟨20, 1⟩ 55 (some 7)) st
    let at' (s : XferState) (r : Rec) : Station := withEntry (receiving s) (holding r)
    let claiming (st : Station) : Station :=
      { st with xfer := { st.xfer with claims := [{ cart := 55, timer := 1 }] } }
    stages (close (at' .arrived (.filed (cartOf 55)))) = [] ∧
    stages (close (at' .arrived (.placing (cartOf 55) ⟨20, 1⟩))) = [.placing] ∧
    stages (close (at' .arrived .vacant)) = [] ∧ stages (close (at' .placing .vacant)) = [.placing] ∧
    stages (close (at' .expected (.reserved (cartOf 55) ⟨20, 1⟩))) = [.placing] ∧
    (close (at' .expected (.reserved (cartOf 55) ⟨20, 1⟩))).lamp 0 = .on ∧
    stages (close (at' .expected .vacant)) = [] ∧ kinds (close (at' .expected .vacant)) = [4] ∧
    kinds (close bay) = [7, 5] ∧ stages (close (claiming bay)) = [.placing] ∧
    (close (claiming bay)).xfer.claims = [] ∧ kinds (close (claiming bay4)) = [4] ∧
    kinds (after (.close 20 ⟨20, 1⟩ 100 none) { bay with
      xfer := { bay.xfer with claims := [{ cart := 100, timer := 1 }] } }) = [4] ∧
    ((after (.close 4 ⟨4, 1⟩ 55 (some 7)) (claiming hatch)).hatch.custody.map CustodyEntry.job)
      = [700, 7] ∧
    ((after (.close 4 ⟨4, 1⟩ 9 none) (withEntry { receiving .expected with
      tid := ⟨4, 1⟩, peer := 4, slot := none } hatch)).hatch.custody.map CustodyEntry.job)
      = [700, 700] := by
  decide +kernel

theorem witness_TransferTimersAndWithdraw :
    let reserved : Station := holding (.reserved (cartOf 55) ⟨20, 1⟩)
    let withdraw (st : Station) : Station := after (.withdraw 20 ⟨20, 1⟩) st
    let reply (s : XferState) (n : Nat) : Station :=
      after (.replyTimerExpiry ⟨5, 1⟩) (withEntry { sending s (.running 9) with attempts := n } bay)
    stages (withdraw (withEntry (receiving .expected) reserved)) = [] ∧
    ((withdraw (withEntry (receiving .expected) reserved)).table.slot 0).record = .vacant ∧
    stages (withdraw (withEntry (receiving .arrived) bay)) = [.arrived] ∧
    stages (after (.withdraw 4 ⟨4, 1⟩) (withEntry { receiving .expected with
      tid := ⟨4, 1⟩, peer := 4, slot := none } hatch)) = [] ∧
    kinds (withdraw bay) = [] ∧ kinds (reply .offered 2) = [5] ∧ stages (reply .offered 3) = [.unanswered] ∧
    kinds (reply .offered 3) = [4] ∧ kinds (reply .arrived 2) = [8] ∧ stages (reply .arrived 3) = [] ∧
    after (.replyTimerExpiry ⟨5, 1⟩) bay = bay ∧
    stages (after (.transitExpiry ⟨5, 1⟩) (withEntry (sending .accepted (.running 0)) bay)) = [.lapsed] ∧
    stages (after (.transitExpiry ⟨5, 1⟩) (withEntry (sending .accepted (.paused 0)) bay))
      = [.accepted] ∧
    after (.transitExpiry ⟨5, 1⟩) bay = bay ∧ after (.claimTimerExpiry 55) bay = bay ∧
    kinds (after (.claimTimerExpiry 55) { bay with
      xfer := { bay.xfer with claims := [{ cart := 55, timer := 0 }] } }) = [4] ∧
    ((after (.claimTimerExpiry 55) { hatch with
      xfer := { hatch.xfer with claims := [{ cart := 55, timer := 0 }] } }).hatch.custody.map
        CustodyEntry.state) = [.heldOutbound, .heldInbound] := by
  decide +kernel

theorem witness_TransfersStayLawful :
    (withEntry (sending .offered (.running 9)) bay).TransfersLawful ∧
    (after .measurementSlot bay).TransfersLawful :=
  ⟨⟨by decide, by decide, by decide, by decide, by decide, by decide⟩,
    ⟨by decide, by decide, by decide, by decide, by decide, by decide⟩⟩

/-! ### Chapter 9 -/

/-- The hatch with station 5 heard as a bay. -/
def hatchHeard : Station :=
  { hatch with peers := { hatch.peers with
      records := hatch.peers.records.set 5 (heardPeer .bay 0) } }

/-- The hatch with a courier's session. -/
def session (s : SessionState) (d : Direction) (j : Job) (m : List ManifestItem) (st : Station) :
    Station :=
  { st with hatch := { st.hatch with
      session := { state := s, job := some j, direction := some d, timer := some 0, manifest := m
                   reason := none } } }

/-- The drawer at rest OUT. -/
def drawerOut (st : Station) : Station :=
  { st with
    motion := { st.motion with state := .resting .a, last := some .a }
    pins := { st.pins with innerEnd := false }, hatch := { st.hatch with position := 2000 } }

/-- The hatch with one cartridge in its custody list. -/
def holds (s : CustodyState) (dest : Option Addr) (st : Station) : Station :=
  { st with hatch := { st.hatch with
      custody := [{ cart := 9, job := 700, state := s, dest := dest }] } }

theorem witness_CheckinTable :
    let ask (c : Cart) (st : Station) : List Byte := outcomes (.checkin 24 1 701 c 5) st
    ask 31 hatchHeard = [0] ∧ ask 31 bay = [8] ∧ ask 31 (inFire .soak hatchHeard) = [10] ∧
    ask 31 hatch = [17] ∧ ask 30 hatchHeard = [16] ∧ ask 9 hatchHeard = [16] ∧
    ask 9 (holds .heldInbound none hatchHeard) = [0] ∧
    ask 31 { hatchHeard with hatch := { hatch.hatch with
      expected := List.replicate 32 ⟨701, 30, 5⟩ } } = [15] := by
  decide +kernel

theorem witness_InnerReadTable :
    let read (c : Cart) (st : Station) : Station := after (.innerRead .cartridge c) st
    let waiting : XferEntry :=
      { sending .expected .stopped with tid := ⟨5, 1⟩, cart := 55, peer := 5, slot := none }
    let states (st : Station) : List CustodyState := st.hatch.custody.map CustodyEntry.state
    let many : List ManifestItem := List.replicate 16 { cart := 1, confirmed := false }
    hatch.hatchUnit = true ∧ hatch.joined = true ∧ after (.innerRead .attendant 9) hatch = hatch ∧
    read 9 bay = bay ∧ stages (read 55 (withEntry waiting hatch)) = [.arrived] ∧
    read 55 (withEntry { waiting with state := .arrived } hatch)
      = withEntry { waiting with state := .arrived } hatch ∧
    states (read 30 hatch) = [.heldOutbound, .heldInbound] ∧
    (read 30 hatch).hatch.expected = [] ∧ kinds (read 30 fullHatch) = [4] ∧
    states (read 9 (session .identified .outbound 700 [] hatch)) = [.inDrawer] ∧
    read 9 (session .filling .outbound 700 many hatch) = session .filling .outbound 700 many hatch ∧
    read 9 hatch = hatch ∧ states (read 9 (holds .heldInbound (some 5) hatchHeard)) = [.outgoing] ∧
    read 9 (holds .heldInbound (some 5) hatch) = holds .heldInbound (some 5) hatch ∧
    read 9 (holds .heldInbound none hatch) = holds .heldInbound none hatch ∧
    states (read 9 (outgoing .accepted)) = [.heldInbound] ∧
    kinds (read 9 (outgoing .accepted)) = [11] ∧ kinds (read 9 (outgoing .refused)) = [] ∧
    states (read 9 (holds .outgoing (some 5) hatch)) = [.heldInbound] ∧
    kinds (read 77 hatch) = [9] ∧ kinds (read 77 fullHatch) = [4] ∧
    read 77 { hatch with xfer := { hatch.xfer with
      claims := List.replicate 4 { cart := 1, timer := 1 } } }
      = { hatch with xfer := { hatch.xfer with
          claims := List.replicate 4 { cart := 1, timer := 1 } } } := by
  decide +kernel

/-- Jobs 700 and 701 as the upper 16 bits of a courier card. -/
theorem witness_OuterReadsTable :
    let card (j : Nat) (st : Station) : Station := after (.courierRead (BitVec.ofNat 40 (j * 2 ^ 24 + 3))) st
    let outer (c : Cart) (st : Station) : Station := after (.outerCartridgeRead c) st
    let showing (m : List ManifestItem) : Station :=
      drawerOut (session .presenting .outbound 700 m (holds .inDrawer none hatch))
    let taking (m : List ManifestItem) : Station :=
      drawerOut (session .receiving .inbound 701 m hatch)
    (card 700 hatch).hatch.session.state = .identified ∧
    (card 701 hatch).hatch.session.state = .receiving ∧
    (card 701 hatch).motion.state = .moving .a ∧ card 702 hatch = hatch ∧ card 700 bay = bay ∧
    card 700 (inFire .evacuate hatch) = inFire .evacuate hatch ∧
    card 700 (drawerOut hatch) = drawerOut hatch ∧ outer 9 hatch = hatch ∧ outer 9 bay = bay ∧
    kinds (outer 8 (showing [⟨9, false⟩])) = [4] ∧ outer 9 (showing [⟨9, true⟩]) = showing [⟨9, true⟩] ∧
    (outer 9 (showing [⟨9, false⟩, ⟨8, false⟩])).hatch.session.manifest
      = [⟨9, true⟩, ⟨8, false⟩] ∧
    (outer 9 (showing [⟨9, false⟩])).hatch.custody = [] ∧
    (outer 9 (showing [⟨9, false⟩])).hatch.session.state = .handed ∧
    kinds (outer 9 (showing [⟨9, false⟩])) = [12] ∧
    (outer 30 (taking [])).hatch.session.manifest = [⟨30, false⟩] ∧
    outer 30 (taking [⟨30, false⟩]) = taking [⟨30, false⟩] ∧ kinds (outer 31 (taking [])) = [4] ∧
    outer 30 (taking (List.replicate 16 ⟨1, false⟩)) = taking (List.replicate 16 ⟨1, false⟩) ∧
    kinds (outer 30 { taking [] with hatch := { (taking []).hatch with
      custody := fullHatch.hatch.custody } }) = [4] ∧
    outer 30 (session .receiving .inbound 701 [] hatch) = session .receiving .inbound 701 [] hatch := by
  decide +kernel

theorem witness_PressesAndSessionTimer :
    let stalled (last : Option MotionEnd) : Station :=
      { drawerOut hatch with motion := { hatch.motion with state := .stalled, last := last } }
    let filled : Station := session .filling .outbound 700 [⟨9, false⟩] (holds .inDrawer none hatch)
    let expired (st : Station) : Station := after .sessionTimerExpiry st
    (stalled none).arrivalHolds .b = false ∧
    (after (.sendPress .press) (stalled none)).motion.state = .moving .b ∧
    (after (.donePress .press) (stalled none)).motion.state = .moving .b ∧
    hatch.arrivalHolds .a = false ∧ (after (.sendPress .press) filled).motion.state = .moving .a ∧
    after (.sendPress .press) hatch = { hatch with pins := { hatch.pins with sendDown := true } } ∧
    after (.sendPress .press) bay = bay ∧
    (after (.donePress .press) (drawerOut (session .receiving .inbound 701 [] hatch))).hatch.session.state
      = .returning ∧
    after (.donePress .press) hatch = { hatch with pins := { hatch.pins with doneDown := true } } ∧ expired hatch = hatch ∧
    (expired (session .handed .outbound 700 [] hatch)).hatch.session.timer = none ∧
    (expired filled).hatch.custody.map CustodyEntry.state = [.heldOutbound] ∧
    (expired filled).hatch.session.state = .idle ∧
    (expired (drawerOut filled)).hatch.session.state = .aborted ∧
    (expired filled).line.queue.map QMsg.body
      = [.handover { job := 700, direction := 0, handed := 0, remaining := 1, outcome := 1
                     reason := some 0 }] ∧
    kinds (expired (session .receiving .inbound 701 [] hatch)) = [12] := by
  decide +kernel

/-- POS_OUT is 2000: the counter reaches 1992, and falls below 1984. -/
theorem witness_EncoderFollowed :
    let at' (pos : Nat) (m : MotionState) : Station :=
      { hatch with
        motion := { hatch.motion with state := m, last := some .a }
        hatch := { hatch.hatch with position := pos } }
    let turn (a b : Bool) (st : Station) : Station := after (.encoderTransition a b) st
    (turn false true (at' 0 (.moving .a))).hatch.position = 1 ∧
    (turn true false (at' 0 (.moving .a))).hatch.position = 0 ∧
    (turn false true (at' 4095 (.moving .a))).hatch.position = 4095 ∧
    (turn true true (at' 7 (.moving .a))).motion.cause = some .encoder ∧
    (turn true true (at' 7 (.moving .a))).hatch.position = 7 ∧
    (turn true true (at' 7 .stalled)).motion.cause = none ∧
    (turn false false (at' 7 (.moving .a))) = at' 7 (.moving .a) ∧
    (turn false true (at' 1991 (.moving .a))).motion.state = .resting .a ∧
    (turn false true (at' 1991 .stalled)).motion.state = .resting .a ∧
    (turn false true (at' 1991 (.moving .b))).motion.state = .moving .b ∧
    (turn false true (at' 1990 (.moving .a))).motion.state = .moving .a ∧
    (turn true false (at' 1984 (.resting .a))).motion.state = .moving .a ∧
    (turn true false (at' 1985 (.resting .a))).motion.state = .resting .a ∧
    (turn false true (session .filling .outbound 700 [] (at' 1991 (.moving .a)))
      ).hatch.session.state = .presenting ∧
    (turn true false bay).pins.phaseA = true := by
  decide +kernel

theorem witness_FlapsAndInnerEnd :
    let moving (e : MotionEnd) (st : Station) : Station :=
      { st with
        motion := { st.motion with state := .moving e, last := some e }
        pins := { st.pins with innerEnd := false }, hatch := { st.hatch with position := 50 } }
    let jammed : Station := { moving .b hatch with
      motion := { hatch.motion with state := .stalled, cause := some .interlock, last := some .b } }
    let close (st : Station) : Station := after (.endSwitchClose .innerEnd) st
    (after (.flapChange .outer true) (moving .a hatch)).motion.cause = some .interlock ∧
    (after (.flapChange .inner true) hatch).motion = hatch.motion ∧
    (after (.flapChange .inner false) jammed).motion.state = .moving .b ∧
    (after (.flapChange .inner false) hatch) = hatch ∧
    (after (.flapChange .inner true) bay).motion = bay.motion ∧
    (close (moving .a hatch)).hatch.position = 0 ∧ (close (moving .b hatch)).motion.state = .resting .b ∧
    (close (moving .b (session .aborted .outbound 700 [] hatch))).hatch.session.state = .idle ∧
    (close (moving .b (session .returning .inbound 701 [⟨30, false⟩] hatch))).hatch.expected = [] ∧
    ((close (moving .b (session .returning .inbound 701 [⟨30, false⟩] hatch))).hatch.custody.map
      CustodyEntry.dest) = [none, some 5] ∧
    kinds (close (moving .b (session .returning .inbound 701 [⟨30, false⟩] hatch))) = [12] ∧
    (after (.endSwitchOpen .innerEnd) hatch).motion.state = .moving .b ∧
    (after (.endSwitchOpen .innerEnd) (moving .a hatch)) = moving .a hatch := by
  decide +kernel

/-- A session broken off by a flap, by a flap that stands open as the drive comes due, by an encoder
fault and by the travel timer; in both directions. -/
theorem witness_SessionBreaksOff :
    let moving (e : MotionEnd) (st : Station) : Station :=
      { st with
        motion := { hatch.motion with
          state := .moving e, last := some e, coilA := decide (e = .a), coilB := decide (e = .b)
          travel := some 0 }
        pins := { st.pins with innerEnd := false }, hatch := { st.hatch with position := 50 } }
    let out : Station :=
      moving .a (session .filling .outbound 700 [⟨9, false⟩] (holds .inDrawer none hatch))
    let back : Station := moving .b (session .returning .inbound 701 [⟨30, false⟩] hatch)
    let waiting (st : Station) : Station := { st with
      motion := { st.motion with coilA := false, coilB := false, dead := some 0, travel := none }
      pins := { st.pins with innerFlapOpen := true } }
    let said (d r : Byte) (j : Job) (left : Byte) (st : Station) : Bool :=
      decide (st.line.queue.map QMsg.body = [.handover
        { job := j, direction := d, handed := 0, remaining := left, outcome := 1, reason := some r }])
    let flap : Station := after (.flapChange .outer true) out
    let late : Station := after .deadTimeExpiry (waiting out)
    let turned : Station := after (.encoderTransition true true) out
    let stuck : Station := after .travelExpiry back
    out.hatchUnit = true ∧ out.hatch.session.state.active = true ∧
    flap.hatch.session.state = .aborted ∧ flap.hatch.session.reason = some .interlock ∧
    flap.hatch.custody.map CustodyEntry.state = [.heldOutbound] ∧
    flap.hatch.session.manifest = [] ∧ flap.motion.last = some .b ∧ said 0 2 700 1 flap ∧
    (waiting out).flapBlocks = true ∧ said 0 2 700 1 late ∧ late.hatch.session.state = .aborted ∧
    said 0 3 700 1 turned ∧ turned.hatch.session.reason = some .stall ∧
    said 1 3 701 1 stuck ∧ stuck.hatch.session.state = .aborted ∧
    stuck.hatch.expected = back.hatch.expected ∧
    said 1 2 701 1 (after (.flapChange .inner true) back) := by
  decide +kernel

/-! ### Chapter 10 -/

/-- A STATUS of a bay with a fire state code and a beacon interval. -/
def statusOf (fire : BitVec 4) (interval : Byte) : StatusBody :=
  { fire := fire, zoneA := false, zoneB := false, lock := false, role := .bay, loopOpen := false
    loopShort := false, battery := false, stall := false, sensorFault := false, sealedFlag := false
    neighbourSeal := false, filtered := some 443, occupancy := 0, excursion := .inBand, demand := 140
    places := 252, interval := interval }

theorem witness_PeerMessages :
    let peer (a : Nat) (st : Station) : Option Peer := st.peers.records[a]?
    let silent : Peer := .silent { age := 9, interval := 2, roleDemand := none, fire := none }
    let lost : Station :=
      { bay with peers := { bay.peers with records := bay.peers.records.set 4 .lost } }
    let quiet : Station :=
      { bay with peers := { bay.peers with records := bay.peers.records.set 4 silent } }
    let latched : Station := confirming 7500001
    bay.hearsPeer 0 ∧ bay.hearsPeer 23 ∧
    peer 4 (after (.status 4 (statusOf 8 11)) bay) = some (.alive
      { age := 0, interval := 10, roleDemand := some (.bay, 140), fire := some (.blocked, 0) }) ∧
    peer 4 (after (.status 4 (statusOf 0 0)) bay) = some (.alive
      { age := 0, interval := 1, roleDemand := some (.bay, 140), fire := some (.normal, 0) }) ∧
    peer 4 (after (.status 4 (statusOf 9 2)) bay) = some (.alive
      { age := 0, interval := 10, roleDemand := none, fire := none }) ∧
    peer 4 (after (.fireReport 4 ⟨1, true, false, false, false⟩) bay) = some (.alive
      { age := 0, interval := 10, roleDemand := none, fire := some (.prealarm, 0) }) ∧
    (after (.fireReport 4 ⟨1, true, false, false, false⟩) latched).supp.fire = .countdown ∧
    (after (.fireReport 7 ⟨1, true, false, false, false⟩) latched).supp.fire = .normal ∧
    (after (.status 4 (statusOf 1 2)) latched).supp.fire = .countdown ∧
    bay.peers.records[4]? = some .unheard ∧ bayHeard.peers.records[4]? = some (heardPeer .bay 60) ∧
    peer 4 (after (.fireReport 4 ⟨1, true, false, false, false⟩) lost) = some (.alive
      { age := 0, interval := 10, roleDemand := none, fire := some (.prealarm, 0) }) ∧
    (peer 4 (after (.fireReport 4 ⟨1, true, false, false, false⟩) bayHeard)).map Peer.data
      = some { (heardPeer .bay 60).data with fire := some (.prealarm, 0) } ∧
    after (.peerSilent 4) (aged false 749999) = aged false 749999 ∧
    after (.peerSilent 4) (aged false 750000) = aged true 750000 ∧
    after (.peerLost 4) (aged true 2499999) = aged true 2499999 ∧
    peer 4 (after (.peerLost 4) (aged true 2500000)) = some .lost ∧
    after (.peerLost 4) (aged false 2499999) = aged false 2499999 ∧
    peer 4 (after (.peerLost 4) (aged false 2500000)) = some .lost ∧
    after (.peerSilent 4) (aged true 750000) = aged true 750000 ∧
    after (.peerSilent 4) bay = bay ∧ after (.peerLost 4) bay = bay ∧
    peer 4 (after (.custodyAlert 4 ⟨0, none, none, none, none, none⟩) quiet)
      = some (.alive { age := 0, interval := 2, roleDemand := none, fire := none }) ∧
    peer 4 (after (.handover 4 ⟨1, 0, 0, 0, 0, none⟩) quiet)
      = some (.alive { age := 0, interval := 2, roleDemand := none, fire := none }) := by
  decide +kernel

/-! ### Chapter 11 -/

/-- A queued message with a number. -/
def queued (n : Nat) (b : Body) : QMsg :=
  { made := n, blk := .pulls, dest := 24, seq := BitVec.ofNat 8 n, body := b }

/-- The bay with a queue. -/
def queueing (q : List QMsg) : Station :=
  { bay with line := { bay.line with queue := q, made := 100, seq := 100 } }

/-- Section 11.6's queue: fifteen CUSTODY messages and one STATUS. -/
def fullQueue : Station :=
  queueing ((List.range 15).map (fun n => queued n (.arrive ⟨5, BitVec.ofNat 8 n⟩))
    ++ [queued 15 (.status (statusOf 0 2))])

/-- The numbers of the queued messages. -/
def order (st : Station) : List Nat := st.line.queue.map QMsg.made

/-- The steps of section 11.6: the STATUS replaced and displaced, the FIRE-REPORT replaced, the next
STATUS dropped, the pending message taken at the success. -/
theorem witness_QueueTakesMessages :
    let f (z : Bool) : Body := .fireReport ⟨1, z, false, false, false⟩
    let a1 : Station := fullQueue.hand .transfers 20 (.arrive ⟨5, 99⟩)
    let s2 : Station := after .beaconExpiry { a1 with line := { a1.line with beacon := some 0 } }
    let f1 : Station := s2.handFire (f false)
    let f2 : Station := f1.handFire (f true)
    let s3 : Station := after .beaconExpiry f2
    let sent : Station := after .transmitSuccess { s3 with
      line := { s3.line with attempt := .sending 103 [] } }
    bay.joined = true ∧ bay.line.idle = false ∧ (Body.claim 5).timedTid = none ∧
    a1.line.pend.map Pend.made = [100] ∧ order s2 = List.range 15 ++ [101] ∧
    order f1 = List.range 15 ++ [102] ∧ order f2 = List.range 15 ++ [103] ∧ order s3 = order f2 ∧
    order sent = List.range 15 ++ [100] ∧ sent.line.pend = [] ∧
    ((queueing ((List.range 16).map fun n => queued n (.claim 5))).handFire (f true)).line.pend.map
      Pend.made = [15] ∧
    after .beaconExpiry bay = bay ∧
    order (after .beaconExpiry { bay with line := { bay.line with beacon := some 0 } }) = [0] ∧
    bay.noReport ∧ order (bay.handFire (f true)) = [0] := by
  decide +kernel

/-- A displaced message with the number 50, and slot 0's damage report that waits with the lower 7: the
displaced one is offered first; one that only waits comes after the report. -/
theorem witness_DisplacedOfferedFirst :
    let waits (again : Bool) : Station :=
      let st := queueing ((List.range 15).map fun n => queued (60 + n) (.claim 5))
      { st.modifySlot 0 fun sl => { sl with difference := 1, damage := .pending 7 } with
        line := { st.line with
          pend := [{ made := 50, blk := .pulls, dest := 24, body := .claim 5, again := again }] } }
    (waits true).line.idle = false ∧ (waits true).line.queue.length = 15 ∧
    (order (waits true).offerPlaces).getLast? = some 50 ∧ (waits true).offerPlaces.line.pend = [] ∧
    (waits false).offerPlaces.line.pend.map Pend.made = [50] ∧
    ((waits false).offerPlaces.table.slot 0).damage = .sent := by
  decide +kernel

/-- A bay in SOAK with each STATUS item set, the same forced safe under a faulted sensor, and a hatch. -/
theorem witness_StatusAndOutputs :
    let st : Station := { inFire .soak bay with
      moist := { bay.moist with filtered := some 443, status := .high }
      air := { bay.air with demand := 140 }
      motion := { bay.motion with state := .stalled }
      det := { bay.det with
        zoneA := true, battery := true, loop2 := { bay.det.loop2 with trouble := .opened } } }
    let safe : Station := { st with
      air := { st.air with forcedSafe := true, sealTimer := some 9 }
      moist := { st.moist with status := .sensorFault }
      det := { st.det with loop2 := { st.det.loop2 with trouble := .shorted } } }
    st.statusBody = { statusOf 6 2 with
      zoneA := true, loopOpen := true, battery := true, stall := true, sealedFlag := true
      excursion := .high, interval := BitVec.ofNat 8 bayCfg.beacon } ∧
    safe.statusBody.filtered = none ∧ safe.statusBody.demand = 0 ∧
    safe.statusBody.neighbourSeal = true ∧ safe.statusBody.sensorFault = true ∧
    safe.statusBody.loopShort = true ∧ safe.statusBody.loopOpen = false ∧
    { bay with table := { bay.table with hold := ⟨8, .low, false⟩ } }.statusBody.places = 0 ∧
    hatch.statusBody.places = 1 ∧ hatch.statusBody.role = .hatch ∧
    st.handFireReport.line.queue.map QMsg.body = [.fireReport ⟨6, true, false, false, false⟩] ∧
    bay.table.slots.length = 256 := by
  decide +kernel

/-- The status lines by start state, the second's two edges, and a slot's lamp. -/
theorem witness_OutputsShown :
    let lines (s : StartState) (n : Nat) : BitVec 4 :=
      ({ bay with loader := { bay.loader with state := s, joinedFor := n, faultCode := 5 } } :
        Station).statusLines
    lines .loading 0 = 15 ∧ lines .selftest 0 = 15 ∧ lines .listen 0 = 8 ∧
    lines .joined 124999 = 1 ∧ lines .joined 125000 = 0 ∧ lines .joined 249999 = 0 ∧
    lines .joined 250000 = 1 ∧ lines .fault 0 = 5 ∧ lines .clash 0 = 6 ∧
    ({ bay with loader := { bay.loader with powered := false } } : Station).statusLines = 0 ∧
    (pulling .waiting bay).relight.lamp 0 = .on ∧
    ((pulling .waiting bay).relight.askLamp 0 .flashing).lamp 0 = .flashing ∧
    (((pulling .waiting bay).relight.askLamp 0 .flashing).askLamp 0 .off).lamp 0 = .on ∧
    ((bay.askLamp 3 .on).askLamp 3 .off).lamp 3 = .off := by
  decide +kernel

/-- Section 11.4 at address 5: a CUSTODY message waits 56 bit times, 104 with a backoff. -/
theorem witness_LineAttempts :
    let three : Station := queueing [queued 0 (.status (statusOf 0 2)), queued 1 (.claim 5),
      queued 2 (.discharge 20), queued 3 (.claim 6)]
    let attempt (a : Attempt) (st : Station) : Station :=
      { st with line := { st.line with attempt := a } }
    let failing (n : Nat) (s : LineState) : Station :=
      { attempt (.sending 1 []) three with line := { (attempt (.sending 1 []) three).line with
          failures := n, state := s, faultTimer := if s = .lineFault then some 0 else none } }
    let one : Station := queueing [queued 1 (.claim 5)]
    three.line.choose .custodyFirst = some (queued 2 (.discharge 20)) ∧
    one.line.choose .routineFirst = some (queued 1 (.claim 5)) ∧
    (after .lineIdle one).line.attempt = .waiting 1 56 ∧
    (after .lineIdle { one with line := { one.line with backoff := true } }).line.attempt
      = .waiting 1 104 ∧
    (after .lineIdle bay).line.idle = true ∧
    (after .lineIdle { one with line := { one.line with state := .lineFault } }).line.attempt
      = .none ∧
    (after .characterDuringWait (after .lineIdle one)).line.attempt = .none ∧
    (after .characterDuringWait bay).line = bay.line ∧
    (after .accessDelayExpiry (after .lineIdle one)).line.attempt.message = some 1 ∧
    after .accessDelayExpiry bay = bay ∧
    (after .readbackFailure (failing 14 .normal)).line.failures = 15 ∧
    (after .readbackFailure (failing 14 .normal)).line.state = .normal ∧
    (after .readbackFailure (failing 15 .normal)).line.state = .lineFault ∧
    (after .readbackFailure (failing 16 .lineFault)).line.failures = 16 ∧
    after .readbackFailure bay = bay ∧ after .transmitSuccess bay = bay ∧
    order (after .transmitSuccess (failing 16 .lineFault)) = [0, 2, 3] ∧
    (after .transmitSuccess (failing 16 .lineFault)).line.state = .normal ∧
    (after .transmitSuccess (failing 16 .lineFault)).line.faultTimer = none ∧
    (after .transmitSuccess (failing 16 .lineFault)).line.echo = some [] ∧
    after .lineFaultExpiry bay = bay ∧
    (after .lineFaultExpiry (attempt .none (failing 16 .lineFault))).line.permit = true := by
  decide +kernel

/-- The ITU check of the nine digits 1 to 9 with this generator, preset and bit order, before its final
inversion: 906EH, inverted 6F91H. -/
theorem test_line_check :
    lineCheck [0x31, 0x32, 0x33, 0x34, 0x35, 0x36, 0x37, 0x38, 0x39] = 0x6F91 := by
  decide +kernel

/-- A CLAIM of station 4 for cartridge 12, written out byte by byte from R175 and R183. -/
theorem test_claim_frame :
    frameOf { dest := 255, src := 4, seq := 3, body := .claim 12 }
      = [255, 4, 9, 3, 5, 0, 0, 0, 0, 12]
        ++ putWord (lineCheck [255, 4, 9, 3, 5, 0, 0, 0, 0, 12]) := by
  decide +kernel

/-- A STATUS of R182 byte by byte: NORMAL, demand 140, filtered RH 443, 252 places, 2 s. -/
theorem test_status_bytes :
    (Body.status (statusOf 0 2)).bytes = [0, 128, 0, 140, 1, 187, 0, 252, 2] := by
  decide +kernel

/-- Each row of R176 that a frame can meet, and what R174 discards. -/
theorem witness_FrameFiltered :
    let frame (dest src seq : Byte) (b : Body) : List Byte :=
      frameOf { dest := dest, src := src, seq := seq, body := b }
    let take (bs : List Byte) (st : Station) : Station := after (.frameReceive bs) st
    let claim : List Byte := frame 255 4 3 (.claim 12)
    let heard (n : Nat) (q : Byte) (st : Station) : Bool :=
      decide (st.line.lastHeard.getD n none = some (q, 0))
    let at' (st : Station) (n : Nat) (age : Ticks) : Station :=
      { st with now := age, line := { st.line with
          lastHeard := st.line.lastHeard.set n (some (3, 0)) } }
    parseFrame claim = some { dest := 255, src := 4, seq := 3, body := .claim 12 } ∧
    take claim { bay with line := { bay.line with attempt := .sending 1 claim } }
      = { bay with line := { bay.line with attempt := .sending 1 claim } } ∧
    take claim { bay with line := { bay.line with echo := some claim } } = bay ∧
    parseFrame ([255, 4, 9, 3, 4, 0, 0, 0, 0] ++ putWord (lineCheck [255, 4, 9, 3, 4, 0, 0, 0, 0])) = none ∧
    parseFrame ([255, 4, 24, 3, 0] ++ putWord (lineCheck [255, 4, 24, 3, 0])) = none ∧
    parseFrame ([255, 4, 19, 3, 0] ++ putWord (lineCheck [255, 4, 19, 3, 0])) ≠ none ∧
    take (claim.take 6) bay = bay ∧ take (List.replicate 48 0) bay = bay ∧
    take (claim.set 9 13) bay = bay ∧ take (claim.set 4 4) bay = bay ∧
    (take (frame 255 5 3 (.claim 12)) bay).loader.state = .clash ∧
    take (frame 255 5 3 (.claim 12)) { bay with loader := { bay.loader with state := .clash } }
      = { bay with loader := { bay.loader with state := .clash } } ∧
    take (frame 6 4 3 (.arrive ⟨5, 1⟩)) bay = bay ∧
    heard 4 3 (take claim bay) = true ∧
    take claim bay = after (.claim 4 12)
      { bay with line := { bay.line with lastHeard := bay.line.lastHeard.set 4 (some (3, 0)) } } ∧
    (take claim (at' bay 4 124999)).peers = bay.peers ∧
    (take claim (at' bay 4 125000)).peers ≠ bay.peers ∧
    kinds (take (frame 5 4 3 .restore) bay) = [] ∧ heard 24 3 (take (frame 5 24 3 (.claim 12)) bay) = true ∧
    kinds (take (frame 255 24 3 .restore) bay) = [] ∧ kinds (take (frame 5 31 3 .restore) bay) = [23] ∧
    kinds (take (frame 255 24 3 (.checkout 100 7 20)) bay) = [23] := by
  decide +kernel

theorem witness_FramesReadBack :
    (Body.reply { kind := 13, seq := 1, outcome := 1, detail := some (.raw (List.replicate 36 7)) }
      ).carried ∧
    parseFrame (frameOf { dest := 24, src := 5, seq := 255, body := .query (.transfer ⟨5, 1⟩) })
      = some { dest := 24, src := 5, seq := 255, body := .query (.transfer ⟨5, 1⟩) } ∧
    parseFrame (frameOf { dest := 255, src := 5, seq := 0, body := .status (statusOf 8 10) })
      = some { dest := 255, src := 5, seq := 0, body := .status (statusOf 8 10) } :=
  ⟨⟨by decide, Nat.le_refl 36⟩, by decide +kernel, by decide +kernel⟩

/-! ### Chapter 12 -/

/-- The image of the worked examples for a role. -/
def image (role : Nat) : RawImage where
  role := some role
  beacon := none
  neighbours := some [4, 6, 4, 5]
  txOrder := none
  loop0 := ⟨some 1, some 0⟩
  loop1 := ⟨some 1, some 1⟩
  loop2 := ⟨some 2, none⟩
  loop3 := ⟨some 3, some 1⟩
  confWin := none
  evacLimit := none
  predischarge := none
  releasePulse := none
  soakTime := none
  batteryLow := some 300
  p0 := some 24000
  p100 := some 31000
  k := some 12
  sp := some 400
  band := some 50
  db := some 20
  gain := some 32
  alphaDiv := some 8
  excDelay := some 10
  fallbackDemand := some 100
  capacity := some 1200
  cap := some 500
  vfull := some 640
  valvePeriod := some 20
  minPulse := some 500
  damperTravel := some 30
  drawerTravel := some 20
  expoLimit := some 100
  acclim := some 60
  holdExtent := some 0
  holdEnd := some 0
  holdComplement := some 0
  holdMode := some 0
  transitLimit := none
  sessionLimit := none
  auditStepLimit := none
  posOut := some 2000
  doorPulse := none

theorem witness_ImageJudged :
    let read (straps : BitVec 5) (r : ImageRead) : Station :=
      after (.imageReadComplete straps r) Station.reset
    let code (straps : BitVec 5) (r : ImageRead) : Nat := (read straps r).loader.faultCode
    Station.reset.live = true ∧ Station.reset.loader.state = .loading ∧
    after (.imageReadComplete 5 ⟨true, true, image 0⟩) bay = bay ∧
    code 24 ⟨false, false, image 2⟩ = 1 ∧ code 24 ⟨true, false, image 2⟩ = 2 ∧
    code 24 ⟨true, true, image 2⟩ = 3 ∧ code 24 ⟨true, true, image 0⟩ = 5 ∧
    code 5 ⟨true, true, { image 0 with minPulse := some 5001 }⟩ = 3 ∧
    code 5 ⟨true, true, { image 0 with p100 := some 24999 }⟩ = 3 ∧
    code 5 ⟨true, true, { image 0 with p100 := some 25000 }⟩ = 0 ∧
    code 5 ⟨true, true, { image 0 with alphaDiv := some 3 }⟩ = 3 ∧
    code 5 ⟨true, true, { image 0 with batteryLow := none }⟩ = 3 ∧
    (read 23 ⟨true, true, image 1⟩).loader.state = .selftest ∧
    (read 23 ⟨true, true, image 1⟩).cfg.role = .hatch ∧
    (read 5 ⟨true, true, image 0⟩).peers.neighbours = [6, 4] ∧
    (image 0).check = some { bayCfg with neighbours := [4, 6, 4, 5] } := by
  decide +kernel

/-- The short table's bay as SELFTEST finds it after a start. -/
def tested (k : StartKind) (marker : Bool) (check : BitVec 16) (role : Role) : Station :=
  { pulling .lit bay4 with
    loader := { bay.loader with state := .selftest, startKind := k }
    retention := { markerGood := marker, role := some role }
    door := { bay.door with check := check } }

theorem witness_SelftestListenJoined :
    let kept (k : StartKind) (marker : Bool) (check : BitVec 16) (role : Role) : Nat :=
      (after (.selftestComplete true) (tested k marker check role)).pulls.entries.length
    let listening : Station := { bay4 with loader := { bay.loader with state := .listen } }
    (tested .powerUp true 0 .bay).live = true ∧ (tested .powerUp true 0 .bay).supp.fire = .normal ∧
    kept .powerUp true 0 .bay = 1 ∧ kept .powerUp false 0 .bay = 0 ∧ kept .powerUp true 1 .bay = 0 ∧
    kept .powerUp true 0 .hatch = 0 ∧ kept .resetLine false 1 .bay = 1 ∧
    kept .resetLine true 0 .hatch = 0 ∧
    (after (.selftestComplete false) (tested .powerUp true 0 .bay)).loader.faultCode = 4 ∧
    after (.selftestComplete true) bay = bay ∧ listening.damageReported ∧
    (after .listenEnd listening).loader.state = .joined ∧
    kinds (after .listenEnd listening) = [1] ∧ after .listenEnd bay = bay := by
  decide +kernel

/-- What SELFTEST keeps after the reset line: a LIT pull waiting again, a held one gone, a record at its
limit, a damaged one to be reported, the OUT one with no pull unplanned, the transfers and custody. -/
theorem witness_SelftestKeeps :
    let kept (extent : Nat) : Station :=
      let cfg : ConfigRecord := { bayCfg with hold := ⟨extent, .low, false⟩ }
      let st := tested .resetLine true 0 .bay
      after (.selftestComplete true) { st with
        loader := { st.loader with cfg := cfg }
        xfer := { st.xfer with entries := [sending .offered .stopped] }
        table := { st.table with
          slots := [slotOf (.filed { cartOf 100 with exposure := 100 }), slotOf (.out (cartOf 101) false),
            { slotOf (.filed (cartOf 102)) with difference := 1 }, slotOf .unsettled] } }
    let drawer : Station := { holds .inDrawer none hatch with
      loader := { hatch.loader with state := .selftest, startKind := .resetLine } }
    (kept 0).pulls.entries = (pulling .waiting bay).pulls.entries ∧ (kept 8).pulls.entries = [] ∧
    (kept 0).table.slots.map Slot.record
      = [.filed { cartOf 100 with exposure := 100, inspect := true }, .out (cartOf 101) true,
        .filed (cartOf 102), .unsettled] ∧
    (kept 0).table.slots.map Slot.debounced = [some true, some false, none, none] ∧
    (kept 0).table.slots.map (fun sl => decide (sl.damage = .none)) = [true, true, false, true] ∧
    (kept 0).xfer.entries.map XferEntry.transit = [.running (125000 * bayCfg.transitLimit)] ∧
    (after (.selftestComplete true) drawer).hatch.custody.map CustodyEntry.state = [.heldOutbound] ∧
    (after (.selftestComplete true) drawer).hatch.expected = hatch.hatch.expected := by
  decide +kernel

theorem witness_StartsBeginAfresh :
    let waiting : Station := { queueing [queued 7 .restart] with
      loader := { bay.loader with restartWait := some { made := 7, timer := some 0 } } }
    let off : Station := { bay with loader := { bay.loader with powered := false } }
    (after .restartTimerExpiry waiting).loader.state = .loading ∧
    (after .restartStart waiting).loader.state = .loading ∧
    after .restartStart bay = bay ∧ after .restartTimerExpiry bay = bay ∧
    (after .resetLineRelease bay).loader.state = .loading ∧
    (after .resetLineRelease off).loader.state = .joined ∧
    (after (.powerUp [.marker, .slotRecord 0 9]) off).retention.markerGood = false ∧
    ((after (.powerUp [.marker, .slotRecord 0 9]) off).table.slot 0).difference = 9 ∧
    (after .powerLoss (atEnd .release false false)).supp.release = false ∧
    (after .resetLineAssert (atEnd .release false false)).supp.lock = true ∧
    outcomes (.restart 24 1) bay = [0] ∧ outcomes (.restart 24 1) (inFire .held bay) = [19] ∧
    (after (.restart 24 1) bay).loader.restartWait = some { made := 0, timer := some 250000 } ∧
    (after (.restart 24 1) waiting).loader.restartWait = waiting.loader.restartWait ∧
    after (.restart 24 1) { bay with loader := { bay.loader with state := .clash } }
      = { bay with loader := { bay.loader with state := .clash } } := by
  decide +kernel

/-! ### The filters, and the corners of the families above -/

/-- The hold switch and the key switch before their filters of 100 ms: a filter that goes on, one that stops, an input outside LISTEN, and the event at the filter's end. -/
theorem witness_SwitchesFiltered :
    let hold (c : Bool) (st : Station) : Station := after (.holdSwitchChange (.level c)) st
    let loading : Station := { bay with loader := { bay.loader with state := .loading } }
    let filtering (t : Timer) : Station :=
      { bay with pins := { bay.pins with holdInput := true }, supp := { bay.supp with holdFilter := t } }
    (hold true bay).supp = { bay.supp with holdFilter := some 12500 } ∧
    (hold true bay).pins.holdInput = true ∧
    (hold true (filtering (some 7))).supp.holdFilter = some 7 ∧
    (hold false (filtering (some 7))).supp.holdFilter = none ∧
    (hold true loading).supp = loading.supp ∧ (hold true loading).pins.holdInput = true ∧
    after (.holdSwitchChange (.filtered true)) loading = loading ∧
    (filtering (some 0)).due.head? = some (.holdSwitchChange (.filtered true)) ∧
    (after (.keySwitchChange (.level true)) bay).table.keyFilter = some 12500 ∧
    (after (.keySwitchChange (.level true)) hatch).table.keyFilter = none ∧
    (after (.keySwitchChange (.filtered true)) bay).table.keyOn = true := by
  decide +kernel

/-- A button before its 50 ms: going down starts them, staying down does not, going up ends them, none before
LISTEN; the press at their end counts once. -/
theorem witness_ButtonsHeld :
    let send (down : Bool) (st : Station) : Station := after (.sendPress (.level down)) st
    let done (down : Bool) (st : Station) : Station := after (.donePress (.level down)) st
    let loading : Station := { hatch with loader := { hatch.loader with state := .loading } }
    let filled : Station := session .filling .outbound 700 [⟨9, false⟩] (holds .inDrawer none hatch)
    let ending : Station := { send true filled with hatch := { filled.hatch with sendTimer := some 0 } }
    let pressed : Station := after (.sendPress .press) ending
    (send true hatch).hatch.sendTimer = some 6250 ∧ (send true hatch).pins.sendDown = true ∧
    (done true hatch).hatch.doneTimer = some 6250 ∧ (done true (done true hatch)) = done true hatch ∧
    (send true ((send true hatch).tick)).hatch.sendTimer = some 6249 ∧
    (send false (send true hatch)) = hatch ∧ (done false (done true hatch)) = hatch ∧
    (send true loading).hatch = loading.hatch ∧ (done true loading).pins.doneDown = true ∧
    ((send true hatch).beginStart .resetLine).hatch.sendTimer = none ∧
    Instr.sendPress .press ∈ ending.due ∧ pressed.motion.state = .moving .a ∧
    pressed.hatch.sendTimer = none ∧ send true pressed = pressed := by
  decide +kernel

/-- A drawer pushed off its ends: pending under the dead time, stalled under an open flap, the courier's
session broken off there and an ended one left alone; the counter cleared where the drawer rests OUT; an
inbound handover of nothing. -/
theorem witness_RedriveAndStall :
    let outAt (pos : Nat) (dead : Timer) (flap : Bool) (st : Station) : Station :=
      { st with
        motion := { hatch.motion with state := .resting .a, last := some .a, dead := dead }
        pins := { st.pins with outerFlapOpen := flap, innerEnd := false }
        hatch := { st.hatch with position := pos } }
    let turn (st : Station) : Station := after (.encoderTransition true false) st
    let leave (st : Station) : Station := after (.endSwitchOpen .innerEnd) st
    let dead : Station := { hatch with motion := { hatch.motion with dead := some 9 } }
    let flap : Station := { hatch with pins := { hatch.pins with innerFlapOpen := true } }
    let showing : Station := session .presenting .outbound 700 [⟨9, false⟩] (holds .inDrawer none hatch)
    let handed (st : Station) : Station := session .handed .outbound 700 [] st
    let coming : Station :=
      { handed hatch with
        motion := { hatch.motion with state := .moving .b, coilB := true, travel := some 3 } }
    let empty : Station :=
      { session .returning .inbound 701 [] hatch with
        motion := { hatch.motion with state := .moving .b, coilB := true, travel := some 3 }
        pins := { hatch.pins with innerEnd := false } }
    let close (st : Station) : Station := after (.endSwitchClose .innerEnd) st
    (turn (outAt 1984 (some 9) true hatch)).motion.state = .moving .a ∧
    (turn (outAt 1984 (some 9) true hatch)).motion.coilA = false ∧
    (turn (outAt 1984 none false hatch)).motion.coilA = true ∧
    (turn (outAt 1984 none true hatch)).motion.cause = some .interlock ∧
    (turn (outAt 1985 none true hatch)).motion.state = .resting .a ∧
    (turn (outAt 1984 none true showing)).hatch.session.reason = some .interlock ∧
    kinds (turn (outAt 1984 none true showing)) = [12] ∧
    (turn (outAt 1984 none true (handed hatch))).hatch.session = (handed hatch).hatch.session ∧
    (leave dead).motion.state = .moving .b ∧ (leave dead).motion.coilB = false ∧
    (leave flap).motion.cause = some .interlock ∧
    (leave (session .filling .outbound 700 [] flap)).hatch.session.reason = some .interlock ∧
    (leave (handed flap)).hatch.session.state = .handed ∧
    (after (.flapChange .outer true) coming).motion.state = .stalled ∧
    (after (.flapChange .outer true) coming).hatch.session = coming.hatch.session ∧
    (after .travelExpiry coming).hatch.session = coming.hatch.session ∧
    (close (outAt 1984 none false hatch)).motion.coilA = true ∧
    (close (outAt 1983 none false hatch)).motion.state = .resting .a ∧
    (close empty).line.queue.map QMsg.body = [.handover
      { job := 701, direction := 1, handed := 0, remaining := 1, outcome := 0, reason := none }] ∧
    (close empty).hatch.session = .idle ∧ (close empty).hatch.custody = hatch.hatch.custody := by
  decide +kernel

/-- A damaged record at a removal, reported before and not; at the cursor. -/
theorem witness_DamagedRemoval :
    let damaged (d : DamageReport) (st : Station) : Station :=
      st.modifySlot 0 fun sl => { sl with difference := 1, damage := d }
    let gone (st : Station) : Station := st.removal 0
    ((gone (damaged .sent bay4)).table.slot 0).record = .vacant ∧ kinds (gone (damaged .sent bay4)) = [] ∧
    gone (damaged .none bay4) = (bay4.withRecord 0 .vacant).post .slotTable 255 (.custodyAlert
      { kind := 3, slot := some 0, cart := some 100, cart2 := none, tid := none, reason := none }) ∧
    (gone (damaged .none (auditing .running bay4))).audit.state = .reading ∧
    kinds (gone (damaged .none (auditing .running bay4))) = [4] := by
  decide +kernel

/-- Two pulls in held slots, removed and answered in their order; one OUT, kept. -/
theorem witness_HeldPullsCancelled :
    let pull (c : Cart) (n : Nat) (q : Byte) (s : PullState) : PullEntry :=
      { cart := c, slot := n, job := 7, hatch := 20, requester := 24, reqSeq := q, state := s }
    let st : Station :=
      { bay4.withPulls [pull 101 1 1 .lit, pull 103 3 2 .out, pull 100 0 3 .waiting] with
        table := { bay4.table with hold := ⟨8, .low, false⟩ } }
    let cancelled (q : Byte) (n : Nat) : Body :=
      .reply { kind := 13, seq := q, outcome := 5, detail := some (.slot n) }
    st.cancelHeld.pulls.entries = [pull 103 3 2 .out] ∧
    st.cancelHeld.line.queue.map QMsg.body = [cancelled 1 1, cancelled 3 0] := by
  decide +kernel

/-- The image of a record OUT, of a damaged one and of an unsettled one; a QUERY that first finds the
damage, with a pull of the cartridge. -/
theorem witness_RecordImages :
    let damaged (st : Station) : Station := st.modifySlot 0 fun sl => { sl with difference := 1 }
    let unsettled : Station := (holding .unsettled).modifySlot 0 fun sl => { sl with debounced := none }
    let asked : Station := after (.querySlot 24 1 0) (damaged (pulling .lit bay4))
    ((outBay true).recordImage 0).unplanned = some true ∧ ((outBay true).recordImage 0).state = 2 ∧
    ((damaged bay4).recordImage 0).cart = some 100 ∧ ((damaged bay4).recordImage 0).exposure = none ∧
    ((damaged bay4).recordImage 0).state = 7 ∧ ((damaged bay4).recordImage 0).presence = some true ∧
    (unsettled.recordImage 0).presence = none ∧ (bay4.recordImage 0).presence = some true ∧
    (damaged (pulling .lit bay4)).bay = true ∧ (damaged (pulling .lit bay4)).line.idle = false ∧
    kinds asked = [4, 23, 23] ∧ asked.pulls.entries = [] ∧ (asked.table.slot 0).damage = .sent := by
  decide +kernel

/-- An audit's slot filled again where its record was VACANT, RESERVED, or damaged and reported. -/
theorem witness_AuditInsertionElse :
    let at' (s : AuditState) (r : Rec) : Station :=
      let st := auditing s (holding r)
      { st with audit := { st.audit with finding := some .unidentified, last := 3 } }
    let coming (s : AuditState) : Station :=
      withEntry { sending .expected .stopped with tid := ⟨20, 1⟩ }
        (at' s (.reserved (cartOf 100) ⟨20, 1⟩))
    let ins (st : Station) : Station := st.insertion 0
    let damaged : Station := (at' .reading .vacant).modifySlot 0 fun sl =>
      { sl with difference := 1, damage := .sent }
    ((ins (at' .reading .vacant)).table.slot 0).record = .stray ∧
    kinds (ins (at' .reading .vacant)) = [4] ∧ (ins (at' .reading .vacant)).audit.cursor = some 0 ∧
    (ins (at' .reading .vacant)).audit.state = .running ∧
    ((ins (at' .returning .vacant)).table.slot 0).record = .stray ∧
    (ins (at' .returning .vacant)).audit.cursor = some 1 ∧
    ((ins (coming .reading)).table.slot 0).record = .filed { cartOf 100 with acclim := some 60 } ∧
    kinds (ins (coming .reading)) = [8] ∧ (ins (coming .reading)).audit.state = .running ∧
    (ins (coming .returning)).audit.cursor = some 1 ∧ stages (ins (coming .returning)) = [.arrived] ∧
    ((ins damaged).table.slot 0).record = .stray ∧ damaged.damageReported := by
  decide +kernel

/-- R128's conditions one by one, and a pull whose record is lost. -/
theorem witness_DeclinesAndLostDeparture :
    let no (st : Station) : Bool := st.declines .outbound 100 20
    let scan (st : Station) : Station := after (.checkStationScan .cartridge 100) st
    let lost (r : Rec) : Station := pulling .out (holding r)
    let damaged : Station := (departing true).modifySlot 0 fun sl =>
      { sl with difference := 1, damage := .sent }
    no bayHeard = false ∧ no bay = true ∧ bayHeard.declines .inbound 100 20 = true ∧
    bayHeard.declines .inbound 100 4 = false ∧
    no { bayHeard with loader := { bay.loader with state := .listen } } = true ∧
    no (withEntry (sending .lapsed .stopped) bayHeard) = true ∧
    no (withEntry { sending .lapsed .stopped with cart := 55 } bayHeard) = false ∧
    no { bayHeard with xfer := { bay.xfer with claims := [{ cart := 100, timer := 1 }] } } = true ∧
    no { bayHeard with xfer := { bay.xfer with
      entries := List.replicate 16 { sending .lapsed .stopped with cart := 55 } } } = true ∧
    (scan (lost (.out (cartOf 101) false))).pulls.entries = [] ∧
    kinds (scan (lost (.out (cartOf 101) false))) = [23] ∧ kinds (scan (lost .stray)) = [23] ∧
    kinds (scan damaged) = [23] ∧ stages (scan damaged) = [] := by
  decide +kernel

/-- Entry into JOINED: the STATUS, then an OFFER and an ARRIVE with attempts 0; or the damage owed. Entry
into LISTEN: lamps, and the filters of inputs that stand operated. -/
theorem witness_JoinedAndListen :
    let listening (st : Station) : Station := { st with loader := { bay.loader with state := .listen } }
    let offer : XferEntry := { sending .offered .stopped with attempts := 2 }
    let arrive : XferEntry :=
      { sending .arrived .stopped with tid := ⟨20, 1⟩, cart := 55, attempts := 1, slot := some 1 }
    let open' : Station := { listening (pulling .waiting bay4) with
      xfer := { bay4.xfer with entries := [offer, { arrive with tid := ⟨20, 2⟩, state := .refused }, arrive] } }
    let joined : Station := after .listenEnd open'
    let owing : Station := listening (bay4.modifySlot 2 fun sl =>
      { sl with difference := 1, damage := .pending 0 })
    let operated (st : Station) : Station := { st with
      loader := { st.loader with state := .selftest, startKind := .resetLine }
      pins := { st.pins with holdInput := true, keyInput := true } }
    let begun : Station := after (.selftestComplete true) (operated { bay4 with
      xfer := { bay4.xfer with entries :=
        [{ sending .refused .stopped with slot := some 3 }, { arrive with state := .placing }] }
      table := { bay4.table with
        slots := [slotOf .vacant, slotOf (.placing (cartOf 55) ⟨20, 1⟩), slotOf .vacant,
          slotOf (.departing (cartOf 100) ⟨5, 1⟩)] } })
    kinds joined = [1, 5, 8] ∧ joined.pulls.lamp = some 0 ∧
    joined.line.queue.map QMsg.dest = [255, 20, 20] ∧
    joined.xfer.entries.map XferEntry.attempts = [0, 1, 0] ∧
    joined.xfer.entries.map XferEntry.reply = [some 125000, some 0, some 125000] ∧
    open'.damageReported ∧ kinds (after .listenEnd owing) = [1, 4] ∧
    ((after .listenEnd owing).table.slot 2).damage = .sent ∧
    begun.lamp 1 = .on ∧ begun.lamp 3 = .flashing ∧ begun.lamp 0 = .off ∧
    begun.supp.holdFilter = some 12500 ∧ begun.table.keyFilter = some 12500 ∧
    (after (.selftestComplete true) (operated hatch)).table.keyFilter = none ∧
    (after (.selftestComplete true) (operated bay4)).supp.holdFilter = some 12500 := by
  decide +kernel

/-- Entry into a confirmed state with an audit under way at a sound OUT record without a pull entry, at
one that has an entry, and at a VACANT one; pulls kept in order; a session broken off with the drawer at
rest IN and OUT. -/
theorem witness_BlocksLeaveTheRest :
    let confirmed (st : Station) : Station := (inFire .evacuate st).followConfirmed
    let out : Station := auditing .reading (holding (.out (cartOf 100) false))
    let pulls : List PullEntry := busyBay.pulls.entries.map fun e => { e with cart := 101, slot := 2 }
    let queued : Station := auditing .suspended ((holding (.out (cartOf 100) false)).withPulls
      ((pulling .out bay).pulls.entries ++ pulls))
    let unit (d : Station) : Station := holds .inDrawer none (session .presenting .outbound 700 [] d)
    ((confirmed out).table.slot 0).record = .out (cartOf 100) true ∧
    (confirmed out).audit = .start ∧ kinds (confirmed out) = [23] ∧
    ((confirmed queued).table.slot 0).record = .out (cartOf 100) false ∧
    (confirmed queued).pulls.entries.map PullEntry.state = [.out, .waiting] ∧
    (confirmed queued).pulls.entries.map PullEntry.cart = [100, 101] ∧
    kinds (confirmed queued) = [23] ∧
    (confirmed (auditing .running (holding .vacant))).table = (holding .vacant).table ∧
    (confirmed (unit hatch)).hatch.custody.map CustodyEntry.state = [.heldOutbound] ∧
    (confirmed (unit hatch)).hatch.session = .idle ∧ kinds (confirmed (unit hatch)) = [12] ∧
    (confirmed (unit (drawerOut hatch))).hatch.session.reason = some .fire ∧
    (confirmed (unit (drawerOut hatch))).hatch.session.state = .aborted := by
  decide +kernel

/-- What joins while the line is idle is selected at once, in LINE-FAULT not; an ARRIVE loads its reply
timer; a STATUS under an attempt is replaced; an expiry of the LINE-FAULT timer on an idle line and
during an attempt; and 256 pending alerts, one of them a displaced DAMAGED-RECORD one. -/
theorem witness_SelectedAtOnce :
    let idle (s : LineState) (a : Attempt) (st : Station) : Station :=
      { st with line := { st.line with
          idle := true, state := s, attempt := a, beacon := some 0, faultTimer := some 0 } }
    let one : Station := queueing [queued 1 (.status (statusOf 0 2))]
    let arriving : Station := withEntry { sending .offered .stopped with tid := ⟨20, 1⟩ } bay
    let alert (kind : Byte) (k : Blk) : Pend :=
      { made := 7, blk := k, dest := 255, body := .custodyAlert
          { kind := kind, slot := some 1, cart := none, cart2 := none, tid := none, reason := none } }
    let owing (n : Nat) : Station := { fullQueue with line := { fullQueue.line with
      pend := alert 3 .slotTable :: alert 5 .door :: List.replicate n (alert 1 .slotTable) } }
    let more (st : Station) : Nat :=
      (st.handAlert .slotTable (alertBody .strayInsert (some 2) none)).line.pend.length
    ((idle .normal .none bay).hand .pulls 255 (.claim 5)).line.attempt = .waiting 0 56 ∧
    ((idle .lineFault .none bay).hand .pulls 255 (.claim 5)).line.attempt = .none ∧
    ((idle .normal (.waiting 1 9) one).hand .pulls 255 (.claim 5)).line.attempt = .waiting 1 9 ∧
    ((idle .normal .none bay).handFire (.discharge 5)).line.attempt = .waiting 0 40 ∧
    (arriving.hand .transfers 20 (.arrive ⟨20, 1⟩)).xfer.entries.map XferEntry.reply
      = [some 125000] ∧
    (after .beaconExpiry { one with line := { one.line with
      attempt := .sending 1 [], backoff := true, beacon := some 0 } }).line.attempt = .none ∧
    (after .beaconExpiry (idle .normal (.waiting 1 9) one)).line.attempt = .waiting 100 72 ∧
    (after .lineFaultExpiry (idle .lineFault .none one)).line.attempt = .waiting 1 72 ∧
    (after .lineFaultExpiry (idle .lineFault (.waiting 1 9) one)).line.permit = false ∧
    more (owing 255) = 258 ∧ more (owing 256) = 258 := by
  decide +kernel

/-- The full scan: due at entry into LISTEN, paced by 500 ms, its readings what the matrix gives, no scan
outside a running BAY; and an insertion found by two scans in a row. -/
theorem witness_ScanTaken :
    let level (r : BitVec 256) (st : Station) : Station := after (.presenceScan (.level r)) st
    let scan (r : BitVec 256) (st : Station) : Station := after (.presenceScan (.scan r)) st
    let starting (st : Station) : Station := after (.selftestComplete true)
      { st with loader := { st.loader with state := .selftest, startKind := .resetLine } }
    let owed : Station := level 5 { bay4 with table := { bay4.table with scanTimer := some 0 } }
    (level 5 hatch).pins.matrix = 5 ∧ (level 5 bay4).table = bay4.table ∧
    owed.due.head? = some (.presenceScan (.scan 5)) ∧ scan 5 hatch = hatch ∧
    (scan 5 owed).table.scanTimer = some 62500 ∧ (scan 5 bay4).pins.matrix = 5 ∧
    (starting bay4).table.scanTimer = some 0 ∧ (starting hatch).table.scanTimer = none ∧
    ((scan 3 (holding .vacant)).table.slot 0).record = .vacant ∧
    ((scan 3 (scan 3 (holding .vacant))).table.slot 0).record = .stray := by
  decide +kernel

/-- A WITHDRAW at a slot whose lamp flashes for a refused cartridge: left flashing where the free is made,
withdrawn where the record is another or DAMAGED. -/
theorem witness_WithdrawAndLamp :
    let told (r : Rec) (difference : BitVec 16) : Station :=
      after (.withdraw 20 ⟨20, 1⟩) (withEntry (receiving .expected)
        (({ holding r with line := bay.line }.askLamp 0 .flashing).modifySlot 0 fun sl =>
          { sl with difference := difference, damage := if difference = 0 then .none else .sent }))
    let mine : Rec := .reserved (cartOf 55) ⟨20, 1⟩
    (told mine 0).lamp 0 = .flashing ∧ ((told mine 0).table.slot 0).record = .vacant ∧
    (told .stray 0).lamp 0 = .off ∧ ((told .stray 0).table.slot 0).record = .stray ∧
    (told mine 1).lamp 0 = .off ∧ ((told mine 1).table.slot 0).record = mine ∧
    stages (told mine 0) = [] ∧ stages (told mine 1) = [] := by
  decide +kernel

/-- The station after `n` of its own due commands. -/
def served : Nat → Station → Station
  | 0, st => st
  | n + 1, st => served n ((st.due.head?.map (after · st)).getD st)

/-- R41: a scan samples the loops in their order, a long one the temperature and the battery after them;
each takes what its input gives; another channel's code leaves the scan where it is. -/
theorem witness_ScanSamplesInOrder :
    let seen (c : Instr) (st : Station) : Station := after c st
    let given : Station := seen (.batteryCode (.level 6)) (seen (.temperatureCode (.level 500))
      (seen (.loopSample 3 (.level 4)) (seen (.loopSample 2 (.level 3)) (seen (.loopSample 1 (.level 2))
        (seen (.loopSample 0 (.level 1)) { bay with table := { bay.table with minute := none } })))))
    let scan (count : Nat) : Station :=
      seen .adcScan { given with det := { given.det with scanCount := count } }
    let codes (count n : Nat) : List Instr := (List.range n).flatMap fun k => (served k (scan count)).due
    given.det = bay.det ∧ given.moist = bay.moist ∧ given.due = [] ∧
    codes 0 7 = [.loopSample 0 (.sample 1), .loopSample 1 (.sample 2), .loopSample 2 (.sample 3),
      .loopSample 3 (.sample 4), .temperatureCode (.sample 500), .batteryCode (.sample 6)] ∧
    codes 1 5 = [.loopSample 0 (.sample 1), .loopSample 1 (.sample 2), .loopSample 2 (.sample 3),
      .loopSample 3 (.sample 4)] ∧
    (seen (.batteryCode (.sample 9)) (scan 0)).det.channel = some (.loop 0) ∧
    (seen (.loopSample 0 (.sample 900)) (scan 0)).pins.adcLoop0 = 1 := by
  decide +kernel

/-- R2, R41: a capture under way ends with what the sensor gives; a HATCH's long scan goes on past the
temperature, whose code it discards. -/
theorem witness_CaptureEndsAndHatchScans :
    let slot : Station := after .measurementSlot
      (after (.captureComplete (.level (some 26460))) { bay with table := { bay.table with minute := none } })
    let long : Station :=
      { hatch with det := { hatch.det with channel := some .temperature, longScan := true } }
    slot.due = [.captureComplete (.complete (some 26460))] ∧ (served 1 slot).moist.capturing = false ∧
    (served 1 slot).moist.latest = .count 26460 ∧
    long.due.head? = some (.temperatureCode (.sample 512)) ∧
    (served 1 long).moist = hatch.moist ∧ (served 1 long).det.channel = some .battery ∧
    (served 2 long).det.channel = none := by
  decide +kernel

/-- R146, R188: a start that ends in FAULT leaves a retained entry as it found it, its transit timer
neither counting nor due there; entry into LISTEN sets it. -/
theorem witness_FaultKeepsTransit :
    let found : Station := withEntry (sending .accepted (.running 0)) bay
    let faulty : Station := after (.imageReadComplete 5 ⟨false, false, image 0⟩)
      (after .resetLineRelease (after .resetLineAssert found))
    let listening : Station := after (.selftestComplete true)
      { found with loader := { found.loader with state := .selftest, startKind := .resetLine } }
    faulty.loader.state = .fault ∧ faulty.xfer.entries.map XferEntry.transit = [.running 0] ∧
    faulty.tick.xfer.entries = faulty.xfer.entries ∧
    Instr.transitExpiry ⟨5, 1⟩ ∉ faulty.due ∧ Instr.transitExpiry ⟨5, 1⟩ ∈ found.due ∧
    after (.transitExpiry ⟨5, 1⟩) faulty = faulty ∧
    listening.xfer.entries.map XferEntry.transit = [.running (ticksOfSec bayCfg.transitLimit)] := by
  decide +kernel

/-- A queue that gives a choice, and none; a REPLY that ends at its presence byte; images at the edges. -/
theorem witness_ChoiceReplyAndImage :
    let reply (p : Byte) (more : List Byte) : List Byte :=
      let body := [24, 5, 23, 3, BitVec.ofNat 8 (4 + more.length), 13, 1, 0, p] ++ more
      body ++ putWord (lineCheck body)
    bay.line.choose .custodyFirst = none ∧
    (queueing [queued 1 (.claim 5)]).line.choose .routineFirst ≠ none ∧
    parseFrame (reply 1 []) = none ∧ parseFrame (reply 0 []) ≠ none ∧ parseFrame (reply 1 [7]) ≠ none ∧
    ({ image 0 with minPulse := some 5000 }).check ≠ none ∧
    ({ image 0 with minPulse := some 99 }).check = none ∧
    ({ image 0 with beacon := some 10, k := some (-64), posOut := some 4000 }).check ≠ none ∧
    ({ image 0 with neighbours := some [1, 2, 3, 4, 5] }).check = none ∧
    ({ image 0 with holdMode := none }).check = none := by
  decide +kernel

/-! ### What every step keeps -/

theorem witness_DriveStaysLawful :
    (channel (.moving .b) none true).DriveLawful ∧
    (after .travelExpiry (channel (.moving .b) none true)).DriveLawful :=
  ⟨⟨by decide, by decide, by decide, fun h => absurd h (by decide)⟩,
    ⟨by decide, by decide, by decide, fun h => absurd h (by decide)⟩⟩

theorem witness_ReleaseAndBoundsKept :
    (atEnd .release false false).releaseLawful ∧ fullQueue.queueBounded ∧
    (occupied [1, 2, 3, 4, 5, 6, 7, 8]).occupancyLawful ∧ (pulling .lit bay).pullsBounded ∧
    Machine.step (mach (atEnd .release false false))
      = .next { mach (atEnd .release false false) with pending := [.releasePulseExpiry] } := by
  refine ⟨by decide, by decide, by decide, by decide, rfl⟩

theorem witness_OnTimesStayLawful :
    (stagedBay 19500 false).StageLawful ∧ (stagedBay 500 false).StageLawful ∧
    (stagedBay 20000 false).StageLawful :=
  ⟨⟨by decide, by decide, by decide⟩, ⟨by decide, by decide, by decide⟩,
    ⟨by decide, by decide, by decide⟩⟩

end Sys2Proof.Tests
end

section
/-! SUPPORT. The moisture unit (Chapter 1): what each of its commands does to the station, what a completed
capture makes of the unit, and the table of R13. -/

namespace Sys2Proof

/-! ### A command on the station -/

@[simp] theorem Machine.State.put_station_self (s : Machine.State) : s.put s.station = s := rfl

theorem Station.onlyIf_of_true {st : Station} {c : Bool} (f : Station → Station) (h : c = true) :
    st.onlyIf c f = f st := by rw [h, Station.onlyIf_true]

theorem Station.onlyIf_of_false {st : Station} {c : Bool} (f : Station → Station) (h : c = false) :
    st.onlyIf c f = st := by rw [h, Station.onlyIf_false]

/-- The bay units run only where the field units do. -/
theorem Station.running_of_bay {st : Station} (h : st.bay = true) : st.running = true := by
  unfold Station.bay at h
  exact (Bool.and_eq_true_iff.mp h).1

theorem exec_measurementSlot (s : Machine.State) :
    Machine.exec .measurementSlot s
      = .next (s.put (s.station.onlyIf s.station.bay (·.onMoist Moisture.beginSlot))) := rfl

theorem exec_captureComplete (s : Machine.State) (count : Option (BitVec 16)) :
    Machine.exec (.captureComplete (.complete count)) s
      = .next (s.put (s.station.onlyIf s.station.bay fun st =>
          (st.onMoist (·.measure st.cfg count)).computeDemand)) := rfl

theorem exec_excursionDelayExpiry (s : Machine.State) :
    Machine.exec .excursionDelayExpiry s
      = .next (s.put (s.station.onlyIf s.station.bay (·.onMoist Moisture.delayExpired))) := rfl

theorem exec_temperatureCode (s : Machine.State) (code : BitVec 10) :
    Machine.exec (.temperatureCode (.sample code)) s
      = .next (s.put (s.station.onlyIf s.station.running fun st =>
          (st.onDet (·.sampled .temperature)).onlyIf st.bay (·.onMoist (·.takeTemp code)))) := rfl

theorem exec_adcScan (s : Machine.State) :
    Machine.exec .adcScan s
      = .next (s.put (s.station.onlyIf s.station.running (·.onDet Detection.beginScan))) := rfl

theorem exec_loopSample (s : Machine.State) (n : Fin 4) (code : BitVec 10) :
    Machine.exec (.loopSample n (.sample code)) s
      = .next (s.put (s.station.onlyIf s.station.running fun st =>
          (st.onDet (·.sampled (.loop n))).loopSampled n code)) := rfl

theorem exec_batteryCode (s : Machine.State) (code : BitVec 10) :
    Machine.exec (.batteryCode (.sample code)) s
      = .next (s.put (s.station.onlyIf s.station.running fun st =>
          st.onDet fun d => (d.sampled .battery).takeBattery st.cfg.batteryLow code)) := rfl

/-- A capture that ends in a running BAY: the moisture unit measures, and the dry-air unit alone follows. -/
theorem exec_captureComplete_of_bay {s : Machine.State} (count : Option (BitVec 16))
    (h : s.station.bay = true) :
    ∃ a : DryAir, Machine.exec (.captureComplete (.complete count)) s
      = .next (s.put { s.station with
          moist := s.station.moist.measure s.station.cfg count, air := a }) :=
  ⟨_, by rw [exec_captureComplete, Station.onlyIf_of_true _ h]; rfl⟩

/-- The excursion delay timer's expiry in a running BAY. -/
theorem exec_excursionDelayExpiry_of_bay {s : Machine.State} (h : s.station.bay = true) :
    Machine.exec .excursionDelayExpiry s
      = .next (s.put { s.station with moist := s.station.moist.delayExpired }) := by
  rw [exec_excursionDelayExpiry, Station.onlyIf_of_true _ h]
  rfl

theorem Moisture.delayExpired_above {m : Moisture} {n : Ticks} (h : m.delay = some (.above, n)) :
    m.delayExpired = { m with status := .high, delay := none } := by
  simp [Moisture.delayExpired, h]

theorem Moisture.delayExpired_below {m : Moisture} {n : Ticks} (h : m.delay = some (.below, n)) :
    m.delayExpired = { m with status := .low, delay := none } := by
  simp [Moisture.delayExpired, h]

theorem Moisture.delayExpired_stopped {m : Moisture} (h : m.delay = none) : m.delayExpired = m := by
  simp [Moisture.delayExpired, h]

/-! ### The classification (R13) -/

/-- R13 outside the band, on either side: `x` is the side's status. -/
theorem Moisture.outside_table (m : Moisture) (side : Side) (x : Excursion) (d : Nat) :
    (m.status = x → (m.outside side x d).status = x ∧ (m.outside side x d).delay = m.delay) ∧
    (m.status ≠ x → ∀ n, m.delay = some (side, n) →
      (m.outside side x d).status = m.status ∧ (m.outside side x d).delay = some (side, n)) ∧
    (m.status ≠ x → (∀ n, m.delay ≠ some (side, n)) →
      (d = 0 → (m.outside side x d).status = x ∧ (m.outside side x d).delay = none) ∧
      (d ≠ 0 → (m.outside side x d).status = .inBand ∧
        (m.outside side x d).delay = some (side, ticksOfSec d))) := by
  refine ⟨fun h => ?_, fun h n hn => ?_, fun h hn => ?_⟩
  · simp [Moisture.outside, h]
  · simp [Moisture.outside, h, hn]
  · rcases hd : m.delay with _ | ⟨other, n⟩
    · constructor <;> intro hz <;> simp [Moisture.outside, h, hd, hz]
    · have ho : other ≠ side := fun e => hn n (by rw [hd, e])
      constructor <;> intro hz <;> simp [Moisture.outside, h, hd, ho, hz]

/-- Outside the band the status and the delay timer alone may change, and no SENSOR-FAULT comes. -/
theorem Moisture.outside_frame (m : Moisture) (side : Side) {x : Excursion} (d : Nat)
    (hx : x ≠ .sensorFault) (hm : m.status ≠ .sensorFault) :
    ∃ y e, m.outside side x d = { m with status := y, delay := e } ∧ y ≠ .sensorFault := by
  unfold Moisture.outside
  split
  · exact ⟨m.status, m.delay, rfl, hm⟩
  · split
    next p n hd =>
      split
      · exact ⟨m.status, some (p, n), rfl, hm⟩
      · split
        · exact ⟨x, none, rfl, hx⟩
        · exact ⟨.inBand, _, rfl, by decide⟩
    next hd =>
      split
      · exact ⟨x, none, rfl, hx⟩
      · exact ⟨.inBand, _, rfl, by decide⟩

section
variable {m : Moisture} {c : ConfigRecord}

/-- In SENSOR-FAULT there is no classification (R11). -/
theorem Moisture.classify_sensorFault (h : m.status = .sensorFault) : m.classify c = m := by
  simp [Moisture.classify, h]

theorem Moisture.classify_unmeasured (h : m.status ≠ .sensorFault) (hf : m.filtered = none) :
    m.classify c = { m with status := .inBand, delay := none } := by
  simp [Moisture.classify, h, hf]

theorem Moisture.classify_within {f : Nat} (h : m.status ≠ .sensorFault) (hf : m.filtered = some f)
    (hi : f ≤ c.sp + c.band) (lo : c.sp ≤ f + c.band) :
    m.classify c = { m with status := .inBand, delay := none } := by
  simp [Moisture.classify, h, hf, Nat.not_lt.mpr hi, Nat.not_lt.mpr lo]

theorem Moisture.classify_above {f : Nat} (h : m.status ≠ .sensorFault) (hf : m.filtered = some f)
    (hi : c.sp + c.band < f) : m.classify c = m.outside .above .high c.excDelay := by
  simp [Moisture.classify, h, hf, hi]

theorem Moisture.classify_below {f : Nat} (h : m.status ≠ .sensorFault) (hf : m.filtered = some f)
    (lo : f + c.band < c.sp) : m.classify c = m.outside .below .low c.excDelay := by
  have hi : ¬ c.sp + c.band < f := by omega
  simp [Moisture.classify, h, hf, hi, lo]

end

/-- The classification changes the status and the delay timer alone, and neither brings nor ends
SENSOR-FAULT. -/
theorem Moisture.classify_frame (m : Moisture) (c : ConfigRecord) :
    ∃ y e, m.classify c = { m with status := y, delay := e } ∧
      (y = .sensorFault ↔ m.status = .sensorFault) := by
  by_cases h : m.status = .sensorFault
  · exact ⟨m.status, m.delay, Moisture.classify_sensorFault h, Iff.rfl⟩
  have noFault : ∀ {y : Excursion}, y ≠ .sensorFault →
      (y = .sensorFault ↔ m.status = .sensorFault) := fun hy => iff_of_false hy h
  obtain hf | ⟨f, hf⟩ := m.filtered.eq_none_or_eq_some
  · exact ⟨.inBand, none, Moisture.classify_unmeasured h hf, noFault (by decide)⟩
  by_cases hi : c.sp + c.band < f
  · obtain ⟨y, e, he, hy⟩ := m.outside_frame .above c.excDelay (x := .high) (by decide) h
    exact ⟨y, e, (Moisture.classify_above h hf hi).trans he, noFault hy⟩
  by_cases lo : f + c.band < c.sp
  · obtain ⟨y, e, he, hy⟩ := m.outside_frame .below c.excDelay (x := .low) (by decide) h
    exact ⟨y, e, (Moisture.classify_below h hf lo).trans he, noFault hy⟩
  · exact ⟨.inBand, none, Moisture.classify_within h hf (Nat.not_lt.mp hi) (Nat.not_lt.mp lo),
      noFault (by decide)⟩

section
variable (m : Moisture) (c : ConfigRecord)

@[simp] theorem Moisture.classify_filtered : (m.classify c).filtered = m.filtered := by
  obtain ⟨y, e, he, -⟩ := m.classify_frame c
  rw [he]

@[simp] theorem Moisture.classify_status_sensorFault :
    (m.classify c).status = .sensorFault ↔ m.status = .sensorFault := by
  obtain ⟨y, e, he, hy⟩ := m.classify_frame c
  rw [he]
  exact hy

end

/-! ### A completed capture (R6 to R12) -/

/-- The unit when a capture has ended: its count taken, nothing judged yet (R2). -/
def Moisture.captured (m : Moisture) (count : Option (BitVec 16)) : Moisture :=
  { m with
    capturing := false
    latest := match count with
      | some p => .count p
      | none => .overflow }

theorem Moisture.measure_of_faulted {m : Moisture} {c : ConfigRecord} {count : Option (BitVec 16)}
    (h : ∀ p, count = some p → countFaulted c m.temp p.toNat = true) :
    m.measure c count = (m.captured count).faulted.classify c := by
  cases count with
  | none => rfl
  | some p => simp [Moisture.measure, Moisture.captured, h p rfl]

theorem Moisture.measure_of_valid {m : Moisture} {c : ConfigRecord} {p : BitVec 16}
    (h : countFaulted c m.temp p.toNat = false) :
    m.measure c (some p)
      = ((m.captured (some p)).valid c.alphaDiv (rawOf c m.temp p.toNat)).classify c := by
  simp [Moisture.measure, Moisture.captured, h]

/-- Every count is faulted, an overflow among them, or valid (R6). -/
theorem count_faulted_or_valid (c : ConfigRecord) (temp : Int) (count : Option (BitVec 16)) :
    (∀ p, count = some p → countFaulted c temp p.toNat = true) ∨
      ∃ p, count = some p ∧ countFaulted c temp p.toNat = false := by
  cases count with
  | none => exact .inl fun p hp => absurd hp (by simp)
  | some p =>
    cases h : countFaulted c temp p.toNat with
    | true => exact .inl fun q hq => by rw [← Option.some.inj hq, h]
    | false => exact .inr ⟨p, rfl, h⟩

theorem countFaulted_iff (c : ConfigRecord) (temp : Int) (p : Nat) :
    countFaulted c temp p = true ↔
      p < 8000 ∨ (p : Int) < c.p0 + ((temp - 250) * c.k).tdiv 10 - 1000 ∨ c.p100 + 1000 < p := by
  unfold countFaulted
  rw [Bool.or_eq_true, Bool.or_eq_true, decide_eq_true_iff, decide_eq_true_iff, decide_eq_true_iff,
    or_assoc]
  rfl

/-- R8: a faulted measurement short of the fifth of its run counts, and changes nothing else. -/
theorem Moisture.faulted_of_ne_four {m : Moisture} (h : m.faultRun ≠ 4) :
    m.faulted = { m with faultRun := min 255 (m.faultRun + 1) } := by
  have : ¬ min 255 (m.faultRun + 1) = 5 := by omega
  simp [Moisture.faulted, this]

/-- R11: the fifth of a run. -/
theorem Moisture.faulted_of_four {m : Moisture} (h : m.faultRun = 4) :
    m.faulted = { m with faultRun := 5, status := .sensorFault, delay := none } := by
  simp [Moisture.faulted, h]

/-- The status that a completed capture finds: IN-BAND where SENSOR-FAULT ends with it (R12). -/
def Moisture.statusBefore (m : Moisture) : Excursion :=
  if m.status = .sensorFault then .inBand else m.status

/-- Every completed capture is classified, outside SENSOR-FAULT from the status before it and with the
delay timer as it stood. -/
theorem Moisture.measure_classifies (m : Moisture) (c : ConfigRecord) (count : Option (BitVec 16)) :
    ∃ m' : Moisture, m.measure c count = m'.classify c ∧
      (m'.status ≠ .sensorFault → m'.status = m.statusBefore ∧ m'.delay = m.delay) := by
  rcases count_faulted_or_valid c m.temp count with hf | ⟨p, rfl, hv⟩
  · refine ⟨_, Moisture.measure_of_faulted hf, fun h => ?_⟩
    by_cases h4 : (m.captured count).faultRun = 4
    · rw [Moisture.faulted_of_four h4] at h
      exact absurd rfl h
    · rw [Moisture.faulted_of_ne_four h4] at h ⊢
      exact ⟨(if_neg h).symm, rfl⟩
  · exact ⟨_, Moisture.measure_of_valid hv, fun _ => ⟨rfl, rfl⟩⟩

/-- A measurement that leaves the filtered RH in band leaves the status IN-BAND and the timer stopped. -/
theorem Moisture.measure_within {m : Moisture} {c : ConfigRecord} {count : Option (BitVec 16)} {f : Nat}
    (hs : (m.measure c count).status ≠ .sensorFault) (hf : (m.measure c count).filtered = some f)
    (hi : f ≤ c.sp + c.band) (lo : c.sp ≤ f + c.band) :
    (m.measure c count).status = .inBand ∧ (m.measure c count).delay = none := by
  obtain ⟨m', he, -⟩ := m.measure_classifies c count
  rw [he] at hs hf ⊢
  rw [Moisture.classify_filtered] at hf
  rw [Ne, Moisture.classify_status_sensorFault] at hs
  rw [Moisture.classify_within hs hf hi lo]
  exact ⟨rfl, rfl⟩

/-- Settles O6: the capture is classified by `measure_classifies`, and each row of R13 is that of
`outside_table` or of the filtered RH in band or absent. -/
theorem measurementClassified : Obligations.MeasurementClassified := by
  intro s count hb
  obtain ⟨a, ha⟩ := exec_captureComplete_of_bay count hb
  obtain ⟨m', he, hm'⟩ := s.station.moist.measure_classifies s.station.cfg count
  refine ⟨_, a, ha, fun hs hf => ?_, fun hs f hf => ⟨?_, ?_, ?_⟩⟩
  · rw [he] at hs hf ⊢
    rw [Moisture.classify_filtered] at hf
    rw [Moisture.classify_unmeasured (mt (Moisture.classify_status_sensorFault _ _).mpr hs) hf]
    exact ⟨rfl, rfl⟩
  · rintro ⟨hi, lo⟩
    exact Moisture.measure_within hs hf hi lo
  all_goals
    rw [he] at hs hf ⊢
    rw [Ne, Moisture.classify_status_sensorFault] at hs
    rw [Moisture.classify_filtered] at hf
    obtain ⟨hstatus, hdelay⟩ := hm' hs
    intro outOfBand
  · rw [Moisture.classify_above hs hf outOfBand]
    have table := m'.outside_table .above .high s.station.cfg.excDelay
    rw [hstatus, hdelay] at table
    exact table
  · rw [Moisture.classify_below hs hf outOfBand]
    have table := m'.outside_table .below .low s.station.cfg.excDelay
    rw [hstatus, hdelay] at table
    exact table

/-! ### The scaling and the filter (R7, R10) -/

/-- R7: the quotient rounded to the nearest whole number, one half upward. -/
theorem roundHalfUp_bounds (n : Int) {d : Int} (hd : 0 < d) :
    (2 * roundHalfUp n d - 1) * d ≤ 2 * n ∧ 2 * n < (2 * roundHalfUp n d + 1) * d := by
  have hd' : 0 < 2 * d := by omega
  have low : roundHalfUp n d * (2 * d) ≤ 2 * n + d := Int.ediv_mul_le _ (by omega)
  have high : 2 * n + d < (roundHalfUp n d + 1) * (2 * d) := Int.lt_ediv_add_one_mul_self _ hd'
  constructor <;> nlinarith only [low, high]

theorem rawOf_eq (c : ConfigRecord) (temp : Int) (p : Nat) :
    (rawOf c temp p : Int)
      = max 0 (min 1000 (roundHalfUp (((p : Int) - zeroAt c temp) * 1000) ((c.p100 : Int) - c.p0))) :=
  Int.toNat_of_nonneg (le_max_left _ _)

/-- R10: the filtered RH moves by the difference divided by ALPHA_DIV, truncated toward zero; the step
never goes below 0. -/
theorem filterStep_eq (alpha f raw : Nat) :
    (filterStep alpha f raw : Int) = f + ((raw : Int) - f).tdiv alpha := by
  refine Int.toNat_of_nonneg ?_
  have step : -((f : Int) - raw).tdiv alpha = ((raw : Int) - f).tdiv alpha := by
    rw [← Int.neg_tdiv, Int.neg_sub]
  rcases le_total (f : Int) raw with h | h
  · have : 0 ≤ ((raw : Int) - f).tdiv alpha := Int.tdiv_nonneg (by omega) (Int.natCast_nonneg _)
    omega
  · have : ((f : Int) - raw).tdiv alpha ≤ (f : Int) - raw := Int.tdiv_le_self _ (by omega)
    omega

theorem Moisture.valid_filtered_afresh {m : Moisture} (alpha raw : Nat)
    (h : m.filtered = none ∨ 5 ≤ m.faultRun) : (m.valid alpha raw).filtered = some raw := by
  cases hf : m.filtered with
  | none => simp [Moisture.valid, hf]
  | some f =>
    have h5 : 5 ≤ m.faultRun := h.resolve_left (by simp [hf])
    simp [Moisture.valid, hf, h5]

theorem Moisture.valid_filtered_step {m : Moisture} (alpha raw : Nat) {f : Nat}
    (hf : m.filtered = some f) (h : m.faultRun < 5) :
    (m.valid alpha raw).filtered = some (filterStep alpha f raw) := by
  simp [Moisture.valid, hf, Nat.not_le.mpr h]

/-- A valid measurement always leaves a filtered RH. -/
theorem Moisture.valid_filtered (m : Moisture) (alpha raw : Nat) :
    ∃ f, (m.valid alpha raw).filtered = some f := ⟨_, rfl⟩

theorem Moisture.valid_status (m : Moisture) (alpha raw : Nat) :
    (m.valid alpha raw).status ≠ .sensorFault := by
  by_cases h : m.status = .sensorFault <;> simp [Moisture.valid, h]

/-- The part of O5 on a faulted measurement: what `faulted` makes of the run, the fifth apart. -/
theorem Moisture.measure_faulted {m : Moisture} {c : ConfigRecord} {count : Option (BitVec 16)}
    (h : ∀ p, count = some p → countFaulted c m.temp p.toNat = true) :
    let m' := m.measure c count
    m'.raw = m.raw ∧ m'.filtered = m.filtered ∧ m'.temp = m.temp ∧ m'.slotTimer = m.slotTimer ∧
    m'.capturing = false ∧ m'.faultRun = min 255 (m.faultRun + 1) ∧
    (m.faultRun = 4 → m'.status = .sensorFault ∧ m'.delay = none) ∧
    (m.faultRun ≠ 4 → m.status = .sensorFault → m'.status = .sensorFault ∧ m'.delay = m.delay) ∧
    (m.faultRun ≠ 4 → m.status ≠ .sensorFault → m'.status ≠ .sensorFault) := by
  intro m'
  have he : m' = (m.captured count).faulted.classify c := Moisture.measure_of_faulted h
  by_cases h4 : m.faultRun = 4
  · rw [Moisture.faulted_of_four (m := m.captured count) h4, Moisture.classify_sensorFault rfl] at he
    rw [he]
    exact ⟨rfl, rfl, rfl, rfl, rfl, by rw [h4]; rfl, fun _ => ⟨rfl, rfl⟩, fun hn => absurd h4 hn,
      fun hn => absurd h4 hn⟩
  · rw [Moisture.faulted_of_ne_four (m := m.captured count) h4] at he
    obtain ⟨y, e, hc, hy⟩ := Moisture.classify_frame
      { m.captured count with faultRun := min 255 ((m.captured count).faultRun + 1) } c
    have hm := he.trans hc
    have stays (hs : m.status = .sensorFault) : m'.status = .sensorFault ∧ m'.delay = m.delay := by
      rw [he, Moisture.classify_sensorFault (by exact hs)]
      exact ⟨hs, rfl⟩
    have stays_out (hs : m.status ≠ .sensorFault) : m'.status ≠ .sensorFault := by
      rw [hm]
      exact fun hf => hs (hy.mp hf)
    refine ⟨?_, ?_, ?_, ?_, ?_, ?_, fun hn => absurd hn h4, fun _ => stays, fun _ => stays_out⟩
    all_goals simp only [hm, Moisture.captured]

/-- Settles O5: `measure_faulted` for the faulted measurement; `roundHalfUp_bounds` and `filterStep_eq`
for the valid one, which the classification leaves as they are. -/
theorem measurementJudgedAndFiltered : Obligations.MeasurementJudgedAndFiltered := by
  refine ⟨fun s count hb hf => ?_, ?_⟩
  · obtain ⟨a, ha⟩ := exec_captureComplete_of_bay count hb
    exact ⟨_, a, ha, Moisture.measure_faulted fun p hp => (countFaulted_iff _ _ _).mpr (hf p hp)⟩
  · intro s p hb c zero hp lo8 lo hi
    obtain ⟨a, ha⟩ := exec_captureComplete_of_bay (some p) hb
    have valid : countFaulted c s.station.moist.temp p.toNat = false := by
      rw [← Bool.not_eq_true, countFaulted_iff]
      change ¬(_ ∨ (p.toNat : Int) < zero - 1000 ∨ _)
      omega
    have hd : (0 : Int) < (c.p100 : Int) - c.p0 := by omega
    rw [Moisture.measure_of_valid valid] at ha
    let start := s.station.moist.captured (some p)
    let raw := rawOf c s.station.moist.temp p.toNat
    obtain ⟨f, hf⟩ := start.valid_filtered c.alphaDiv raw
    obtain ⟨y, e, hc, hy⟩ := (start.valid c.alphaDiv raw).classify_frame c
    obtain ⟨low, high⟩ := roundHalfUp_bounds ((p.toNat - zero) * 1000) hd
    rw [hc] at ha
    refine ⟨_, a, _, raw, f, ha, low, high, rawOf_eq _ _ _, rfl, hf, rfl, rfl, rfl, rfl, rfl,
      mt hy.mp (start.valid_status _ _), fun h => ?_, fun g hg h5 => ?_⟩
    · exact Option.some.inj (hf.symm.trans (Moisture.valid_filtered_afresh _ _ h))
    · rw [Option.some.inj (hf.symm.trans (Moisture.valid_filtered_step _ _ hg h5)), filterStep_eq]

/-! ### Samples (R3, R41) -/

theorem Detection.sampled_same {d : Detection} {c : AdcChannel} (h : d.channel = some c) :
    d.sampled c = { d with channel := c.next d.longScan } := if_pos h

theorem Detection.sampled_other {d : Detection} {c : AdcChannel} (h : d.channel ≠ some c) :
    d.sampled c = d := if_neg h

/-- R3: a valid code gives a temperature within −499 to 1148, rounded down. -/
theorem tempOfCode_valid {code : BitVec 10} (h1 : 1 ≤ code.toNat) (h2 : code.toNat ≤ 1022) :
    ∃ t : Int, tempOfCode code = some t ∧
      (t + 500) * 1023 ≤ code.toNat * 1650 ∧ (code.toNat * 1650 : Int) < (t + 501) * 1023 ∧
      -499 ≤ t ∧ t ≤ 1148 ∧ (code = 443 → t = 214) ∧ (code = 444 → t = 216) := by
  refine ⟨(code.toNat * 1650 / 1023 : Nat) - 500, if_neg (by omega), by omega, by omega, by omega,
    by omega, ?_, ?_⟩
  all_goals
    rintro rfl
    decide

/-- R3: a temperature fault. -/
theorem tempOfCode_fault {code : BitVec 10} (h : code.toNat = 0 ∨ code.toNat = 1023) :
    tempOfCode code = none := if_pos h

theorem Moisture.takeTemp_valid {m : Moisture} {code : BitVec 10} {t : Int}
    (h : tempOfCode code = some t) : m.takeTemp code = { m with temp := t } := by
  simp [Moisture.takeTemp, h]

theorem Moisture.takeTemp_fault {m : Moisture} {code : BitVec 10} (h : tempOfCode code = none) :
    m.takeTemp code = m := by
  simp [Moisture.takeTemp, h]

/-- The part of O4 on measurement slots and on where no moisture unit runs. -/
theorem measurementSlots_and_counts (s : Machine.State) :
    (s.station.bay = true →
      Machine.exec .measurementSlot s = .next (s.put { s.station with
        moist := { s.station.moist with capturing := true, slotTimer := some (ticksOfSec 2) } })) ∧
    (s.station.bay = false → Machine.exec .measurementSlot s = .next s ∧
      ∀ count, Machine.exec (.captureComplete (.complete count)) s = .next s) ∧
    ∀ count, Machine.exec (.captureComplete (.level count)) s = .next (s.put { s.station with
      pins := { s.station.pins with sensor := count } }) := by
  refine ⟨fun h => ?_, fun h => ⟨?_, fun count => ?_⟩, fun _ => rfl⟩
  · rw [exec_measurementSlot, Station.onlyIf_of_true _ h]
    rfl
  · rw [exec_measurementSlot, Station.onlyIf_of_false _ h, Machine.State.put_station_self]
  · rw [exec_captureComplete, Station.onlyIf_of_false _ h, Machine.State.put_station_self]

/-- The part of O4 on a temperature code (R3). -/
theorem temperatureCode_taken (s : Machine.State) (code : BitVec 10) :
    (s.station.bay = true → 1 ≤ code.toNat → code.toNat ≤ 1022 → ∃ t : Int,
      Machine.exec (.temperatureCode (.sample code)) s = .next (s.put { s.station with
        det := s.station.det.sampled .temperature
        moist := { s.station.moist with temp := t } }) ∧
      (t + 500) * 1023 ≤ code.toNat * 1650 ∧ (code.toNat * 1650 : Int) < (t + 501) * 1023 ∧
      -499 ≤ t ∧ t ≤ 1148 ∧ (code = 443 → t = 214) ∧ (code = 444 → t = 216)) ∧
    (s.station.running = true → code.toNat = 0 ∨ code.toNat = 1023 ∨ s.station.bay = false →
      Machine.exec (.temperatureCode (.sample code)) s = .next (s.put { s.station with
        det := s.station.det.sampled .temperature })) ∧
    (s.station.running = false → Machine.exec (.temperatureCode (.sample code)) s = .next s) := by
  refine ⟨fun hb h1 h2 => ?_, fun hr h => ?_, fun hr => ?_⟩
  · obtain ⟨t, ht, bounds⟩ := tempOfCode_valid h1 h2
    refine ⟨t, ?_, bounds⟩
    rw [exec_temperatureCode, Station.onlyIf_of_true _ (Station.running_of_bay hb),
      Station.onlyIf_of_true _ hb]
    simp only [Station.onMoist, Moisture.takeTemp_valid ht]
    rfl
  · rw [exec_temperatureCode, Station.onlyIf_of_true _ hr]
    cases hb : s.station.bay with
    | false => rfl
    | true =>
      have ht : tempOfCode code = none := tempOfCode_fault (by simpa [hb] using h)
      rw [Station.onlyIf_true]
      simp only [Station.onMoist, Moisture.takeTemp_fault ht]
      rfl
  · rw [exec_temperatureCode, Station.onlyIf_of_false _ hr, Machine.State.put_station_self]

/-- Where the detection unit does not run no scan begins and no sample is taken in (R41). -/
theorem samples_without_unit {s : Machine.State} (h : s.station.running = false) :
    Machine.exec .adcScan s = .next s ∧
      ∀ n code, Machine.exec (.loopSample n (.sample code)) s = .next s ∧
        Machine.exec (.batteryCode (.sample code)) s = .next s := by
  refine ⟨?_, fun n code => ⟨?_, ?_⟩⟩
  · rw [exec_adcScan, Station.onlyIf_of_false _ h, Machine.State.put_station_self]
  · rw [exec_loopSample, Station.onlyIf_of_false _ h, Machine.State.put_station_self]
  · rw [exec_batteryCode, Station.onlyIf_of_false _ h, Machine.State.put_station_self]

/-- R14: the expiry in a running BAY, by the pending side. -/
theorem excursionDelayExpiry_by_side {s : Machine.State} (hb : s.station.bay = true) :
    (∀ n, s.station.moist.delay = some (.above, n) →
      Machine.exec .excursionDelayExpiry s = .next (s.put { s.station with
        moist := { s.station.moist with status := .high, delay := none } })) ∧
    (∀ n, s.station.moist.delay = some (.below, n) →
      Machine.exec .excursionDelayExpiry s = .next (s.put { s.station with
        moist := { s.station.moist with status := .low, delay := none } })) ∧
    (s.station.moist.delay = none → Machine.exec .excursionDelayExpiry s = .next s) := by
  refine ⟨fun n h => ?_, fun n h => ?_, fun h => ?_⟩
  · rw [exec_excursionDelayExpiry_of_bay hb, Moisture.delayExpired_above h]
  · rw [exec_excursionDelayExpiry_of_bay hb, Moisture.delayExpired_below h]
  · rw [exec_excursionDelayExpiry_of_bay hb, Moisture.delayExpired_stopped h]
    rfl

/-- A capture's end in a running BAY that leaves the filtered RH in band: the status is IN-BAND and no
delay runs (R13, R14); the record and the start state stay. -/
theorem capture_within {s t : Machine.State} {count : Option (BitVec 16)} {f : Nat}
    (hb : s.station.bay = true) (h : Machine.exec (.captureComplete (.complete count)) s = .next t)
    (hf : t.station.moist.filtered = some f) (hs : t.station.moist.status ≠ .sensorFault)
    (hi : f ≤ s.station.cfg.sp + s.station.cfg.band) (lo : s.station.cfg.sp ≤ f + s.station.cfg.band) :
    t.station.moist.status = .inBand ∧ t.station.moist.delay = none ∧ t.station.bay = true := by
  obtain ⟨a, ha⟩ := exec_captureComplete_of_bay count hb
  obtain rfl := Host.Outcome.next.inj (ha.symm.trans h)
  obtain ⟨hin, hdelay⟩ := Moisture.measure_within hs hf hi lo
  exact ⟨hin, hdelay, hb⟩

/-- Settles O4: each command's effect by its part above; a measurement in band and the delay's expiry,
in either order, by `capture_within`. -/
theorem samplesAndExcursionDelay : Obligations.SamplesAndExcursionDelay := by
  refine ⟨measurementSlots_and_counts, ⟨temperatureCode_taken, fun _ _ => rfl⟩,
    fun s => ⟨fun h => ?_, samples_without_unit, fun d c => ⟨Detection.sampled_other, fun h => ?_⟩,
      fun code => ⟨rfl, rfl, rfl, rfl, rfl, rfl⟩⟩,
    fun s => excursionDelayExpiry_by_side, ?_, ?_⟩
  · rw [exec_adcScan, Station.onlyIf_of_true _ h]
    rfl
  · exact Detection.sampled_same h
  · intro s t u count f hb _ _ ht hu hf hs hi lo
    rw [exec_excursionDelayExpiry_of_bay hb] at ht
    obtain rfl := Host.Outcome.next.inj ht
    exact (capture_within (by exact hb) hu hf hs (by exact hi) (by exact lo)).1
  · intro s t count f hb ht hf hs hi lo
    obtain ⟨-, hdelay, hb'⟩ := capture_within hb ht hf hs hi lo
    exact (excursionDelayExpiry_by_side hb').2.2 hdelay

end Sys2Proof
end

section
/-! SUPPORT. Starts (Chapter 12): the state every start begins from, what the reset line and the loss of the
supply hold off, and RESTART. -/

namespace Sys2Proof

/-! ### A start -/

/-- The state of the motion channel at a start, by role and end switches (R39). -/
theorem Station.motionFromSwitches_eq (st : Station) :
    st.motionFromSwitches = match st.cfg.role, st.pins.closedEnd, st.pins.openEnd, st.pins.innerEnd with
      | .bay, true, _, _ => .resting .b
      | .bay, false, true, _ => .resting .a
      | .bay, false, false, _ => .stalled
      | .hatch, _, _, true => .resting .b
      | .hatch, _, _, false => .stalled := by
  unfold Station.motionFromSwitches
  cases st.cfg.role with
  | bay => cases st.pins.closedEnd <;> cases st.pins.openEnd <;> rfl
  | hatch => cases st.pins.innerEnd <;> rfl

/-- A start's blocks but the motion channel, which reads the switches by the role last installed (R39). -/
theorem Station.beginStart_eq (st : Station) (k : StartKind) :
    st.beginStart k = { st with
      loader := { st.loader with
        state := .loading, faultCode := 0, startKind := k, listenTimer := none
        restartWait := none, joinedFor := 0 }
      moist := .start
      air := .start
      motion :=
        { state := st.motionFromSwitches, last := none, coilA := false, coilB := false
          dead := some deadTime, travel := none, cause := none }
      det := .start
      supp := .start (st.supp.lockAfter k)
      door := { st.door with unlock := none, output := false }
      table := { st.table with
        slots := st.table.slots.map Slot.start, keyOn := false, keyFilter := none, minute := none
        scanTimer := none }
      pulls := { st.pulls with lamp := none }
      audit := .start
      xfer := { st.xfer with
        entries := st.xfer.entries.map XferEntry.start, claims := [], lamps := [] }
      hatch := { st.hatch with
        session := .idle, position := 0, refA := st.pins.phaseA, refB := st.pins.phaseB
        sendTimer := none, doneTimer := none }
      peers := .start
      line := .start st.line.made } := rfl

/-! ### The reset line, the supply and the restart -/

theorem exec_resetLineRelease (s : Machine.State) :
    Machine.exec .resetLineRelease s = .next (s.put s.station.releaseReset) := rfl

theorem exec_restartTimerExpiry (s : Machine.State) :
    Machine.exec .restartTimerExpiry s = .next (s.put
      (s.station.onlyIf (s.station.joined && s.station.loader.restartWait.isSome)
        Station.restartNow)) := rfl

theorem exec_restartStart (s : Machine.State) :
    Machine.exec .restartStart s = .next (s.put
      (s.station.onlyIf (s.station.joined && s.station.doneQueued) Station.restartNow)) := rfl

theorem exec_restart (s : Machine.State) (src : Addr) (seq : Byte) :
    Machine.exec (.restart src seq) s
      = .next (s.put (Station.fromConsole src (Station.takeRestart src seq) s.station)) := rfl

/-- No lamp is lit while every output is held off (R189). -/
theorem Station.outputsOff_lamp (st : Station) (n : Nat) : st.outputsOff.lamp n = .off := rfl

theorem Station.releaseReset_powered {st : Station} (h : st.loader.powered = true) :
    st.releaseReset
      = (st.onLoader fun l => { l with resetAsserted := false }).beginStart .resetLine := by
  unfold Station.releaseReset
  exact Station.onlyIf_of_true _ h

theorem Station.releaseReset_unpowered {st : Station} (h : st.loader.powered = false) :
    st.releaseReset = st.onLoader fun l => { l with resetAsserted := false } := by
  unfold Station.releaseReset
  exact Station.onlyIf_of_false _ h

theorem Station.decay_slotRecord {st : Station} {n : Nat} {sl : Slot} (x : BitVec 16)
    (h : st.table.slots[n]? = some sl) :
    (st.decay (.slotRecord n x)).table.slots
      = st.table.slots.set n { sl with difference := sl.difference ^^^ x } := by
  change st.table.slots.modify n _ = _
  rw [List.modify_eq_set_getElem?, h]
  rfl

/-- A waiting restart is what makes the DONE of one stand in the queue. -/
theorem Station.doneQueued_of_none {st : Station} (h : st.loader.restartWait = none) :
    st.doneQueued = false := by
  unfold Station.doneQueued
  rw [h]

theorem Station.doneQueued_of_mem {st : Station} {w : RestartWait}
    (h : st.loader.restartWait = some w) (hq : ∃ q ∈ st.line.queue, q.made = w.made) :
    st.doneQueued = true := by
  unfold Station.doneQueued
  rw [h]
  simpa using hq

/-- The reply's timer, or its leaving the queue, makes the start of a waiting restart, and nothing without
one (R189). -/
theorem restart_waits (s : Machine.State) :
    (s.station.joined = true → s.station.loader.restartWait.isSome →
      Machine.exec .restartTimerExpiry s = .next (s.put (s.station.beginStart .resetLine))) ∧
    (s.station.joined = false ∨ s.station.loader.restartWait = none →
      Machine.exec .restartTimerExpiry s = .next s ∧ Machine.exec .restartStart s = .next s) ∧
    (∀ w, s.station.joined = true → s.station.loader.restartWait = some w →
      (∃ q ∈ s.station.line.queue, q.made = w.made) →
      Machine.exec .restartStart s = .next (s.put (s.station.beginStart .resetLine))) := by
  refine ⟨fun hj hw => ?_, fun h => ?_, fun w hj hw hq => ?_⟩
  · rw [exec_restartTimerExpiry, Station.onlyIf_of_true _ (by rw [hj, hw]; rfl)]
    rfl
  · have timer : (s.station.joined && s.station.loader.restartWait.isSome) = false := by
      rcases h with h | h <;> simp [h]
    have start : (s.station.joined && s.station.doneQueued) = false := by
      rcases h with h | h
      · simp [h]
      · simp [Station.doneQueued_of_none h]
    rw [exec_restartTimerExpiry, exec_restartStart, Station.onlyIf_of_false _ timer,
      Station.onlyIf_of_false _ start, Machine.State.put_station_self]
    exact ⟨rfl, rfl⟩
  · rw [exec_restartStart,
      Station.onlyIf_of_true _ (by rw [hj, Station.doneQueued_of_mem hw hq]; rfl)]
    rfl

/-! ### RESTART (R189) -/

/-- A console's request reaches its block (R175, R176). -/
theorem Station.fromConsole_heard {st : Station} {src : Addr} (f : Station → Station)
    (h : st.hearsConsole src) : Station.fromConsole src f st = f st := by
  obtain ⟨hr, hown, h24, h31⟩ := h
  have console : isConsole src = true := by simp [isConsole, h24, h31]
  unfold Station.fromConsole
  rw [Station.onlyIf_of_true _ hr, if_neg hown, Station.onlyIf_of_true _ console]

/-- Outside JOINED a reply is discarded as it is made (R179). -/
theorem Station.reply_not_joined {st : Station} (h : st.joined = false) (k : Blk) (c : Addr)
    (kind seq : Byte) (o : ReplyOutcome) : st.reply k c kind seq o = st := by
  unfold Station.reply Station.hand
  exact Station.onlyIf_of_false _ h

theorem Station.not_clash_of_joined {st : Station} (h : st.joined = true) :
    st.loader.state ≠ .clash := by
  have : st.loader.state = .joined := of_decide_eq_true (Bool.and_eq_true_iff.mp h).2
  rw [this]
  decide

section
variable {st : Station} (src : Addr) (seq : Byte)

theorem Station.takeRestart_clash (h : st.loader.state = .clash) :
    st.takeRestart src seq = st := if_pos h

theorem Station.takeRestart_not_joined (h : st.joined = false) : st.takeRestart src seq = st := by
  by_cases hc : st.loader.state = .clash
  · exact Station.takeRestart_clash src seq hc
  · simp [Station.takeRestart, hc, h, Station.reply_not_joined h]

theorem Station.takeRestart_busy (h : st.joined = true) (hf : st.confirmed = true) :
    st.takeRestart src seq = st.reply .loader src 22 seq .busy := by
  simp [Station.takeRestart, Station.not_clash_of_joined h, h, hf, kindRestart]

/-- An accepted RESTART waits where none waits yet, and is answered DONE. -/
theorem Station.takeRestart_accepted (h : st.joined = true) (hf : st.confirmed = false) :
    st.takeRestart src seq
      = (st.onLoader fun l => { l with restartWait := some (l.restartWait.getD
          { made := st.line.made, timer := some (ticksOfSec 2) }) }).reply .loader src 22 seq .done := by
  simp [Station.takeRestart, Station.not_clash_of_joined h, h, hf, kindRestart]

end

/-- The table of R189 for a RESTART that the station hears. -/
theorem restart_table {s : Machine.State} (src : Addr) (seq : Byte)
    (heard : s.station.hearsConsole src) :
    let st := s.station
    let run := Machine.exec (.restart src seq) s
    let waiting : RestartWait := { made := st.line.made, timer := some (ticksOfSec 2) }
    (st.loader.state = .clash → run = .next s) ∧
    (st.joined = false → run = .next s) ∧
    (st.joined = true →
      (st.confirmed = true → run = .next (s.put (st.reply .loader src 22 seq .busy))) ∧
      (st.confirmed = false →
        (st.loader.restartWait = none → run = .next (s.put (({ st with
          loader := { st.loader with restartWait := some waiting } } : Station).reply .loader src 22
            seq .done))) ∧
        (st.loader.restartWait.isSome →
          run = .next (s.put (st.reply .loader src 22 seq .done))))) := by
  intro st run waiting
  have taken : run = .next (s.put (st.takeRestart src seq)) := by
    rw [← Station.fromConsole_heard (Station.takeRestart src seq) heard]
    exact exec_restart s src seq
  rw [taken]
  refine ⟨fun h => ?_, fun h => ?_, fun hj => ⟨fun hf => ?_, fun hf => ⟨fun hw => ?_, fun hw => ?_⟩⟩⟩
  · rw [Station.takeRestart_clash src seq h]
    rfl
  · rw [Station.takeRestart_not_joined src seq h]
    rfl
  · rw [Station.takeRestart_busy src seq hj hf]
  · rw [Station.takeRestart_accepted src seq hj hf]
    simp only [Station.onLoader, hw, Option.getD_none]
    rfl
  · obtain ⟨w, hw⟩ := Option.isSome_iff_exists.mp hw
    have kept : ({ st.loader with restartWait := some w } : Loader) = st.loader := by rw [← hw]
    rw [Station.takeRestart_accepted src seq hj hf]
    simp only [Station.onLoader, hw, Option.getD_some, kept]

/-- Settles O54: every start is `beginStart_eq`; the held-off outputs, RESTART's wait and its table by their
lemmas above. -/
theorem startsBeginAfresh : Obligations.StartsBeginAfresh := by
  refine ⟨⟨fun st k => ?_, fun s => ?_⟩, fun s src seq heard => restart_table src seq heard⟩
  · rw [Station.beginStart_eq, Station.motionFromSwitches_eq]
    rfl
  · intro st released off
    refine ⟨rfl, rfl, st.outputsOff_lamp, fun h => ?_, fun h => ?_, fun _ => rfl, fun x =>
      ⟨rfl, rfl, rfl, rfl, rfl, rfl, fun n sl => Station.decay_slotRecord x⟩, restart_waits s⟩
    · rw [exec_resetLineRelease, Station.releaseReset_powered h]
      rfl
    · rw [exec_resetLineRelease, Station.releaseReset_unpowered h]
      rfl

end Sys2Proof
end

section
/-! SUPPORT. What the station says of itself and shows: STATUS and FIRE-REPORT (R182), the status lines (R188)
and the slot lamps (R96). -/

namespace Sys2Proof

/-! ### The items of a STATUS (R182) -/

/-- The code of a fire state as a number (R182). -/
theorem FireState.code_toNat (f : FireState) :
    f.code.toNat = match f with
      | .normal => 0 | .prealarm => 1 | .evacuate => 2 | .countdown => 3 | .held => 4
      | .release => 5 | .soak => 6 | .vent => 7 | .blocked => 8 := by
  cases f <;> rfl

/-- Some used loop satisfies `p` (R42, R52). -/
theorem Station.anyUsedLoop_iff (st : Station) (p : Fin 4 → Loop → Bool) :
    st.anyUsedLoop p = true ↔
      ∃ n : Fin 4, (st.cfg.loop n).kind ≠ .unused ∧ p n (st.det.loop n) = true := by
  have all : ∀ n : Fin 4, n ∈ ([0, 1, 2, 3] : List (Fin 4)) := by decide
  simp [Station.anyUsedLoop, ConfigRecord.used, List.any_eq_true, all, -List.any_cons]

theorem Station.loopOpenItem_iff (st : Station) :
    st.loopOpenItem = true ↔
      ∃ n : Fin 4, (st.cfg.loop n).kind ≠ .unused ∧ (st.det.loop n).trouble = .opened := by
  simp only [Station.loopOpenItem, Station.anyUsedLoop_iff, decide_eq_true_iff]

theorem Station.loopShortItem_iff (st : Station) :
    st.loopShortItem = true ↔
      ∃ n : Fin 4, (st.cfg.loop n).kind ≠ .unused ∧ (st.det.loop n).trouble = .shorted := by
  simp only [Station.loopShortItem, Station.anyUsedLoop_iff, decide_eq_true_iff]

theorem FireState.isSealed_iff (f : FireState) : f.isSealed = true ↔ f = .soak ∨ f = .vent := by
  cases f <;> decide

/-- R104: the free slots counted over the table's own list. -/
theorem Station.freeSlots_eq {st : Station} (h : st.table.slots.length = 256) :
    st.freeSlots = (st.table.slots.zipIdx.filter fun p =>
      p.1.sound && decide (p.1.record = .vacant) && !st.isHeld p.2).length := by
  have range : List.range 256 = st.table.slots.zipIdx.map Prod.snd := by
    rw [List.zipIdx_map_snd, h, List.range_eq_range']
  have same : ∀ p ∈ st.table.slots.zipIdx, st.isFreeSlot p.2
      = (p.1.sound && decide (p.1.record = .vacant) && !st.isHeld p.2) := by
    intro p hp
    have slot : st.table.slot p.2 = p.1 := Station.slot_eq (List.mem_zipIdx_iff_getElem?.mp hp)
    simp [Station.isFreeSlot, slot]
  unfold Station.freeSlots
  rw [range, List.filter_map, List.length_map]
  exact congrArg List.length (List.filter_congr same)

section
variable {st : Station}

/-- The items of a STATUS that a BAY alone has (R17, R21, R30, R74, R104). -/
theorem Station.statusBody_bay (h : st.cfg.role = .bay) :
    st.statusBody.sensorFault = decide (st.moist.status = .sensorFault) ∧
    st.statusBody.neighbourSeal = st.air.sealTimer.isSome ∧
    st.statusBody.filtered = st.moist.handedOn.map (BitVec.ofNat 16) ∧
    st.statusBody.excursion = st.moist.status ∧
    st.statusBody.occupancy = BitVec.ofNat 4 st.door.occupancy.length ∧
    st.statusBody.demand = BitVec.ofNat 8 (if st.air.forcedSafe then 0 else st.air.demand) ∧
    st.statusBody.places = BitVec.ofNat 16 st.freeSlots := by
  simp [Station.statusBody, Station.sensorFaultItem, Station.neighbourSealFlag,
    Station.occupancyCount, Station.reportedDemand, h]

/-- The same items at a HATCH, which has none of them but its custody count (R1, R19, R163). -/
theorem Station.statusBody_hatch (h : st.cfg.role = .hatch) :
    st.statusBody.sensorFault = false ∧ st.statusBody.neighbourSeal = false ∧
    st.statusBody.filtered = none ∧ st.statusBody.excursion = .inBand ∧
    st.statusBody.occupancy = 0 ∧ st.statusBody.demand = 0 ∧
    st.statusBody.places = BitVec.ofNat 16 st.hatch.custody.length := by
  simp [Station.statusBody, Station.sensorFaultItem, Station.neighbourSealFlag,
    Station.occupancyCount, Station.reportedDemand, h]

end

/-! ### The FIRE-REPORT (R55) -/

/-- A FIRE message handed where none to replace is queued and the queue has room, whatever else waits. -/
theorem Station.handFire_joins {st : Station} {b : Body} (hj : st.joined = true)
    (idle : st.line.idle = false) (room : st.line.queue.length < 16) (hr : st.noReport) :
    st.handFire b = st.post .suppression allAddr b := by
  have replaced :
      st.line.queue.find? (fun q => b.isFireReport && q.body.isFireReport) = none := by
    rw [List.find?_eq_none]
    intro q hq
    simp [hr q hq]
  have offered : (st.onLine (·.offerFire b)) = st.post .suppression allAddr b := by
    simp only [Station.onLine, Line.offerFire, replaced, if_pos room]
    rfl
  unfold Station.handFire
  rw [Station.onlyIf_of_true _ hj, offered]
  exact Station.select_busy idle

/-! ### The status lines (R188) -/

theorem Station.statusLines_dead {st : Station} (h : st.live = false) : st.statusLines = 0 := by
  simp [Station.statusLines, h]

theorem Station.statusLines_live {st : Station} (h : st.live = true) :
    st.statusLines = match st.loader.state with
      | .loading | .selftest => 15
      | .listen => 8
      | .joined => if st.loader.joinedFor % ticksOfSec 2 < ticksOfSec 1 then 1 else 0
      | .fault => BitVec.ofNat 4 st.loader.faultCode
      | .clash => 6 := by
  unfold Station.statusLines
  rw [h]
  rfl

/-- The phase of the slow blink: the remainder of the time in JOINED by 2 s. -/
theorem blink_phase {n k r : Nat} (h : n = 250000 * k + r) (hr : r < 250000) :
    n % ticksOfSec 2 = r := by
  rw [h, show ticksOfSec 2 = 250000 from rfl, Nat.mul_add_mod, Nat.mod_eq_of_lt hr]

/-- The part of O50 on the status lines. -/
theorem statusLines_by_state (st : Station) :
    (st.live = false → st.statusLines = 0) ∧
    (st.live = true →
      (st.loader.state = .loading ∨ st.loader.state = .selftest → st.statusLines = 15) ∧
      (st.loader.state = .listen → st.statusLines = 8) ∧
      (∀ k r, st.loader.state = .joined → st.loader.joinedFor = 250000 * k + r →
        (r < 125000 → st.statusLines = 1) ∧
        (125000 ≤ r → r < 250000 → st.statusLines = 0)) ∧
      (st.loader.state = .fault → st.loader.faultCode ≤ 15 →
        st.statusLines.toNat = st.loader.faultCode) ∧
      (st.loader.state = .clash → st.statusLines = 6)) := by
  refine ⟨Station.statusLines_dead, fun hl => ?_⟩
  rw [Station.statusLines_live hl]
  refine ⟨?_, fun h => by rw [h], fun k r h hn => ⟨fun hr => ?_, fun h1 h2 => ?_⟩, fun h hc => ?_,
    fun h => by rw [h]⟩
  · rintro (h | h) <;> rw [h]
  · have phase := blink_phase hn (Nat.lt_trans hr (by decide))
    simp only [h, phase]
    exact if_pos hr
  · simp only [h, blink_phase hn h2]
    exact if_neg (Nat.not_lt.mpr h1)
  · simp only [h, BitVec.toNat_ofNat]
    omega

/-! ### The slot lamps (R96) -/

/-- The lamp of a slot in terms of the requests that name it. -/
theorem Station.lamp_eq (st : Station) (n : Nat) :
    st.lamp n = if (n, Lamp.flashing) ∈ st.xfer.lamps then .flashing
      else if (n, Lamp.on) ∈ st.xfer.lamps ∨ st.pulls.lamp = some n ∨ st.audit.lamp = some n
      then .on else .off := by
  have asked : ∀ l : Lamp,
      (((st.xfer.lamps.filter fun p => decide (p.1 = n)).map (·.2)).contains l = true)
        ↔ (n, l) ∈ st.xfer.lamps := by
    simp
  unfold Station.lamp
  simp only [Bool.or_eq_true, decide_eq_true_iff, asked, or_assoc]

/-- The part of O50 on the lamp of a slot. -/
theorem lamp_by_requests (st : Station) (n : Nat) :
    (st.lamp n = .flashing ↔ (n, Lamp.flashing) ∈ st.xfer.lamps) ∧
    (st.lamp n = .on ↔ (n, Lamp.flashing) ∉ st.xfer.lamps ∧
      ((n, Lamp.on) ∈ st.xfer.lamps ∨ st.pulls.lamp = some n ∨ st.audit.lamp = some n)) ∧
    (st.lamp n = .off ↔ (n, Lamp.flashing) ∉ st.xfer.lamps ∧ (n, Lamp.on) ∉ st.xfer.lamps ∧
      st.pulls.lamp ≠ some n ∧ st.audit.lamp ≠ some n) := by
  rw [Station.lamp_eq]
  by_cases flashing : (n, Lamp.flashing) ∈ st.xfer.lamps
  · simp [flashing]
  rw [if_neg flashing]
  by_cases on : (n, Lamp.on) ∈ st.xfer.lamps ∨ st.pulls.lamp = some n ∨ st.audit.lamp = some n
  · rw [if_pos on]
    refine ⟨iff_of_false (by decide) flashing, iff_of_true rfl ⟨flashing, on⟩,
      iff_of_false (by decide) ?_⟩
    rintro ⟨-, engine, pulls, audit⟩
    exact on.elim engine (·.elim pulls audit)
  · rw [if_neg on]
    exact ⟨iff_of_false (by decide) flashing, iff_of_false (by decide) fun h => on h.2,
      iff_of_true rfl ⟨flashing, by simpa only [not_or] using on⟩⟩

/-- The engine's requests after one more: those for other slots, and the new one unless it is `off`. -/
theorem Station.askLamp_mem (st : Station) (n m : Nat) (l x : Lamp) :
    (m, x) ∈ (st.askLamp n l).xfer.lamps ↔
      ((m, x) ∈ st.xfer.lamps ∧ m ≠ n) ∨ (l ≠ .off ∧ m = n ∧ x = l) := by
  by_cases h : l = .off <;> simp [Station.askLamp, Station.onXfer, h]

/-- The part of O50 on a request of the transfer engine. -/
theorem askLamp_lamp (st : Station) (n : Nat) (l : Lamp) :
    (∀ m, m ≠ n → (st.askLamp n l).lamp m = st.lamp m) ∧
    (l ≠ .off → (st.askLamp n l).lamp n = l) ∧
    (l = .off → st.pulls.lamp ≠ some n → st.audit.lamp ≠ some n →
      (st.askLamp n l).lamp n = .off) ∧
    (l = .off → st.pulls.lamp = some n ∨ st.audit.lamp = some n →
      (st.askLamp n l).lamp n = .on) := by
  have pulls : (st.askLamp n l).pulls = st.pulls := rfl
  have audit : (st.askLamp n l).audit = st.audit := rfl
  simp only [Station.lamp_eq, Station.askLamp_mem, pulls, audit]
  refine ⟨fun m h => by simp [h], fun h => ?_, fun h hp ha => by simp [h, hp, ha],
    fun h hp => by simp [h, hp]⟩
  cases l with
  | off => exact absurd rfl h
  | on => simp
  | flashing => simp

/-- Settles O50: the items of STATUS at either role, the FIRE-REPORT, the status lines and the lamps, each by
its lemma above. -/
theorem statusAndOutputs : Obligations.StatusAndOutputs := by
  refine ⟨⟨?_, fun st hj idle room hr => ?_⟩, statusLines_by_state, lamp_by_requests, askLamp_lamp⟩
  · intro st b code isFree
    refine ⟨st.supp.fire.code_toNat, rfl, rfl, rfl, rfl, st.loopOpenItem_iff, st.loopShortItem_iff, rfl,
      decide_eq_true_iff, st.supp.fire.isSealed_iff, rfl, fun h => ?_, Station.statusBody_hatch⟩
    obtain ⟨fault, sealing, filtered, excursion, occupancy, demand, places⟩ := Station.statusBody_bay h
    refine ⟨by simp [b, fault], by simp [b, sealing, Option.isSome_iff_ne_none], fun hs => ?_, fun hs => ?_,
      excursion, occupancy, fun hs => ?_, fun hs => ?_, fun hl => ?_⟩
    · simp [b, filtered, Moisture.handedOn, hs]
    · simp [b, filtered, Moisture.handedOn, hs]
    · simp [b, demand, hs]
    · simp [b, demand, hs]
    · rw [Station.freeSlots_eq hl] at places
      exact places
  · exact ⟨st.supp.fire.code, Station.handFire_joins hj idle room hr, st.supp.fire.code_toNat⟩

end Sys2Proof
end

section
/-! SUPPORT. The commands on the collections leave the outer blocks alone: the rest of `Station.outer`'s
lemmas, for the transfer engine's messages and timers, the hatch unit's lists, the requests on slots,
pulls and the audit, the check station's scans, and the line interface. -/

namespace Sys2Proof

/-- The station that an operation answers beside a value. -/
theorem Station.outer_of_answer {α : Type} {p : Station × α} {x : Station} {v : α} (h : p = (x, v)) :
    x.outer = p.1.outer := by rw [h]

section
variable (st : Station)

/-- Two outcomes that both leave the outer blocks alone. -/
theorem Station.ite_outer {c : Prop} [Decidable c] {x y : Station} (hx : x.outer = st.outer)
    (hy : y.outer = st.outer) : (if c then x else y).outer = st.outer := by
  split
  · exact hx
  · exact hy

theorem Station.outer_of_ite {c : Prop} [Decidable c] (x y : Station) :
    (if c then x else y).outer = if c then x.outer else y.outer := apply_ite Station.outer c x y

/-! ### The transfer engine -/

@[simp] theorem Station.refused_outer (e r) : (st.refused e r).outer = st.outer := by
  unfold Station.refused
  dsimp only
  split
  · split <;> simp
  · simp

@[simp] theorem Station.closeSending_outer (e) : (st.closeSending e).outer = st.outer := by
  unfold Station.closeSending
  refine (Station.onlyIf_outer _ fun s => by simp).trans ?_
  split <;> simp

@[simp] theorem Station.placeFor_outer (e) : (st.placeFor e).1.outer = st.outer := by
  unfold Station.placeFor
  split
  · rfl
  · split <;> simp [Station.outer_of_answer ‹_ = _›]

@[simp] theorem Station.arrival_outer (e) : (st.arrival e).outer = st.outer := by
  unfold Station.arrival
  dsimp only
  split <;> simp

@[simp] theorem Station.settleAtSlot_outer (e) : (st.settleAtSlot e).outer = st.outer := by
  unfold Station.settleAtSlot
  dsimp only
  split
  · simp
  · split
    · split <;> simp
    · simp
    · simp

@[simp] theorem Station.settleArrived_outer (e) : (st.settleArrived e).outer = st.outer := by
  unfold Station.settleArrived
  split <;> simp

@[simp] theorem Station.takeCustody_outer (e r) : (st.takeCustody e r).outer = st.outer := by
  simp [Station.takeCustody]

@[simp] theorem Station.claimAtBay_outer (src t c j) : (st.claimAtBay src t c j).outer = st.outer := by
  unfold Station.claimAtBay
  split
  · simp
  · split
    · simp [Station.outer_of_answer ‹_ = _›]
    · simp [Station.outer_of_answer ‹_ = _›]
    · next reserved =>
      dsimp only
      split
      · next placed => simp [Station.outer_of_answer placed, Station.outer_of_answer reserved]
      · next placed => simp [Station.outer_of_answer placed, Station.outer_of_answer reserved]

@[simp] theorem Station.acceptOffer_outer (src t c j n) :
    (st.acceptOffer src t c j n).outer = st.outer := by
  simp [Station.acceptOffer]

@[simp] theorem Station.takeOffer_outer (src t c j d) :
    (Station.takeOffer src t c j d st).outer = st.outer := by
  refine st.onlyIf_outer fun s => ?_
  split
  · split <;> simp
  · split
    · simp
    · split
      · simp
      · split <;> simp [Station.outer_of_answer ‹_ = _›]

@[simp] theorem Station.takeAccept_outer (src t n) : (Station.takeAccept src t n st).outer = st.outer := by
  refine st.onlyIf_outer fun s => ?_
  split
  · simp
  · split
    · rfl
    · split <;> simp

@[simp] theorem Station.takeRefuse_outer (src t r) : (Station.takeRefuse src t r st).outer = st.outer := by
  refine st.onlyIf_outer fun s => ?_
  split
  · rfl
  · split
    · rfl
    · split
      · simp
      · simp
      · split <;> simp
      · rfl

@[simp] theorem Station.takeArrive_outer (src t) : (Station.takeArrive src t st).outer = st.outer := by
  refine st.onlyIf_outer fun s => ?_
  split
  · simp
  · split <;> simp

@[simp] theorem Station.closeClaim_outer (src t c j) :
    (Station.closeClaim src t c j st).outer = st.outer := by
  unfold Station.closeClaim
  dsimp only
  split <;> simp

@[simp] theorem Station.takeClose_outer (src t c j) :
    (Station.takeClose src t c j st).outer = st.outer := by
  refine st.onlyIf_outer fun s => ?_
  split
  · split
    · simp
    · split <;> simp [Station.outer_of_answer ‹_ = _›]
    · simp
    · rfl
  · split <;> simp

@[simp] theorem Station.freeSlot_outer (n t) : (st.freeSlot n t).outer = st.outer := by
  unfold Station.freeSlot
  split <;> simp [Station.outer_of_answer ‹_ = _›]

@[simp] theorem Station.takeWithdraw_outer (src t) :
    (Station.takeWithdraw src t st).outer = st.outer := by
  refine st.onlyIf_outer fun s => ?_
  split
  · rfl
  · split
    · dsimp only
      split <;> simp
    · rfl

@[simp] theorem Station.takeClaim_outer (src c) : (Station.takeClaim src c st).outer = st.outer := by
  refine st.onlyIf_outer fun s => ?_
  split
  · rfl
  · exact (Station.onlyIf_outer _ fun x => by simp).trans (by simp)

@[simp] theorem Station.replyExpired_outer (t) : (Station.replyExpired t st).outer = st.outer := by
  unfold Station.replyExpired
  split
  · rfl
  · split
    · rfl
    · split
      · split
        · simp
        · split <;> simp
      · rfl

@[simp] theorem Station.transitExpired_outer (t) : (Station.transitExpired t st).outer = st.outer := by
  unfold Station.transitExpired
  split
  · rfl
  · split <;> simp

@[simp] theorem Station.claimExpired_outer (c) : (Station.claimExpired c st).outer = st.outer := by
  unfold Station.claimExpired
  split
  · dsimp only
    split <;> simp
  · rfl

@[simp] theorem Station.takeQueryTransfer_outer (src seq t) :
    (Station.takeQueryTransfer src seq t st).outer = st.outer := by
  unfold Station.takeQueryTransfer
  split <;> simp

/-! ### The hatch unit's lists and session -/

@[simp] theorem Station.handover_outer (n r) : (st.handover n r).outer = st.outer := by
  simp [Station.handover]

@[simp] theorem Station.endSession_outer (x r) : (st.endSession x r).outer = st.outer := rfl

@[simp] theorem Station.settleSession_outer : st.settleSession.outer = st.outer := by
  unfold Station.settleSession
  split
  · exact st.onlyIf_outer fun s => by simp
  · exact st.onlyIf_outer fun s => by simp
  · rfl

@[simp] theorem Station.fileInbound_outer (j c) : (st.fileInbound j c).outer = st.outer := rfl

@[simp] theorem Station.handInbound_outer : st.handInbound.outer = st.outer := by
  simp [Station.handInbound, Station.foldl_outer _ fun s (m : ManifestItem) => s.fileInbound_outer _ m.cart]

@[simp] theorem Station.hatchAlert_outer (k c) : (st.hatchAlert k c).outer = st.outer := by
  simp [Station.hatchAlert]

@[simp] theorem Station.setCustodyState_outer (c x) : (st.setCustodyState c x).outer = st.outer := rfl

@[simp] theorem Station.beginSession_outer (x d j) : (st.beginSession x d j).outer = st.outer := rfl

@[simp] theorem Station.loadDrawer_outer (c) : (st.loadDrawer c).outer = st.outer :=
  st.onlyIf_outer fun s => by simp

@[simp] theorem Station.fileScanned_outer (e) : (st.fileScanned e).outer = st.outer := by
  unfold Station.fileScanned
  split <;> simp

@[simp] theorem Station.onward_outer (e d) : (st.onward e d).outer = st.outer := by
  unfold Station.onward
  split <;> simp [Station.outer_of_answer ‹_ = _›]

@[simp] theorem Station.returned_outer (c) : (st.returned c).outer = st.outer := by
  unfold Station.returned
  dsimp only
  split <;> simp

@[simp] theorem Station.scanCustody_outer (e) : (st.scanCustody e).outer = st.outer := by
  unfold Station.scanCustody
  split
  · dsimp only
    split <;> simp
  · split <;> simp
  · simp
  · rfl

@[simp] theorem Station.innerScan_outer (c) : (st.innerScan c).outer = st.outer := by
  unfold Station.innerScan
  split
  · simp
  · split
    · rfl
    · split
      · simp
      · split <;> simp

@[simp] theorem Station.receiveScan_outer (c) : (st.receiveScan c).outer = st.outer := by
  exact st.ite_outer rfl (st.ite_outer (by simp) (st.ite_outer rfl (st.ite_outer (by simp) rfl)))

@[simp] theorem Station.assignStray_outer (c j d) : (st.assignStray c j d).outer = st.outer := rfl

@[simp] theorem Station.takeCheckin_outer (src seq j c d) :
    (Station.takeCheckin src seq j c d st).outer = st.outer := by
  simp [Station.takeCheckin, Station.outer_of_ite]

@[simp] theorem Station.hatchQuery_outer (src seq c) :
    (Station.hatchQuery src seq c st).outer = st.outer := by
  unfold Station.hatchQuery
  split
  · simp
  · split <;> simp

/-! ### The slot table's sweeps and requests -/

@[simp] theorem Station.minuteExpired_outer : st.minuteExpired.outer = st.outer :=
  st.onlyIf_outer fun s => by simp

@[simp] theorem Station.markDischarge_outer : st.markDischarge.outer = st.outer := by
  simp [Station.markDischarge]

@[simp] theorem Station.takeHoldSet_outer (src seq e d c m) :
    (Station.takeHoldSet src seq e d c m st).outer = st.outer := by
  refine st.ite_outer (by simp) (st.ite_outer (by simp) (st.ite_outer (by simp) ?_))
  split
  · simp
  · exact st.ite_outer (by simp) (st.ite_outer (by simp) (by simp))

@[simp] theorem Station.takeInspectClear_outer (src seq n) :
    (Station.takeInspectClear src seq n st).outer = st.outer := by
  refine st.ite_outer (by simp) (st.ite_outer (by simp) (st.ite_outer (by simp) ?_))
  split
  · refine st.ite_outer (by simp) ?_
    dsimp only
    split <;> simp
  · simp

@[simp] theorem Station.answerRecord_outer (src seq n) :
    (st.answerRecord src seq n).outer = st.outer := by
  simp [Station.answerRecord]

@[simp] theorem Station.takeQuerySlot_outer (src seq n) :
    (Station.takeQuerySlot src seq n st).outer = st.outer := by
  simp [Station.takeQuerySlot, Station.outer_of_ite]

@[simp] theorem Station.bayQuery_outer (src seq c) : (Station.bayQuery src seq c st).outer = st.outer := by
  unfold Station.bayQuery
  dsimp only
  split <;> simp

@[simp] theorem Station.takeQueryCartridge_outer (src seq c) :
    (Station.takeQueryCartridge src seq c st).outer = st.outer := by
  unfold Station.takeQueryCartridge
  split <;> simp

@[simp] theorem Station.takeQuery_outer (src seq x) :
    (Station.takeQuery src seq x st).outer = st.outer := by
  unfold Station.takeQuery
  split <;> simp

@[simp] theorem Station.emptyBayCheck_outer (n) : (st.emptyBayCheck n).outer = st.outer := by
  unfold Station.emptyBayCheck
  dsimp only
  split
  · exact (Station.onlyIf_outer _ fun s => by simp).trans (by simp)
  · simp

/-! ### Pulls, the audit and the check station -/

@[simp] theorem Station.takeAudit_outer (src seq f l) :
    (Station.takeAudit src seq f l st).outer = st.outer := by
  refine st.ite_outer (by simp) (st.ite_outer (by simp) (st.ite_outer (by simp)
    (st.ite_outer (by simp) (st.ite_outer (by simp) (st.ite_outer (by simp) ?_)))))
  dsimp only
  split <;> simp

@[simp] theorem Station.queuePull_outer (e) : (st.queuePull e).outer = st.outer := by
  simp [Station.queuePull]

@[simp] theorem Station.checkoutLookup_outer (src seq c j d) :
    (st.checkoutLookup src seq c j d).outer = st.outer := by
  unfold Station.checkoutLookup
  dsimp only
  split
  · simp
  · split <;> simp
  · split
    · simp
    · split <;> simp [Station.outer_of_ite]

@[simp] theorem Station.checkoutTests_outer (src seq c j d) :
    (st.checkoutTests src seq c j d).outer = st.outer := by
  simp [Station.checkoutTests, Station.outer_of_ite]

@[simp] theorem Station.takeCheckout_outer (src seq a c j d) :
    (Station.takeCheckout src seq a c j d st).outer = st.outer := by
  unfold Station.takeCheckout
  split
  · split
    · rfl
    · exact (Station.onlyIf_outer _ fun s => by simp).trans (by simp)
  · simp

@[simp] theorem Station.takeCancel_outer (src seq c) :
    (Station.takeCancel src seq c st).outer = st.outer := by
  refine st.ite_outer (by simp) (st.ite_outer (by simp) (st.ite_outer (by simp) ?_))
  split
  · simp
  · exact st.ite_outer (by simp) (by simp)

@[simp] theorem Station.departure_outer (e) : (st.departure e).outer = st.outer := by
  unfold Station.departure
  dsimp only
  split
  · split
    · split <;> simp [Station.outer_of_answer ‹_ = _›]
    · simp
  · simp

@[simp] theorem Station.wrongCartridge_outer (n c) : (st.wrongCartridge n c).outer = st.outer := by
  simp [Station.wrongCartridge]

@[simp] theorem Station.strangeScan_outer (c) : (st.strangeScan c).outer = st.outer := by
  unfold Station.strangeScan
  dsimp only
  split <;> simp

@[simp] theorem Station.checkStation_outer (c) : (st.checkStation c).outer = st.outer := by
  unfold Station.checkStation
  split
  · simp
  · split
    · simp
    · split <;> simp

/-! ### The line interface -/

@[simp] theorem Station.sendStatus_outer : st.sendStatus.outer = st.outer := by
  have counted : (st.onlyIf (decide (st.cfg.role = .bay)) Station.readAll).outer = st.outer :=
    st.onlyIf_outer fun s => s.readAll_outer
  simp [Station.sendStatus, counted]

@[simp] theorem Station.loadBeacon_outer : st.loadBeacon.outer = st.outer := rfl

@[simp] theorem Station.beaconExpired_outer : st.beaconExpired.outer = st.outer :=
  st.onlyIf_outer fun s => by simp

@[simp] theorem Station.lineBecomesIdle_outer : st.lineBecomesIdle.outer = st.outer := by
  simp [Station.lineBecomesIdle]

@[simp] theorem Station.lineFaultExpired_outer : st.lineFaultExpired.outer = st.outer :=
  st.onlyIf_outer fun s => by simp

@[simp] theorem Station.hear_outer (m) : (st.hear m).outer = st.outer := rfl

/-! ### Start rules of the collections -/

@[simp] theorem Station.rejoinXfer_outer (e) : (st.rejoinXfer e).outer = st.outer := by
  unfold Station.rejoinXfer
  split <;> simp

@[simp] theorem Station.markUnplanned_outer (n) : (st.markUnplanned n).outer = st.outer := by
  unfold Station.markUnplanned
  split
  · split <;> simp
  · rfl

@[simp] theorem Station.startBay_outer : st.startBay.outer = st.outer := by
  simp [Station.startBay, Station.foldl_outer _ fun s n => s.markUnplanned_outer n]

@[simp] theorem Station.startLists_outer : st.startLists.outer = st.outer := by
  simp [Station.startLists]

@[simp] theorem Station.listenLamp_outer (e) : (st.listenLamp e).outer = st.outer := by
  unfold Station.listenLamp
  split
  · split
    · simp
    · split <;> simp
  · rfl
  · rfl

@[simp] theorem Station.listenXfers_outer : st.listenXfers.outer = st.outer := by
  simp [Station.listenXfers, Station.foldl_outer _ fun s e => s.listenLamp_outer e]

end

end Sys2Proof
end

section
/-! SUPPORT. The motion channel (section 2.5): what each of its operations changes, and that each keeps a
coil driving only in the moving state toward its end with no dead time running (R31). -/

namespace Sys2Proof

/-! ### The laws of the channel (R31) -/

/-- A coil drives in the moving state toward its end alone, and never while the dead time runs (R31): the
part of `Station.DriveLawful` that the channel alone decides. -/
structure Motion.Lawful (m : Motion) : Prop where
  towardA : m.coilA = true → m.state = .moving .a
  towardB : m.coilB = true → m.state = .moving .b
  deadTime : m.coilA = true ∨ m.coilB = true → m.dead = none

theorem Motion.lawful_of_off {m : Motion} (ha : m.coilA = false) (hb : m.coilB = false) : m.Lawful where
  towardA h := by simp [ha] at h
  towardB h := by simp [hb] at h
  deadTime h := by simp [ha, hb] at h

theorem Motion.rest_lawful (m : Motion) (e : MotionEnd) : (m.rest e).Lawful := Motion.lawful_of_off rfl rfl

theorem Motion.stall_lawful (m : Motion) (c : StallCause) : (m.stall c).Lawful :=
  Motion.lawful_of_off rfl rfl

theorem Motion.coilsOff_lawful (m : Motion) : m.coilsOff.Lawful := Motion.lawful_of_off rfl rfl

theorem Motion.switchOn_lawful {m : Motion} {e : MotionEnd} (limit : Ticks) (hm : m.state = .moving e)
    (hd : m.dead = none) : (m.switchOn e limit).Lawful where
  towardA h := by
    have : e = .a := by simpa [Motion.switchOn] using h
    rw [← this]
    exact hm
  towardB h := by
    have : e = .b := by simpa [Motion.switchOn] using h
    rw [← this]
    exact hm
  deadTime _ := hd

/-- Both coils are off where no motion is under way, and while the dead time runs. -/
theorem Motion.Lawful.off_at_rest {m : Motion} (h : m.Lawful) (hm : ∀ e, m.state ≠ .moving e) :
    m.coilA = false ∧ m.coilB = false :=
  ⟨Bool.eq_false_iff.mpr fun ha => hm _ (h.towardA ha), Bool.eq_false_iff.mpr fun hb => hm _ (h.towardB hb)⟩

theorem Motion.Lawful.off_in_deadTime {m : Motion} (h : m.Lawful) (hd : m.dead.isSome) :
    m.coilA = false ∧ m.coilB = false := by
  have running : m.dead ≠ none := Option.isSome_iff_ne_none.mp hd
  exact ⟨Bool.eq_false_iff.mpr fun ha => running (h.deadTime (.inl ha)),
    Bool.eq_false_iff.mpr fun hb => running (h.deadTime (.inr hb))⟩

theorem Motion.pending_eq_some {m : Motion} {e : MotionEnd} (h : m.pending = some e) :
    m.state = .moving e := by
  unfold Motion.pending at h
  split at h
  · split at h
    · cases h
    · cases h; assumption
  · cases h
  · cases h

/-! ### Each operation changes the channel alone -/

section
variable (st : Station) (e : MotionEnd)

theorem Station.arrivalComes_motion :
    (st.arrivalComes e).1 = { st with motion := (st.arrivalComes e).1.motion } := by
  unfold Station.arrivalComes
  split
  · split <;> rfl
  · split <;> rfl
  · rfl

theorem Station.loadLeaves_motion :
    (st.loadLeaves e).1 = { st with motion := (st.loadLeaves e).1.motion } := by
  unfold Station.loadLeaves
  split
  · exact st.startDrive_motion e
  · rfl

theorem Station.stopEvent_motion (c : StallCause) :
    (st.stopEvent c).1 = { st with motion := (st.stopEvent c).1.motion } := by
  unfold Station.stopEvent
  split <;> rfl

theorem Station.travelExpired_motion :
    st.travelExpired.1 = { st with motion := st.travelExpired.1.motion } := by
  unfold Station.travelExpired
  split <;> rfl

theorem Station.deadExpired_motion :
    st.deadExpired.1 = { st with motion := st.deadExpired.1.motion } := by
  unfold Station.deadExpired
  split
  · dsimp only
    split
    · rw [Station.driveDue_motion]; rfl
    · rfl
  · rfl

/-! ### Each operation keeps the laws -/

theorem Station.driveDue_lawful {st : Station} {e : MotionEnd} (hm : st.motion.state = .moving e)
    (hd : st.motion.dead = none) : (st.driveDue e).1.motion.Lawful := by
  unfold Station.driveDue
  split
  · exact Motion.stall_lawful _ _
  · exact Motion.switchOn_lawful _ hm hd

/-- The coils are off first, so a drive started is lawful whatever the channel did before (R31). -/
theorem Station.startDrive_lawful : (st.startDrive e).1.motion.Lawful := by
  unfold Station.startDrive
  dsimp only
  split
  · exact Motion.lawful_of_off rfl rfl
  · next hd => exact Station.driveDue_lawful rfl (by simpa using hd)

theorem Station.arriveAt_lawful : (st.arriveAt e).1.motion.Lawful := Motion.rest_lawful _ _

variable {st} (h : st.motion.Lawful)
include h

theorem Station.command_lawful : (st.command e).1.motion.Lawful := by
  have named : Motion.Lawful { st.motion with last := some e } := ⟨h.towardA, h.towardB, h.deadTime⟩
  unfold Station.command
  dsimp only
  split
  · split
    · exact named
    · exact Station.startDrive_lawful _ _
  · split
    · exact named
    · split
      · exact Station.arriveAt_lawful _ _
      · exact Station.startDrive_lawful _ _
  · split
    · exact Station.arriveAt_lawful _ _
    · exact Station.startDrive_lawful _ _

theorem Station.arrivalComes_lawful : (st.arrivalComes e).1.motion.Lawful := by
  unfold Station.arrivalComes
  split
  · split
    · exact Station.arriveAt_lawful _ _
    · exact h
  · split
    · exact Station.arriveAt_lawful _ _
    · exact h
  · exact h

theorem Station.loadLeaves_lawful : (st.loadLeaves e).1.motion.Lawful := by
  unfold Station.loadLeaves
  split
  · exact Station.startDrive_lawful _ _
  · exact h

theorem Station.stopEvent_lawful (c : StallCause) : (st.stopEvent c).1.motion.Lawful := by
  unfold Station.stopEvent
  split
  · exact Motion.stall_lawful _ _
  · exact h
  · exact h

theorem Station.travelExpired_lawful : st.travelExpired.1.motion.Lawful := by
  unfold Station.travelExpired
  split
  · exact Motion.stall_lawful _ _
  · exact h

/-- While the dead time ran both coils were off, so the drive that comes due is the only one (R31). -/
theorem Station.deadExpired_lawful : st.deadExpired.1.motion.Lawful := by
  unfold Station.deadExpired
  split
  · next hd =>
    obtain ⟨offA, offB⟩ := h.off_in_deadTime hd
    dsimp only
    split
    · next pending => exact Station.driveDue_lawful (Motion.pending_eq_some pending) rfl
    · exact Motion.lawful_of_off offA offB
  · exact h

end

end Sys2Proof
end

section
/-! SUPPORT. What a step can do to the motion channel and the valve's on-times, said once: the field work of
a running station (`Station.Follows`), and with the starts and the loss of the supply every command
(`Station.Effect`). The laws of O57 and O59 are read off from it. -/

namespace Sys2Proof

/-! ### What the two laws look at -/

/-- The parts of a station that the laws of the motion channel and of the on-times speak of. -/
structure Works where
  state : StartState
  cfg : ConfigRecord
  motion : Motion
  staged : Nat
  applied : Nat

def Station.works (st : Station) : Works where
  state := st.loader.state
  cfg := st.cfg
  motion := st.motion
  staged := st.air.staged
  applied := st.air.applied

/-- A start state in which the field units run: LISTEN, JOINED or CLASH (R1, R40). -/
def StartState.fielded : StartState → Prop
  | .listen | .joined | .clash => True
  | .loading | .selftest | .fault => False

/-- The stage and the applied on-time are ones that R23 can give. -/
def Works.OnTimes (w : Works) : Prop := onTimeLawful w.cfg w.staged ∧ onTimeLawful w.cfg w.applied

theorem Station.works_of_outer {a b : Station} (h : a.outer = b.outer) : a.works = b.works := by
  simp only [Station.works, Station.cfg, Station.loader_of_outer h, Station.motion_of_outer h,
    Station.air_of_outer h]

theorem Station.fielded_of_running {st : Station} (h : st.running = true) : st.loader.state.fielded := by
  unfold Station.running at h
  cases hs : st.loader.state <;> simp [hs, StartState.fielded] at h ⊢

/-- R23 clamps every on-time against MINPULSE. -/
theorem onTimeOf_lawful (c : ConfigRecord) (share : Nat) :
    onTimeLawful c (onTimeOf c (dutyOf c share)) := by
  have within : dutyOf c share * c.periodMs / 1000 ≤ c.periodMs := by
    have duty : dutyOf c share ≤ 1000 := Nat.min_le_left _ _
    calc dutyOf c share * c.periodMs / 1000
        ≤ 1000 * c.periodMs / 1000 := Nat.div_le_div_right (Nat.mul_le_mul_right _ duty)
      _ = c.periodMs := by omega
  unfold onTimeOf
  dsimp only
  split
  · exact .inl rfl
  · split
    · exact .inr (.inl rfl)
    · refine .inr (.inr ⟨by omega, ?_⟩)
      change _ ≤ c.periodMs
      omega

/-! ### Field work -/

/-- `b` comes of `a` by field work: the record stays, the start state stays or is another of the field's,
and the channel and the on-times stay lawful. -/
structure Station.Follows (a b : Station) : Prop where
  cfg : b.cfg = a.cfg
  state : b.loader.state = a.loader.state ∨ b.loader.state.fielded
  drive : a.motion.Lawful → b.motion.Lawful
  onTimes : a.works.OnTimes → b.works.OnTimes

theorem Station.Follows.refl (a : Station) : a.Follows a := ⟨rfl, .inl rfl, id, id⟩

namespace Station.Follows

variable {a b c : Station} (h : a.Follows b)
include h

theorem of_works (e : c.works = b.works) : a.Follows c where
  cfg := (congrArg Works.cfg e).trans h.cfg
  state := by
    have same : c.loader.state = b.loader.state := congrArg Works.state e
    rw [same]
    exact h.state
  drive := by
    have same : c.motion = b.motion := congrArg Works.motion e
    rw [same]
    exact h.drive
  onTimes := by
    rw [e]
    exact h.onTimes

theorem of_outer (e : c.outer = b.outer) : a.Follows c := h.of_works (Station.works_of_outer e)

/-- Only the channel has changed, and stays lawful. -/
theorem of_motion (e : c = { b with motion := c.motion }) (hm : b.motion.Lawful → c.motion.Lawful) :
    a.Follows c := by
  rw [e]
  exact ⟨h.cfg, h.state, fun l => hm (h.drive l), h.onTimes⟩

/-- Only the dry-air unit has changed, and its on-times stay lawful. -/
theorem of_air (f : DryAir → DryAir) (hf : b.works.OnTimes → (b.onAir f).works.OnTimes) :
    a.Follows (b.onAir f) := ⟨h.cfg, h.state, h.drive, fun l => hf (h.onTimes l)⟩

theorem onlyIf {g : Bool} {f : Station → Station} (hf : a.Follows b → a.Follows (f b)) :
    a.Follows (b.onlyIf g f) := Station.onlyIf_keeps h hf

/-! #### The motion channel and its owner -/

theorem command (e : MotionEnd) : a.Follows (b.command e).1 :=
  h.of_motion (b.command_motion e) (Station.command_lawful e)

theorem bringIn : a.Follows b.bringIn :=
  ((h.of_outer (Station.onSession_outer b _)).command .b).of_outer (Station.settleSession_outer _)

theorem abortSession (r : AbortReason) : a.Follows (b.abortSession r) :=
  h.onlyIf fun h => (h.of_outer (by simp)).bringIn

theorem handOutbound : a.Follows b.handOutbound := (h.of_outer (by simp)).bringIn

theorem hatchReport (r : Report) : a.Follows (b.hatchReport r) := by
  unfold Station.hatchReport
  split
  · exact h.onlyIf fun h => h.of_outer (by simp)
  · split
    · exact h.of_outer (by simp)
    · exact h.of_outer (by simp)
  · exact h.abortSession _

omit h in
/-- The owner acts on what an operation of the channel reports (R37). -/
theorem reported {p : Station × Option Report} (h : a.Follows p.1) : a.Follows (Station.reported p) := by
  unfold Station.reported
  split
  · exact h.hatchReport _
  · exact h
  · exact h

theorem retry : a.Follows b.retry := (h.command _).reported

theorem arrivalComes (e : MotionEnd) : a.Follows (Station.reported (b.arrivalComes e)) :=
  (h.of_motion (b.arrivalComes_motion e) (Station.arrivalComes_lawful e)).reported

theorem loadLeaves (e : MotionEnd) : a.Follows (Station.reported (b.loadLeaves e)) :=
  (h.of_motion (b.loadLeaves_motion e) (Station.loadLeaves_lawful e)).reported

theorem stopEvent (s : StallCause) : a.Follows (Station.reported (b.stopEvent s)) :=
  (h.of_motion (b.stopEvent_motion s) (Station.stopEvent_lawful · s)).reported

theorem travelExpired : a.Follows (Station.reported b.travelExpired) :=
  (h.of_motion b.travelExpired_motion Station.travelExpired_lawful).reported

theorem deadExpired : a.Follows (Station.reported b.deadExpired) :=
  (h.of_motion b.deadExpired_motion Station.deadExpired_lawful).reported

theorem positionMoved (n : Nat) : a.Follows (b.positionMoved n) := by
  unfold Station.positionMoved
  dsimp only
  split
  · exact h.arrivalComes .a
  · split
    · exact h.loadLeaves .a
    · exact h

theorem setPosition (n : Nat) : a.Follows (b.setPosition n) :=
  (h.of_outer (Station.onHatch_outer b _)).positionMoved _

theorem innerEndClosed : a.Follows b.innerEndClosed := (h.setPosition 0).arrivalComes .b

theorem encoderChanged (x y : Bool) : a.Follows (b.encoderChanged x y) := by
  have seen : a.Follows (b.onHatch fun k => { k with refA := x, refB := y }) :=
    h.of_outer (Station.onHatch_outer b _)
  unfold Station.encoderChanged
  dsimp only
  split
  · exact seen.stopEvent .encoder
  · exact seen.setPosition _

theorem flapChanged (o : Bool) : a.Follows (b.flapChanged o) := by
  unfold Station.flapChanged
  split
  · exact h.stopEvent .interlock
  · exact h.onlyIf fun h => h.retry

theorem sendPressed : a.Follows b.sendPressed := by
  unfold Station.sendPressed
  split
  · exact h.retry
  · split
    · exact (h.command .a).reported
    · exact h

theorem donePressed : a.Follows b.donePressed := by
  unfold Station.donePressed
  split
  · exact h.retry
  · split
    · exact ((h.of_outer (Station.onSession_outer b _)).command .b).reported
    · exact h

theorem sessionExpired : a.Follows b.sessionExpired :=
  h.onlyIf fun h => (h.of_outer (Station.onSession_outer b _)).abortSession _

theorem courierCard (n : Cart) : a.Follows (b.courierCard n) := by
  unfold Station.courierCard
  dsimp only
  split
  · exact h
  · split
    · exact h
    · split
      · exact h
      · split
        · exact h.of_outer rfl
        · split
          · exact ((h.of_outer (Station.beginSession_outer b _ _ _)).command .a).reported
          · exact h

theorem outerScan (n : Cart) : a.Follows (b.outerScan n) := by
  unfold Station.outerScan
  split
  · unfold Station.presentScan
    split
    · exact (h.of_outer (Station.onSession_outer b _)).onlyIf fun h => h.handOutbound
    · exact h.of_outer (by simp)
  · exact h.onlyIf fun h => h.of_outer (by simp)
  · exact h

/-! #### The dry-air unit -/

theorem computeDemand : a.Follows b.computeDemand :=
  ⟨h.cfg, h.state, h.drive, fun l => ⟨onTimeOf_lawful b.cfg _, (h.onTimes l).2⟩⟩

theorem periodStart : a.Follows b.periodStart := by
  refine h.of_air _ fun l => ?_
  have loaded : (b.onAir fun x => { x with
      period := some (ticksOfSec b.cfg.valvePeriod), applied := x.staged }.drive
        b.cfg.periodMs).works = { b.works with applied := b.air.staged } := by
    simp only [Station.works, Station.onAir, DryAir.drive]
    split
    · rfl
    · split
      · rfl
      · split <;> rfl
  rw [loaded]
  exact ⟨l.1, l.1⟩

theorem onTimeExpired : a.Follows (b.onAir DryAir.onTimeExpired) := by
  refine h.of_works ?_
  simp only [Station.works, Station.onAir, DryAir.onTimeExpired]
  split <;> rfl

theorem evalForcedSafe : a.Follows b.evalForcedSafe := by
  unfold Station.evalForcedSafe
  split
  · exact h
  · split
    · exact (h.of_works (c := b.onAir _) rfl).command .b
    · exact (h.of_works (c := b.onAir _) rfl).command .a

theorem sealExpired : a.Follows b.sealExpired :=
  h.onlyIf fun h => (h.of_works (c := b.onAir _) rfl).evalForcedSafe

theorem followAir : a.Follows b.followAir := h.onlyIf fun h => h.evalForcedSafe

/-! #### The fire state -/

theorem followConfirmed : a.Follows b.followConfirmed := by
  have paused : a.Follows (b.followAir.pullsChanged.auditAbort.onTransits Transit.pause) :=
    h.followAir.of_outer (by simp)
  exact (paused.abortSession .fire).of_works rfl

theorem followUnconfirmed : a.Follows b.followUnconfirmed :=
  h.followAir.of_outer (by simp [Station.followUnconfirmed])

theorem setFire (f : FireState) : a.Follows (b.setFire f) := by
  have taken : a.Follows (b.onSupp (·.take f)) := h.of_works rfl
  unfold Station.setFire
  dsimp only
  split
  · exact taken.of_outer (by simp)
  · split
    · exact taken.followConfirmed.of_outer (by simp)
    · exact taken.followUnconfirmed.of_outer (by simp)

theorem onSupp (f : Suppression → Suppression) : a.Follows (b.onSupp f) := h.of_works rfl

theorem enterCountdown : a.Follows b.enterCountdown := by
  unfold Station.enterCountdown
  exact ((h.onSupp _).setFire .countdown).onlyIf fun h => (h.onSupp _).setFire .held

theorem confirm : a.Follows b.confirm := by
  unfold Station.confirm
  split
  · exact (h.onSupp _).setFire .evacuate
  · exact h.enterCountdown

theorem latched (k : LoopKind) : a.Follows (b.latched k) := by
  have smoke : a.Follows b.takeLatch := by
    unfold Station.takeLatch
    split
    · exact h
    · split
      · exact h.confirm
      · exact h.onlyIf fun h => h.setFire .prealarm
  have manual : a.Follows b.takeManualLatch := by
    unfold Station.takeManualLatch
    split
    · exact h
    · exact (h.onSupp _).enterCountdown
  cases k
  · exact h
  · exact smoke
  · exact smoke
  · exact manual

theorem loopSampled (n : Fin 4) (code : BitVec 10) : a.Follows (b.loopSampled n code) := by
  unfold Station.loopSampled
  dsimp only
  split
  · exact h
  · split
    · exact (h.of_works (c := (b.onDet _).onDet _) rfl).latched _
    · exact h.of_works rfl

theorem neighbourTest : a.Follows b.neighbourTest := h.onlyIf fun h => h.confirm

theorem holdSwitch (x : Bool) : a.Follows (b.holdSwitch x) := by
  have read : a.Follows ((b.onPins fun p => { p with holdInput := x }).onSupp fun s =>
      { s with holdClosed := x, holdFilter := none }) := h.of_works rfl
  unfold Station.holdSwitch
  dsimp only
  split
  · exact (read.onSupp _).setFire .held
  · exact read.enterCountdown
  · exact read

theorem evacuationExpired : a.Follows b.evacuationExpired := h.onlyIf fun h => h.enterCountdown

theorem countdownExpired : a.Follows b.countdownExpired :=
  h.onlyIf fun h => by
    dsimp only
    split
    · exact (h.onSupp _).setFire .blocked
    · exact ((h.onSupp _).onSupp _).setFire .release

theorem pulseExpired : a.Follows b.pulseExpired :=
  h.onlyIf fun h =>
    ((((h.onSupp _).of_outer (Station.handFire_outer _ _)).onlyIf fun h =>
      h.of_outer (Station.markDischarge_outer _)).onSupp _).setFire .soak

theorem soakExpired : a.Follows b.soakExpired := h.onlyIf fun h => (h.onSupp _).setFire .vent

theorem takeRestore (src : Addr) (seq : Byte) : a.Follows (Station.takeRestore src seq b) := by
  have restored : a.Follows b.restored :=
    ((h.of_works (c := b.onDet _) rfl).onSupp _).setFire .normal
  unfold Station.takeRestore
  dsimp only
  split
  · exact h.of_outer (by simp)
  · split
    · exact h.of_outer (by simp)
    · split
      · exact h.of_outer (by simp)
      · split
        · exact h.of_outer (by simp)
        · exact restored.of_outer (by simp)

/-! #### The door -/

theorem bayEmptied : a.Follows b.bayEmptied :=
  (h.onlyIf (g := decide (b.supp.fire = .evacuate)) fun h => h.enterCountdown).of_outer
    (Station.foldl_outer _ (fun s n => s.emptyBayCheck_outer n) _ _)

theorem badgeRead (id : Cart) : a.Follows (b.badgeRead id) := by
  unfold Station.badgeRead
  split
  · exact (h.of_works (c := (b.setOccupancy _).unlockPulse) rfl).onlyIf fun h => h.bayEmptied
  · split
    · exact h
    · split
      · exact h
      · exact h.of_works rfl

theorem takeOccupancyClear (src : Addr) (seq : Byte) :
    a.Follows (Station.takeOccupancyClear src seq b) := by
  unfold Station.takeOccupancyClear
  dsimp only
  split
  · exact h.of_outer (by simp)
  · split
    · exact h.of_outer (by simp)
    · split
      · exact h.of_outer (by simp)
      · split
        · exact h.of_outer (by simp)
        · exact (h.of_works (c := b.setOccupancy []) rfl).bayEmptied.of_outer (by simp)

/-! #### Messages -/

theorem modifyPeer (src : Addr) (f : Peer → Peer) : a.Follows (b.modifyPeer src f) := h.of_works rfl

theorem takeStatus (src : Addr) (x : StatusBody) : a.Follows (Station.takeStatus src x b) := by
  unfold Station.takeStatus
  split
  · exact h.modifyPeer _ _
  · exact (h.modifyPeer _ _).onlyIf fun h => h.neighbourTest

theorem takeFireReport (src : Addr) (x : FireReportBody) :
    a.Follows (Station.takeFireReport src x b) := by
  unfold Station.takeFireReport
  split
  · exact h.modifyPeer _ _
  · exact (h.modifyPeer _ _).onlyIf fun h => h.neighbourTest

theorem takeDischarge (src : Addr) (x : Byte) : a.Follows (Station.takeDischarge src x b) :=
  (h.modifyPeer _ _).onlyIf fun h => (h.of_works (c := Station.onAir _ _) rfl).evalForcedSafe

theorem enterClash : a.Follows b.enterClash := by
  unfold Station.enterClash
  split
  · exact h
  · refine Station.Follows.of_outer ?_ (Station.pullsChanged_outer _)
    exact ⟨h.cfg, .inr trivial, h.drive, h.onTimes⟩

theorem takeRestart (src : Addr) (seq : Byte) : a.Follows (Station.takeRestart src seq b) := by
  unfold Station.takeRestart
  dsimp only
  split
  · exact h
  · split
    · exact h.of_outer (by simp)
    · split
      · exact h.of_outer (by simp)
      · refine Station.Follows.of_outer ?_ (Station.reply_outer _ _ _ _ _ _ _)
        exact h.of_works rfl

/-- A message of another station: its record is refreshed, then its block acts (R168). -/
theorem refreshed (src : Addr) {f : Station → Station}
    (hf : ∀ s : Station, (f s).outer = s.outer) : a.Follows (Station.refreshed src f b) :=
  (h.modifyPeer src _).of_outer (hf _)

theorem fromPeer (src : Addr) {f : Station → Station} (hf : a.Follows b → a.Follows (f b)) :
    a.Follows (Station.fromPeer src f b) :=
  h.onlyIf fun h => by
    split
    · exact h.enterClash
    · exact h.onlyIf hf

theorem fromConsole (src : Addr) {f : Station → Station} (hf : a.Follows b → a.Follows (f b)) :
    a.Follows (Station.fromConsole src f b) :=
  h.onlyIf fun h => by
    split
    · exact h.enterClash
    · exact h.onlyIf hf

theorem deliver (m : RxMsg) : a.Follows (b.deliver m) := by
  unfold Station.deliver
  split
  · exact h.takeStatus _ _
  · exact h.takeFireReport _ _
  · exact h.takeDischarge _ _
  · exact h.refreshed _ fun _ => rfl
  · exact h.refreshed _ fun s => s.takeOffer_outer _ _ _ _ _
  · exact h.refreshed _ fun s => s.takeAccept_outer _ _ _
  · exact h.refreshed _ fun s => s.takeRefuse_outer _ _ _
  · exact h.refreshed _ fun s => s.takeArrive_outer _ _
  · exact h.refreshed _ fun s => s.takeClaim_outer _ _
  · exact h.refreshed _ fun s => s.takeClose_outer _ _ _ _
  · exact h.refreshed _ fun s => s.takeWithdraw_outer _ _
  · exact h.refreshed _ fun _ => rfl
  · exact h.refreshed _ fun _ => rfl
  · exact h.of_outer (Station.takeCheckout_outer _ _ _ _ _ _ _)
  · exact h.of_outer (Station.takeCheckin_outer _ _ _ _ _ _)
  · exact h.of_outer (Station.takeCancel_outer _ _ _ _)
  · exact h.of_outer (Station.takeHoldSet_outer _ _ _ _ _ _ _)
  · exact h.of_outer (Station.takeInspectClear_outer _ _ _ _)
  · exact h.of_outer (Station.takeAudit_outer _ _ _ _ _)
  · exact h.takeRestore _ _
  · exact h.takeOccupancyClear _ _
  · exact h.of_outer (Station.takeQuery_outer _ _ _ _)
  · exact h.takeRestart _ _

theorem receive (bs : List Byte) : a.Follows (b.receive bs) := by
  unfold Station.receive
  split
  · exact h
  · split
    · exact h.of_outer (Station.onLine_outer b _)
    · split
      · exact h
      · unfold Station.filter
        split
        · exact h.enterClash
        · split
          · exact h
          · dsimp only
            split
            · exact h.of_outer (Station.hear_outer b _)
            · exact (h.of_outer (Station.hear_outer b _)).deliver _

/-! #### Entry into LISTEN and JOINED -/

theorem enterJoined : a.Follows b.enterJoined := by
  have joined : a.Follows (b.onLoader fun l =>
      { l with state := .joined, listenTimer := none, joinedFor := 0 }) :=
    ⟨h.cfg, .inr trivial, h.drive, h.onTimes⟩
  exact joined.of_outer
    (by simp [Station.enterJoined, Station.foldl_outer _ fun s e => s.rejoinXfer_outer e])

end Station.Follows
end Sys2Proof
end

section
/-! SUPPORT. Every command by its effect on the motion channel and the on-times, and the laws that every step
keeps (O57, O59, O60). -/

namespace Sys2Proof

/-! ### A start's way to LISTEN (R39, R186, R187) -/

theorem Station.emptyRetained_works (st : Station) : st.emptyRetained.works = st.works := by
  simp [Station.emptyRetained, Station.works, Station.cfg, Station.setPulls, Station.setXfers,
    Station.setCustody, Station.setExpected, Station.setOccupancy]

/-- The part of a start's works that SELFTEST leaves alone. -/
theorem Station.settleRetention_works (st : Station) : st.settleRetention.works = st.works := by
  have emptied : (if st.retentionLost then st.emptyRetained else st).works = st.works := by
    split
    · exact st.emptyRetained_works
    · rfl
  unfold Station.settleRetention
  dsimp only
  refine Eq.trans (Station.works_of_outer ?_) emptied
  exact (Station.onlyIf_outer _ fun s => s.startBay_outer).trans (Station.startLists_outer _)

/-- A start's entry into LISTEN up to the motion channel, which begins last. -/
def Station.unitsBegun (st : Station) : Station :=
  let st := st.onLoader fun l =>
    { l with state := .listen, listenTimer := some (ticksOfSec (3 * st.cfg.beacon)) }
  let st := (st.onDet Detection.beginScan).onSupp fun s =>
    { s with holdFilter := filterSwitch none s.holdClosed st.pins.holdInput }
  (st.onlyIf (decide (st.cfg.role = .bay)) Station.listenBay).listenXfers

theorem Station.enterListen_eq (st : Station) : st.enterListen = st.unitsBegun.listenMotion := rfl

theorem Station.listenBay_motion (st : Station) : st.listenBay.motion = st.motion := rfl

theorem Station.unitsBegun_motion (st : Station) : st.unitsBegun.motion = st.motion :=
  (Station.motion_of_outer (Station.listenXfers_outer _)).trans
    (Station.onlyIf_keeps (P := fun s => s.motion = st.motion) rfl fun h =>
      (Station.listenBay_motion _).trans h)

theorem Station.Follows.listenBay {a b : Station} (h : a.Follows b) : a.Follows b.listenBay := by
  have slot : a.Follows (b.onMoist Moisture.beginSlot) := h.of_works rfl
  exact slot.periodStart.of_outer rfl

theorem Station.Follows.unitsBegun (a : Station) : a.Follows a.unitsBegun := by
  have listening : a.Follows (((a.onLoader fun l =>
      { l with state := .listen, listenTimer := some (ticksOfSec (3 * a.cfg.beacon)) }).onDet
        Detection.beginScan).onSupp fun s =>
      { s with holdFilter := filterSwitch none s.holdClosed a.pins.holdInput }) :=
    ⟨rfl, .inr trivial, id, id⟩
  exact (listening.onlyIf fun h => h.listenBay).of_outer (Station.listenXfers_outer _)

/-- The channel takes its state from the switches and its first command; with both coils off it begins
lawful (R39). -/
theorem Station.listenMotion_lawful {st : Station} (ha : st.motion.coilA = false)
    (hb : st.motion.coilB = false) : st.listenMotion.motion.Lawful := by
  have read : Motion.Lawful { st.motion with state := st.motionFromSwitches } :=
    Motion.lawful_of_off ha hb
  have begun := Station.Follows.refl (st.onMotion fun m => { m with state := st.motionFromSwitches })
  exact (begun.command _).reported.drive read

theorem Station.listenMotion_works (st : Station) :
    st.listenMotion.cfg = st.cfg ∧
    (st.loader.state.fielded → st.listenMotion.loader.state.fielded) ∧
    (st.works.OnTimes → st.listenMotion.works.OnTimes) := by
  have begun := Station.Follows.refl (st.onMotion fun m => { m with state := st.motionFromSwitches })
  obtain ⟨cfg, state, -, onTimes⟩ := (begun.command (match st.cfg.role with
    | .bay => if st.air.forcedSafe then .b else .a
    | .hatch => .b)).reported
  exact ⟨cfg, fun h => state.elim (fun same => same ▸ h) id, onTimes⟩

/-! ### The effect of every command -/

/-- What a command can do to the works of a station: nothing; the field work of a running station; a start;
the outputs held off; the dead time's end; in LOADING the image read; in SELFTEST a FAULT, or the entry into
LISTEN. -/
inductive Station.Effect (a b : Station) : Prop where
  | same (h : b.works = a.works)
  | field (hr : a.running = true) (h : a.Follows b)
  | start (x : Station) (k : StartKind) (h : b = x.beginStart k)
  | off (h : b.works = { a.works with motion := a.motion.coilsOff })
  | deadTime (h : b = Station.reported a.deadExpired)
  | image (hs : a.loader.state = .loading) (hb : b.loader.state = .selftest ∨ b.loader.state = .fault)
      (hm : b.motion = a.motion) (ha : b.air = a.air)
  | fault (hs : a.loader.state = .selftest) (n : Nat) (h : b = a.fault n)
  | listen (hs : a.loader.state = .selftest) (x : Station) (hx : x.works = a.works)
      (h : b = x.enterListen)

namespace Station.Effect

variable {a b : Station}

/-- A command whose guard lets a running station alone act. -/
theorem guarded {c : Bool} {f : Station → Station} (hb : b.works = a.works)
    (hc : c = true → a.running = true) (hf : a.Follows b → a.Follows (f b)) :
    a.Effect (b.onlyIf c f) := by
  cases hg : c
  · exact .same hb
  · exact .field (hc hg) (hf ((Station.Follows.refl a).of_works hb))

theorem onlyIf {c : Bool} {f : Station → Station} (hf : c = true → a.Effect (f a)) :
    a.Effect (a.onlyIf c f) := by
  cases hg : c
  · exact .same rfl
  · exact hf hg

/-- A message acts where the units run alone (R176). -/
theorem fromPeer (src : Addr) {f : Station → Station} (hf : a.Follows a → a.Follows (f a)) :
    a.Effect (Station.fromPeer src f a) := by
  cases hr : a.running
  · exact .same (congrArg Station.works (Station.onlyIf_of_false _ hr))
  · exact .field hr ((Station.Follows.refl a).fromPeer src hf)

theorem fromConsole (src : Addr) {f : Station → Station} (hf : a.Follows a → a.Follows (f a)) :
    a.Effect (Station.fromConsole src f a) := by
  cases hr : a.running
  · exact .same (congrArg Station.works (Station.onlyIf_of_false _ hr))
  · exact .field hr ((Station.Follows.refl a).fromConsole src hf)

theorem transfer (src : Addr) {f : Station → Station} (hf : ∀ s : Station, (f s).outer = s.outer) :
    a.Effect (Station.fromPeer src (Station.refreshed src f) a) :=
  fromPeer src fun h => h.refreshed src hf

theorem request (src : Addr) {f : Station → Station} (hf : ∀ s : Station, (f s).outer = s.outer) :
    a.Effect (Station.fromConsole src f a) :=
  fromConsole src fun h => h.of_outer (hf a)

theorem imageRead (hs : a.loader.state = .loading) (straps : BitVec 5) (r : ImageRead) :
    a.Effect (a.imageRead straps r) := by
  unfold Station.imageRead
  split
  · exact .image hs (.inr rfl) rfl rfl
  · split
    · exact .image hs (.inr rfl) rfl rfl
    · split
      · exact .image hs (.inr rfl) rfl rfl
      · split
        · exact .image hs (.inr rfl) rfl rfl
        · exact .image hs (.inl rfl) rfl rfl

theorem selftested (hs : a.loader.state = .selftest) (ok : Bool) : a.Effect (a.selftested ok) := by
  cases ok
  · exact .fault hs 4 rfl
  · exact .listen hs _ a.settleRetention_works rfl

theorem transmitted : a.Effect a.transmitted := by
  unfold Station.transmitted
  split
  · split
    · exact .start _ _ rfl
    · exact .same (Station.works_of_outer (by simp))
  · exact .same rfl
  · exact .same rfl

theorem releaseReset : a.Effect a.releaseReset := by
  cases hp : a.loader.powered
  · rw [Station.releaseReset_unpowered hp]
    exact .same rfl
  · exact .start _ _ (Station.releaseReset_powered hp)

end Station.Effect

theorem Station.running_of_joined {st : Station} (h : st.joined = true) : st.running = true := by
  obtain ⟨live, state⟩ := Bool.and_eq_true_iff.mp h
  simp [Station.running, live, of_decide_eq_true state]

theorem Station.running_of_hatchUnit {st : Station} (h : st.hatchUnit = true) : st.running = true :=
  (Bool.and_eq_true_iff.mp h).1

theorem Station.running_of_listen {st : Station}
    (h : (st.live && decide (st.loader.state = .listen)) = true) : st.running = true := by
  obtain ⟨live, state⟩ := Bool.and_eq_true_iff.mp h
  simp [Station.running, live, of_decide_eq_true state]

theorem Station.running_of_and {st : Station} {c : Bool} {p : Bool} (hp : p = true → st.running = true)
    (h : (p && c) = true) : st.running = true := hp (Bool.and_eq_true_iff.mp h).1


/-- Every command answers a next state, by one of the effects. -/
theorem exec_effect (c : Instr) (s : Machine.State) :
    ∃ st : Station, Machine.exec c s = .next (s.put st) ∧ s.station.Effect st := by
  cases c with
  | powerUp decay => exact ⟨_, rfl, .start _ _ rfl⟩
  | resetLineAssert => exact ⟨_, rfl, .off rfl⟩
  | resetLineRelease => exact ⟨_, rfl, .releaseReset⟩
  | powerLoss => exact ⟨_, rfl, .off rfl⟩
  | imageReadComplete straps read =>
    exact ⟨_, rfl, .onlyIf fun hg =>
      .imageRead (of_decide_eq_true (Bool.and_eq_true_iff.mp hg).2) straps read⟩
  | selftestComplete ok =>
    exact ⟨_, rfl, .onlyIf fun hg => .selftested (of_decide_eq_true (Bool.and_eq_true_iff.mp hg).2) ok⟩
  | listenEnd => exact ⟨_, rfl, .guarded rfl Station.running_of_listen fun h => h.enterJoined⟩
  | restart src seq => exact ⟨_, rfl, .fromConsole src fun h => h.takeRestart src seq⟩
  | restartTimerExpiry => exact ⟨_, rfl, .onlyIf fun _ => .start _ _ rfl⟩
  | restartStart => exact ⟨_, rfl, .onlyIf fun _ => .start _ _ rfl⟩
  | measurementSlot =>
    exact ⟨_, rfl, .guarded rfl Station.running_of_bay fun h => h.of_works rfl⟩
  | captureComplete event =>
    cases event with
    | level count => exact ⟨_, rfl, .same rfl⟩
    | complete count =>
      exact ⟨_, rfl, .guarded rfl Station.running_of_bay fun h =>
        (h.of_works (c := Station.onMoist _ _) rfl).computeDemand⟩
  | excursionDelayExpiry =>
    exact ⟨_, rfl, .guarded rfl Station.running_of_bay fun h => h.of_works rfl⟩
  | adcScan => exact ⟨_, rfl, .guarded rfl id fun h => h.of_works rfl⟩
  | loopSample n event =>
    cases event with
    | level code => exact ⟨_, rfl, .same (by cases n using Fin.cases <;> rfl)⟩
    | sample code =>
      exact ⟨_, rfl, .guarded rfl id fun h => (h.of_works (c := Station.onDet _ _) rfl).loopSampled n code⟩
  | temperatureCode event =>
    cases event with
    | level code => exact ⟨_, rfl, .same rfl⟩
    | sample code =>
      exact ⟨_, rfl, .guarded rfl id fun h =>
        (h.of_works (c := Station.onDet _ _) rfl).onlyIf fun h => h.of_works rfl⟩
  | batteryCode event =>
    cases event with
    | level code => exact ⟨_, rfl, .same rfl⟩
    | sample code => exact ⟨_, rfl, .guarded rfl id fun h => h.of_works rfl⟩
  | valvePeriodExpiry =>
    exact ⟨_, rfl, .guarded rfl (Station.running_of_and Station.running_of_bay) fun h => h.periodStart⟩
  | onTimeExpiry => exact ⟨_, rfl, .guarded rfl Station.running_of_bay fun h => h.onTimeExpired⟩
  | neighbourSealExpiry => exact ⟨_, rfl, .guarded rfl Station.running_of_bay fun h => h.sealExpired⟩
  | deadTimeExpiry => exact ⟨_, rfl, .onlyIf fun _ => .deadTime rfl⟩
  | travelExpiry => exact ⟨_, rfl, .guarded rfl id fun h => h.travelExpired⟩
  | endSwitchClose sw =>
    refine ⟨_, rfl, .guarded rfl id fun h => ?_⟩
    split
    · exact h.arrivalComes .a
    · exact h.arrivalComes .b
    · exact h.innerEndClosed
    · exact h
  | endSwitchOpen sw =>
    refine ⟨_, rfl, .guarded rfl id fun h => ?_⟩
    split
    · exact h.loadLeaves _
    · exact h
  | holdSwitchChange event =>
    cases event with
    | level closed => exact ⟨_, rfl, .guarded rfl id fun h => h.onSupp _⟩
    | filtered closed => exact ⟨_, rfl, .guarded rfl id fun h => h.holdSwitch closed⟩
  | evacuationExpiry => exact ⟨_, rfl, .guarded rfl id fun h => h.evacuationExpired⟩
  | countdownExpiry => exact ⟨_, rfl, .guarded rfl id fun h => h.countdownExpired⟩
  | releasePulseExpiry => exact ⟨_, rfl, .guarded rfl id fun h => h.pulseExpired⟩
  | soakExpiry => exact ⟨_, rfl, .guarded rfl id fun h => h.soakExpired⟩
  | restore src seq => exact ⟨_, rfl, .fromConsole src fun h => h.takeRestore src seq⟩
  | attendantRead cls number =>
    exact ⟨_, rfl, .guarded rfl (Station.running_of_and Station.running_of_bay) fun h =>
      h.badgeRead number⟩
  | doorUnlockExpiry => exact ⟨_, rfl, .guarded rfl Station.running_of_bay fun h => h.of_works rfl⟩
  | occupancyClear src seq =>
    exact ⟨_, rfl, .fromConsole src fun h => h.takeOccupancyClear src seq⟩
  | presenceScan event =>
    cases event with
    | level readings => exact ⟨_, rfl, .same rfl⟩
    | scan readings =>
      refine ⟨_, rfl, .guarded rfl Station.running_of_bay fun h => ?_⟩
      refine Station.Follows.of_outer ?_ (Station.presenceScanned_outer _ _)
      exact h.of_works rfl
  | minuteTimerExpiry =>
    exact ⟨_, rfl, .guarded rfl Station.running_of_bay fun h => h.of_outer (Station.minuteExpired_outer _)⟩
  | keySwitchChange event =>
    cases event with
    | level on => exact ⟨_, rfl, .guarded rfl Station.running_of_bay fun h => h.of_works rfl⟩
    | filtered on => exact ⟨_, rfl, .guarded rfl Station.running_of_bay fun h => h.of_works rfl⟩
  | holdSet src seq e d c m => exact ⟨_, rfl, .request src fun s => s.takeHoldSet_outer _ _ _ _ _ _⟩
  | inspectClear src seq n => exact ⟨_, rfl, .request src fun s => s.takeInspectClear_outer _ _ _⟩
  | querySlot src seq n => exact ⟨_, rfl, .request src fun s => s.takeQuerySlot_outer _ _ _⟩
  | queryCartridge src seq c => exact ⟨_, rfl, .request src fun s => s.takeQueryCartridge_outer _ _ _⟩
  | queryTransfer src seq t => exact ⟨_, rfl, .request src fun s => s.takeQueryTransfer_outer _ _ _⟩
  | checkout src seq all c j d => exact ⟨_, rfl, .request src fun s => s.takeCheckout_outer _ _ _ _ _ _⟩
  | cancel src seq c => exact ⟨_, rfl, .request src fun s => s.takeCancel_outer _ _ _⟩
  | checkStationScan cls n =>
    exact ⟨_, rfl, .guarded rfl
      (Station.running_of_and (Station.running_of_and Station.running_of_bay)) fun h =>
        h.of_outer (Station.checkStation_outer _ _)⟩
  | audit src seq f l => exact ⟨_, rfl, .request src fun s => s.takeAudit_outer _ _ _ _⟩
  | auditStepExpiry =>
    exact ⟨_, rfl, .guarded rfl (Station.running_of_and Station.running_of_bay) fun h =>
      h.of_outer (Station.auditAbort_outer _)⟩
  | offer src t c j d => exact ⟨_, rfl, .transfer src fun s => s.takeOffer_outer _ _ _ _ _⟩
  | accept src t n => exact ⟨_, rfl, .transfer src fun s => s.takeAccept_outer _ _ _⟩
  | refuse src t r => exact ⟨_, rfl, .transfer src fun s => s.takeRefuse_outer _ _ _⟩
  | arrive src t => exact ⟨_, rfl, .transfer src fun s => s.takeArrive_outer _ _⟩
  | close src t c j => exact ⟨_, rfl, .transfer src fun s => s.takeClose_outer _ _ _ _⟩
  | withdraw src t => exact ⟨_, rfl, .transfer src fun s => s.takeWithdraw_outer _ _⟩
  | claim src c => exact ⟨_, rfl, .transfer src fun s => s.takeClaim_outer _ _⟩
  | replyTimerExpiry t =>
    exact ⟨_, rfl, .guarded rfl id fun h => h.of_outer (Station.replyExpired_outer _ _)⟩
  | transitExpiry t =>
    exact ⟨_, rfl, .guarded rfl id fun h => h.of_outer (Station.transitExpired_outer _ _)⟩
  | claimTimerExpiry c =>
    exact ⟨_, rfl, .guarded rfl id fun h => h.of_outer (Station.claimExpired_outer _ _)⟩
  | checkin src seq j c d => exact ⟨_, rfl, .request src fun s => s.takeCheckin_outer _ _ _ _ _⟩
  | innerRead cls n =>
    exact ⟨_, rfl, .guarded rfl
      (Station.running_of_and (Station.running_of_and Station.running_of_hatchUnit)) fun h =>
        h.of_outer (Station.innerScan_outer _ _)⟩
  | courierRead n =>
    exact ⟨_, rfl, .guarded rfl (Station.running_of_and Station.running_of_hatchUnit) fun h =>
      h.courierCard n⟩
  | outerCartridgeRead c =>
    exact ⟨_, rfl, .guarded rfl (Station.running_of_and Station.running_of_hatchUnit) fun h =>
      h.outerScan c⟩
  | sendPress event =>
    cases event with
    | level down => exact ⟨_, rfl, .guarded rfl Station.running_of_hatchUnit fun h => h.of_works rfl⟩
    | press =>
      refine ⟨_, rfl, .guarded rfl Station.running_of_hatchUnit fun h => ?_⟩
      exact (h.of_works (c := Station.onHatch (Station.onPins _ _) _) rfl).sendPressed
  | donePress event =>
    cases event with
    | level down => exact ⟨_, rfl, .guarded rfl Station.running_of_hatchUnit fun h => h.of_works rfl⟩
    | press =>
      refine ⟨_, rfl, .guarded rfl Station.running_of_hatchUnit fun h => ?_⟩
      exact (h.of_works (c := Station.onHatch (Station.onPins _ _) _) rfl).donePressed
  | sessionTimerExpiry =>
    exact ⟨_, rfl, .guarded rfl Station.running_of_hatchUnit fun h => h.sessionExpired⟩
  | encoderTransition x y =>
    exact ⟨_, rfl, .guarded rfl Station.running_of_hatchUnit fun h => h.encoderChanged x y⟩
  | flapChange f o =>
    exact ⟨_, rfl, .guarded rfl Station.running_of_hatchUnit fun h => h.flapChanged o⟩
  | status src b => exact ⟨_, rfl, .fromPeer src fun h => h.takeStatus src b⟩
  | fireReport src b => exact ⟨_, rfl, .fromPeer src fun h => h.takeFireReport src b⟩
  | discharge src x => exact ⟨_, rfl, .fromPeer src fun h => h.takeDischarge src x⟩
  | custodyAlert src b => exact ⟨_, rfl, .transfer src fun _ => rfl⟩
  | handover src b => exact ⟨_, rfl, .transfer src fun _ => rfl⟩
  | peerSilent a => exact ⟨_, rfl, .guarded rfl id fun h => h.modifyPeer _ _⟩
  | peerLost a => exact ⟨_, rfl, .guarded rfl id fun h => h.modifyPeer _ _⟩
  | frameReceive bs => exact ⟨_, rfl, .guarded rfl id fun h => h.receive bs⟩
  | beaconExpiry =>
    exact ⟨_, rfl, .guarded rfl Station.running_of_joined fun h => h.of_outer (Station.beaconExpired_outer _)⟩
  | lineFaultExpiry =>
    exact ⟨_, rfl, .guarded rfl Station.running_of_joined fun h =>
      h.of_outer (Station.lineFaultExpired_outer _)⟩
  | lineIdle =>
    refine ⟨_, rfl, .same (Station.works_of_outer ?_)⟩
    exact Station.onlyIf_outer _ fun s => s.lineBecomesIdle_outer
  | accessDelayExpiry =>
    exact ⟨_, rfl, .guarded rfl Station.running_of_joined fun h => h.of_outer (Station.onLine_outer _ _)⟩
  | characterDuringWait =>
    refine ⟨_, rfl, .same (Station.works_of_outer ?_)⟩
    exact Station.onlyIf_outer _ fun s => s.onLine_outer _
  | transmitSuccess => exact ⟨_, rfl, .onlyIf fun _ => .transmitted⟩
  | readbackFailure =>
    exact ⟨_, rfl, .guarded rfl Station.running_of_joined fun h => h.of_outer (Station.onLine_outer _ _)⟩


/-! ### What the channel's reports leave alone -/

/-- Of the outer blocks only the motion channel has changed. -/
def Station.DrivesOnly (a b : Station) : Prop := ∃ m : Motion, b.outer = { a.outer with motion := m }

theorem Station.DrivesOnly.refl (a : Station) : a.DrivesOnly a := ⟨a.motion, rfl⟩

namespace Station.DrivesOnly

variable {a b c : Station} (h : a.DrivesOnly b)
include h

theorem loader : b.loader = a.loader := h.elim fun _ e => congrArg Outer.loader e
theorem moist : b.moist = a.moist := h.elim fun _ e => congrArg Outer.moist e
theorem air : b.air = a.air := h.elim fun _ e => congrArg Outer.air e
theorem det : b.det = a.det := h.elim fun _ e => congrArg Outer.det e
theorem supp : b.supp = a.supp := h.elim fun _ e => congrArg Outer.supp e
theorem door : b.door = a.door := h.elim fun _ e => congrArg Outer.door e
theorem peers : b.peers = a.peers := h.elim fun _ e => congrArg Outer.peers e

theorem of_outer (e : c.outer = b.outer) : a.DrivesOnly c := h.elim fun m hm => ⟨m, e.trans hm⟩

theorem of_motion (e : c = { b with motion := c.motion }) : a.DrivesOnly c := by
  obtain ⟨m, hm⟩ := h
  refine ⟨c.motion, ?_⟩
  rw [e]
  exact congrArg (fun o : Outer => { o with motion := c.motion }) hm

theorem command (e : MotionEnd) : a.DrivesOnly (b.command e).1 := h.of_motion (b.command_motion e)

theorem bringIn : a.DrivesOnly b.bringIn :=
  ((h.of_outer (Station.onSession_outer b _)).command .b).of_outer (Station.settleSession_outer _)

theorem abortSession (r : AbortReason) : a.DrivesOnly (b.abortSession r) :=
  Station.onlyIf_keeps h fun h => (h.of_outer (by simp)).bringIn

theorem hatchReport (r : Report) : a.DrivesOnly (b.hatchReport r) := by
  unfold Station.hatchReport
  split
  · exact Station.onlyIf_keeps h fun h => h.of_outer (by simp)
  · split
    · exact h.of_outer (by simp)
    · exact h.of_outer (by simp)
  · exact h.abortSession _

omit h in
theorem reported {p : Station × Option Report} (h : a.DrivesOnly p.1) :
    a.DrivesOnly (Station.reported p) := by
  unfold Station.reported
  split
  · exact h.hatchReport _
  · exact h
  · exact h

theorem deadExpired : a.DrivesOnly (Station.reported b.deadExpired) :=
  (h.of_motion b.deadExpired_motion).reported

end Station.DrivesOnly

/-! ### The laws of a step -/

theorem StartState.not_fielded (x : StartState) :
    ¬ x.fielded ↔ x = .loading ∨ x = .selftest ∨ x = .fault := by
  cases x <;> simp [StartState.fielded]

/-- The laws of O57 in terms of the channel's own. -/
theorem Station.driveLawful_iff (st : Station) :
    st.DriveLawful ↔ st.motion.Lawful ∧
      (¬ st.loader.state.fielded → ∀ e, st.motion.state ≠ .moving e) := by
  rw [StartState.not_fielded]
  exact ⟨fun h => ⟨⟨h.towardA, h.towardB, h.deadTime⟩, h.atRest⟩,
    fun h => ⟨h.1.towardA, h.1.towardB, h.1.deadTime, h.2⟩⟩

/-- The laws of O59 in terms of the works. -/
theorem Station.stageLawful_iff (st : Station) :
    st.StageLawful ↔ st.works.OnTimes ∧
      (st.loader.state = .loading → st.air.staged = 0 ∧ st.air.applied = 0) :=
  ⟨fun h => ⟨⟨h.staged, h.applied⟩, h.loading⟩, fun h => ⟨h.1.1, h.1.2, h.2⟩⟩

/-- Both laws speak of the works alone. -/
theorem Station.driveLawful_of_works {a b : Station} (h : b.works = a.works) (ha : a.DriveLawful) :
    b.DriveLawful := by
  have state : b.loader.state = a.loader.state := congrArg Works.state h
  have motion : b.motion = a.motion := congrArg Works.motion h
  rw [Station.driveLawful_iff, state, motion]
  exact a.driveLawful_iff.mp ha

theorem Station.stageLawful_of_works {a b : Station} (state : b.loader.state = a.loader.state)
    (cfg : b.cfg = a.cfg) (staged : b.air.staged = a.air.staged)
    (applied : b.air.applied = a.air.applied) (ha : a.StageLawful) : b.StageLawful := by
  refine ⟨?_, ?_, ?_⟩
  · rw [cfg, staged]
    exact ha.staged
  · rw [cfg, applied]
    exact ha.applied
  · rw [state, staged, applied]
    exact ha.loading

theorem Station.driveLawful_of_fielded {st : Station} (hs : st.loader.state.fielded)
    (hm : st.motion.Lawful) : st.DriveLawful :=
  st.driveLawful_iff.mpr ⟨hm, fun h => absurd hs h⟩

theorem Station.stageLawful_of_fielded {st : Station} (hs : st.loader.state.fielded)
    (ht : st.works.OnTimes) : st.StageLawful :=
  st.stageLawful_iff.mpr ⟨ht, fun h => absurd hs (by simp [h, StartState.fielded])⟩

theorem Station.Follows.fielded {a b : Station} (h : a.Follows b) (ha : a.loader.state.fielded) :
    b.loader.state.fielded := h.state.elim (fun same => same ▸ ha) id

theorem Station.motionFromSwitches_rests (st : Station) (e : MotionEnd) :
    st.motionFromSwitches ≠ .moving e := by
  unfold Station.motionFromSwitches
  split
  · split
    · simp
    · split <;> simp
  · split <;> simp

theorem Station.beginStart_driveLawful (st : Station) (k : StartKind) : (st.beginStart k).DriveLawful := by
  rw [Station.driveLawful_iff, Station.beginStart_eq]
  exact ⟨Motion.lawful_of_off rfl rfl, fun _ => st.motionFromSwitches_rests⟩

theorem Station.beginStart_stageLawful (st : Station) (k : StartKind) : (st.beginStart k).StageLawful :=
  ⟨.inl rfl, .inl rfl, fun _ => ⟨rfl, rfl⟩⟩

/-- With no drive pending the dead time's end is the timer's alone (R31). -/
theorem Station.deadExpired_of_rest {st : Station} (h : st.motion.pending = none) :
    st.deadExpired = (st.onMotion fun m => { m with dead := none }, none) := by
  have stays : Motion.pending { st.motion with dead := none } = none := h
  unfold Station.deadExpired
  split
  · simp only [Station.onMotion_motion, stays]
  · next hd =>
    have stopped : st.motion.dead = none := by simpa using hd
    have same : (st.onMotion fun m => { m with dead := none }) = st := by
      simp only [Station.onMotion, ← stopped]
    rw [same]

theorem Station.unitsBegun_state (st : Station) : st.unitsBegun.loader.state = .listen := by
  have begun : st.unitsBegun.loader.state = (Station.onlyIf _ _ _).loader.state :=
    congrArg Loader.state (Station.loader_of_outer (Station.listenXfers_outer _))
  exact begun.trans (Station.onlyIf_keeps (P := fun x => x.loader.state = .listen) rfl id)

theorem Station.Effect.listen_fielded {a x : Station} (hx : x.works = a.works) :
    x.enterListen.loader.state.fielded ∧ (a.works.OnTimes → x.enterListen.works.OnTimes) := by
  obtain ⟨-, state, onTimes⟩ := x.unitsBegun.listenMotion_works
  have begun := Station.Follows.unitsBegun x
  exact ⟨state (by simp [Station.unitsBegun_state, StartState.fielded]),
    fun h => onTimes (begun.onTimes (by rwa [hx]))⟩

/-- Every command keeps the laws of the motion channel. -/
theorem Station.Effect.driveLawful {a b : Station} (h : a.Effect b) (ha : a.DriveLawful) :
    b.DriveLawful := by
  obtain ⟨lawful, rests⟩ := a.driveLawful_iff.mp ha
  cases h with
  | same h => exact Station.driveLawful_of_works h ha
  | field hr h =>
    exact Station.driveLawful_of_fielded (h.fielded (Station.fielded_of_running hr)) (h.drive lawful)
  | start x k h =>
    rw [h]
    exact x.beginStart_driveLawful k
  | off h =>
    have state : b.loader.state = a.loader.state := congrArg Works.state h
    have motion : b.motion = a.motion.coilsOff := congrArg Works.motion h
    rw [Station.driveLawful_iff, state, motion]
    exact ⟨Motion.coilsOff_lawful _, rests⟩
  | deadTime h =>
    rw [h]
    by_cases hs : a.loader.state.fielded
    · have done := (Station.Follows.refl a).deadExpired
      exact Station.driveLawful_of_fielded (done.fielded hs) (done.drive lawful)
    · have still : a.motion.pending = none := by
        cases hp : a.motion.pending with
        | none => rfl
        | some e => exact absurd (Motion.pending_eq_some hp) (rests hs e)
      obtain ⟨offA, offB⟩ := lawful.off_at_rest (rests hs)
      rw [Station.deadExpired_of_rest still, Station.driveLawful_iff]
      exact ⟨Motion.lawful_of_off offA offB, rests⟩
  | image hs hb hm _ =>
    rw [Station.driveLawful_iff, hm]
    exact ⟨lawful, fun _ => rests (by simp [hs, StartState.fielded])⟩
  | fault hs n h =>
    rw [h, Station.driveLawful_iff]
    exact ⟨lawful, fun _ => rests (by simp [hs, StartState.fielded])⟩
  | listen hs x hx h =>
    have motion : x.unitsBegun.motion = a.motion :=
      x.unitsBegun_motion.trans (congrArg Works.motion hx)
    obtain ⟨offA, offB⟩ := lawful.off_at_rest (rests (by simp [hs, StartState.fielded]))
    rw [h]
    refine Station.driveLawful_of_fielded (Station.Effect.listen_fielded hx).1 ?_
    rw [Station.enterListen_eq]
    exact Station.listenMotion_lawful (by rw [motion, offA]) (by rw [motion, offB])

/-- Every command keeps the laws of the on-times. -/
theorem Station.Effect.stageLawful {a b : Station} (h : a.Effect b) (ha : a.StageLawful) :
    b.StageLawful := by
  obtain ⟨onTimes, loading⟩ := a.stageLawful_iff.mp ha
  cases h with
  | same h =>
    exact Station.stageLawful_of_works (congrArg Works.state h) (congrArg Works.cfg h)
      (congrArg Works.staged h) (congrArg Works.applied h) ha
  | field hr h =>
    exact Station.stageLawful_of_fielded (h.fielded (Station.fielded_of_running hr)) (h.onTimes onTimes)
  | start x k h =>
    rw [h]
    exact x.beginStart_stageLawful k
  | off h =>
    exact Station.stageLawful_of_works (congrArg Works.state h) (congrArg Works.cfg h)
      (congrArg Works.staged h) (congrArg Works.applied h) ha
  | deadTime h =>
    rw [h]
    have kept := (Station.DrivesOnly.refl a).deadExpired
    exact Station.stageLawful_of_works (by rw [kept.loader])
      (by rw [Station.cfg, Station.cfg, kept.loader]) (by rw [kept.air]) (by rw [kept.air]) ha
  | image hs hb _ hair =>
    obtain ⟨staged, applied⟩ := loading hs
    rw [Station.stageLawful_iff, hair]
    refine ⟨⟨.inl ?_, .inl ?_⟩, fun _ => ⟨staged, applied⟩⟩
    · exact (congrArg DryAir.staged hair).trans staged
    · exact (congrArg DryAir.applied hair).trans applied
  | fault hs n h =>
    rw [h]
    exact ⟨onTimes.1, onTimes.2, fun hl => by simp [Station.fault] at hl⟩
  | listen hs x hx h =>
    obtain ⟨fielded, kept⟩ := Station.Effect.listen_fielded hx
    rw [h]
    exact Station.stageLawful_of_fielded fielded (kept onTimes)

/-! ### Time passing -/

theorem Station.tick_driveLawful {st : Station} (h : st.DriveLawful) : st.tick.DriveLawful where
  towardA := h.towardA
  towardB := h.towardB
  deadTime hc := by
    change Timer.tick st.motion.dead = none
    rw [h.deadTime hc]
    rfl
  atRest := h.atRest

theorem Station.tick_stageLawful {st : Station} (h : st.StageLawful) : st.tick.StageLawful :=
  Station.stageLawful_of_works (a := st) rfl rfl rfl rfl h

/-- A law of the station that every command and a tick keep is kept by every step. -/
theorem step_keeps {P : Station → Prop} (command : ∀ a b : Station, a.Effect b → P a → P b)
    (tick : ∀ st : Station, P st → P st.tick) {s t : Machine.State} (h : Machine.step s = .next t)
    (hs : P s.station) : P t.station := by
  unfold Machine.step at h
  split at h
  · next c rest hp =>
    obtain ⟨st, hn, effect⟩ := exec_effect c { s with pending := rest }
    rw [hn] at h
    cases h
    exact command _ _ effect hs
  · cases h
    unfold Machine.State.idle
    split
    · split
      · exact hs
      · exact tick _ hs
    · exact hs

/-- Settles O57: each command by its effect, a tick by itself; two coils on at once would be two moving
states. -/
theorem driveStaysLawful : Obligations.DriveStaysLawful := by
  refine ⟨fun s t hs h => step_keeps (fun _ _ e => e.driveLawful) (fun _ => Station.tick_driveLawful) h hs,
    fun st h both => ?_⟩
  have moving := (h.towardA both.1).symm.trans (h.towardB both.2)
  simp at moving

/-- Settles O59: each command by its effect, a tick by itself. -/
theorem onTimesStayLawful : Obligations.OnTimesStayLawful := fun _ _ hs h =>
  step_keeps (fun _ _ e => e.stageLawful) (fun _ => Station.tick_stageLawful) h hs

/-- No record of a part never used before holds a cartridge id (log entry 5). -/
theorem Station.reset_slot_cart {n : Nat} {sl : Slot} (h : Station.reset.table.slots[n]? = some sl) :
    sl.record.cart = none := by
  have blank : sl = .blank := List.eq_of_mem_replicate (List.mem_of_getElem? h)
  rw [blank]
  rfl

/-- Settles O60: at reset the coils, the stage and the outputs are off and every collection is empty. -/
theorem resetIsLawful : Obligations.ResetIsLawful := by
  have drive : Station.reset.DriveLawful :=
    (Station.driveLawful_iff _).mpr ⟨Motion.lawful_of_off rfl rfl, fun _ e he => by cases he⟩
  have release : Station.reset.releaseLawful := fun h => by cases h
  have transfers : Station.reset.TransfersLawful :=
    ⟨Nat.zero_le _, .nil, .nil, Nat.zero_le _, .nil, fun e he => by cases he⟩
  have ids : Station.reset.idsUnique := fun m n a b c d ha _ _ _ hc _ _ => by
    rw [Station.reset_slot_cart ha] at hc
    cases hc
  exact ⟨drive, release, Nat.zero_le _, ⟨Nat.zero_le _, .nil⟩, Nat.zero_le _,
    ⟨.inl rfl, .inl rfl, fun _ => ⟨rfl, rfl⟩⟩, transfers, ids, rfl, rfl, rfl⟩

end Sys2Proof
end

section
/-! SUPPORT. The dry-air unit (sections 2.1 to 2.4): the demand of a measurement with its share and on-time,
the valve's period, and the forced-safe condition under a neighbour's seal. -/

namespace Sys2Proof

/-- One outcome for equal stations. -/
theorem Machine.State.next_put (s : Machine.State) {a b : Station} (h : a = b) :
    (Host.Outcome.next (s.put a) : Host.Outcome Machine.State Machine.Fault Machine.Refusal)
      = .next (s.put b) := congrArg (fun st => Host.Outcome.next (s.put st)) h

/-! ### Demand, share and on-time (R20 to R24) -/

section
variable {c : ConfigRecord} {m : Moisture}

theorem demandOf_sensorFault (h : m.status = .sensorFault) : demandOf c m = c.fallbackDemand :=
  if_pos h

theorem demandOf_unmeasured (h : m.status ≠ .sensorFault) (hf : m.filtered = none) :
    demandOf c m = 0 := by
  simp [demandOf, Moisture.handedOn, h, hf]

theorem demandOf_measured {f : Nat} (h : m.status ≠ .sensorFault) (hf : m.filtered = some f) :
    demandOf c m = min 255 ((f + c.db - c.sp) * c.gain / 16) := by
  have error : ((f : Int) - ((c.sp : Int) - c.db)).toNat = f + c.db - c.sp := by omega
  simp [demandOf, Moisture.handedOn, h, hf, error]

end

/-- A capture's end in a running BAY: the measurement, then the computation that stages its on-time. -/
theorem exec_captureComplete_computes {s : Machine.State} (count : Option (BitVec 16))
    (h : s.station.bay = true) :
    let c := s.station.cfg
    let m := s.station.moist.measure c count
    let d := demandOf c m
    let share := shareOf c d (s.station.totalDemand d)
    Machine.exec (.captureComplete (.complete count)) s = .next (s.put { s.station with
      moist := m
      air := { s.station.air with
        demand := d, airShare := share, staged := onTimeOf c (dutyOf c share) } }) := by
  rw [exec_captureComplete, Station.onlyIf_of_true _ h]
  rfl

/-- Settles O7: the computation reads neither the stage, the applied on-time nor forced safe. -/
theorem demandShareOnTime : Obligations.DemandShareOnTime := by
  refine ⟨fun s count bay => ?_, fun s count stage applied safe bay => ?_⟩
  · intro c
    refine ⟨_, _, _, _, exec_captureComplete_computes count bay, demandOf_sensorFault,
      demandOf_unmeasured, fun hs f hf low => ?_, fun hs f e hf he _ => ?_, fun hd => if_pos hd,
      fun hd => if_neg hd, rfl, fun _ => onTimeOf_lawful c _⟩
    · rw [demandOf_measured hs hf, Nat.sub_eq_zero_of_le low]
      simp
    · rw [demandOf_measured hs hf, he, Nat.add_sub_cancel_left]
  · exact ⟨_, _, _, _, exec_captureComplete_computes count bay,
      exec_captureComplete_computes (s := s.put _) count bay⟩

/-! ### The valve (R25) -/

theorem exec_valvePeriodExpiry (s : Machine.State) :
    Machine.exec .valvePeriodExpiry s = .next (s.put
      (s.station.onlyIf (s.station.bay && s.station.air.period.isSome) Station.periodStart)) := rfl

theorem exec_onTimeExpiry (s : Machine.State) :
    Machine.exec .onTimeExpiry s = .next (s.put
      (s.station.onlyIf s.station.bay (·.onAir DryAir.onTimeExpired))) := rfl

theorem exec_neighbourSealExpiry (s : Machine.State) :
    Machine.exec .neighbourSealExpiry s
      = .next (s.put (s.station.onlyIf s.station.bay Station.sealExpired)) := rfl

/-- The table of R25 for the valve at a period start. -/
theorem DryAir.drive_eq (a : DryAir) (period : Nat) :
    let shut := a.forcedSafe || decide (a.applied = 0)
    a.drive period = { a with
      valve := !shut
      onTimer := if shut || decide (a.applied = period) then none else some (ticksOfMs a.applied) } := by
  intro shut
  unfold DryAir.drive
  by_cases safe : a.forcedSafe = true
  · simp [shut, safe]
  · by_cases none : a.applied = 0
    · simp [shut, safe, none]
    · by_cases whole : a.applied = period
      · have some : period ≠ 0 := whole ▸ none
        simp [shut, safe, whole, some]
      · simp [shut, safe, none, whole]

/-- A period start in a running BAY whose period timer runs (R25). -/
theorem Station.periodStart_eq (st : Station) :
    let a := st.air
    let c := st.cfg
    let shut := a.forcedSafe || decide (a.staged = 0)
    st.periodStart = { st with
      air := { a with
        period := some (ticksOfSec c.valvePeriod), applied := a.staged, valve := !shut
        onTimer := if shut || decide (a.staged = c.valvePeriod * 1000) then none
          else some (ticksOfMs a.staged) } } := by
  intro a c shut
  unfold Station.periodStart Station.onAir
  dsimp only
  rw [DryAir.drive_eq]
  rfl

/-! ### Forced safe (R27, R28) -/

section
variable {st : Station}

theorem Station.evalForcedSafe_stays (h : st.forcedSafeHolds = st.air.forcedSafe) :
    st.evalForcedSafe = st := if_pos h

theorem Station.evalForcedSafe_begins (holds : st.forcedSafeHolds = true)
    (h : st.air.forcedSafe = false) :
    st.evalForcedSafe = (({ st with air := { st.air with
      forcedSafe := true, valve := false, onTimer := none } } : Station).command .b).1 := by
  unfold Station.evalForcedSafe
  rw [holds, h, if_neg (by decide), if_pos rfl]
  rfl

theorem Station.evalForcedSafe_ends (holds : st.forcedSafeHolds = false)
    (h : st.air.forcedSafe = true) :
    st.evalForcedSafe
      = (({ st with air := { st.air with forcedSafe := false } } : Station).command .a).1 := by
  unfold Station.evalForcedSafe
  rw [holds, h, if_neg (by decide), if_neg (by decide)]
  rfl

end

/-! ### The neighbour seal (R29, R168) -/

/-- A peer's message reaches its block (R175, R176). -/
theorem Station.fromPeer_heard {st : Station} {src : Addr} (f : Station → Station)
    (h : st.hearsPeer src) : Station.fromPeer src f st = f st := by
  obtain ⟨hr, hown, h24⟩ := h
  have station : isStation src = true := by simp [isStation, h24]
  unfold Station.fromPeer
  rw [Station.onlyIf_of_true _ hr, if_neg hown, Station.onlyIf_of_true _ station]

theorem exec_discharge (s : Machine.State) (src : Addr) (soak : Byte) :
    Machine.exec (.discharge src soak) s
      = .next (s.put (Station.fromPeer src (Station.takeDischarge src soak) s.station)) := rfl

theorem soakOfByte_eq (b : Byte) :
    soakOfByte b = if b.toNat < 10 then 10 else if 120 < b.toNat then 120 else b.toNat := by
  unfold soakOfByte
  split
  · omega
  · split <;> omega

/-- A loaded seal timer makes the condition hold (R28). -/
theorem Station.forcedSafeHolds_of_seal {st : Station} (h : st.air.sealTimer.isSome = true) :
    st.forcedSafeHolds = true := by simp [Station.forcedSafeHolds, h]

/-- The table of R29 for the seal timer's expiry. -/
theorem neighbourSealExpiry_table {s : Machine.State} (bay : s.station.bay = true) :
    let run := Machine.exec .neighbourSealExpiry s
    (s.station.air.sealTimer = none → run = .next s) ∧
    (s.station.air.sealTimer.isSome → s.station.air.forcedSafe = true → s.station.confirmed = false →
      run = .next (s.put ({ s.station with
        air := { s.station.air with sealTimer := none, forcedSafe := false } }.command .a).1)) ∧
    (s.station.air.sealTimer.isSome → s.station.air.forcedSafe = true → s.station.confirmed = true →
      run = .next (s.put { s.station with air := { s.station.air with sealTimer := none } })) := by
  intro run
  have acts : run = .next (s.put s.station.sealExpired) := by
    rw [← Station.onlyIf_of_true Station.sealExpired bay]
    exact exec_neighbourSealExpiry s
  have opened : s.station.air.sealTimer.isSome = true → s.station.sealExpired
      = (s.station.onAir fun a => { a with sealTimer := none }).evalForcedSafe :=
    fun h => Station.onlyIf_of_true _ h
  have holds : (s.station.onAir fun a => { a with sealTimer := none }).forcedSafeHolds
      = s.station.confirmed := Bool.or_false _
  rw [acts]
  refine ⟨fun h => ?_, fun h safe free => ?_, fun h safe conf => ?_⟩
  · have stopped : s.station.air.sealTimer.isSome = false := by rw [h]; rfl
    exact s.next_put (Station.onlyIf_of_false _ stopped)
  · exact s.next_put ((opened h).trans (Station.evalForcedSafe_ends (holds.trans free) safe))
  · exact s.next_put ((opened h).trans
      (Station.evalForcedSafe_stays (holds.trans (conf.trans safe.symm))))

/-- A DISCHARGE from a neighbour, and from any other station (R29, R168). -/
theorem discharge_table {s : Machine.State} {src : Addr} (soak : Byte)
    (heard : s.station.hearsPeer src) :
    let run := Machine.exec (.discharge src soak) s
    let known := s.station.modifyPeer src Peer.refresh
    let acts := decide (s.station.cfg.role = .bay) && s.station.peers.neighbours.contains src
    let sealed : DryAir :=
      { s.station.air with sealTimer := some (ticksOfMin (soakOfByte soak)) }
    (acts = false → run = .next (s.put known)) ∧
    (acts = true → s.station.air.forcedSafe = true →
      run = .next (s.put { known with air := sealed })) ∧
    (acts = true → s.station.air.forcedSafe = false →
      run = .next (s.put ({ known with
        air := { sealed with forcedSafe := true, valve := false, onTimer := none } }.command .b).1)) := by
  intro run known acts sealed
  have taken : run = .next (s.put (known.onlyIf acts (·.neighbourDischarge soak))) := by
    change Machine.exec (.discharge src soak) s = _
    rw [exec_discharge, Station.fromPeer_heard _ heard]
    rfl
  have holds : Station.forcedSafeHolds { known with air := sealed } = true :=
    Station.forcedSafeHolds_of_seal rfl
  rw [taken]
  refine ⟨fun h => ?_, fun h safe => ?_, fun h safe => ?_⟩
  · rw [Station.onlyIf_of_false _ h]
  · rw [Station.onlyIf_of_true _ h]
    exact s.next_put (Station.evalForcedSafe_stays (holds.trans safe.symm))
  · rw [Station.onlyIf_of_true _ h]
    exact s.next_put (Station.evalForcedSafe_begins holds safe)

/-- Settles O8: the period start and the on-time's end by their equations, the seal by its two tables. -/
theorem valveAndNeighbourSeal : Obligations.ValveAndNeighbourSeal := by
  refine ⟨fun s bay => ⟨fun stopped => ?_, fun period => ?_⟩,
    fun s bay => ⟨fun runs => ?_, fun stopped => ?_⟩,
    fun s bay => neighbourSealExpiry_table bay, fun s src soak heard => ?_⟩
  · rw [exec_valvePeriodExpiry, Station.onlyIf_of_false _ (by simp [stopped])]
    rfl
  · intro a c shut
    rw [exec_valvePeriodExpiry, Station.onlyIf_of_true _ (by rw [bay, period]; rfl),
      Station.periodStart_eq]
  · rw [exec_onTimeExpiry, Station.onlyIf_of_true _ bay, Station.onAir, DryAir.onTimeExpired, if_pos runs]
  · rw [exec_onTimeExpiry, Station.onlyIf_of_true _ bay, Station.onAir, DryAir.onTimeExpired,
      if_neg (by simp [stopped])]
    rfl
  · intro known acts minutes
    have soaked : soakOfByte soak = minutes := soakOfByte_eq soak
    rw [← soaked]
    exact discharge_table soak heard

end Sys2Proof
end

section
/-! SUPPORT. The motion channel's operations case by case (R31 to R37), with what its owner makes of their
reports, and the commands of its timers and of a damper's end switches. -/

namespace Sys2Proof

/-! ### A drive (R31, R35, R36, R161) -/

/-- The channel in the moving state toward an end with both coils off: a drive that waits (R31). -/
def Motion.turned (m : Motion) (e : MotionEnd) : Motion :=
  { m.coilsOff with state := .moving e, cause := none }

section
variable {m : Motion} (ha : m.coilA = false) (hb : m.coilB = false)
include ha hb

theorem Motion.coilsOff_of_off : m.coilsOff = { m with travel := none } := by
  cases m
  cases ha
  cases hb
  rfl

/-- With both coils off already no dead time begins. -/
theorem Motion.turned_of_off (e : MotionEnd) :
    m.turned e = { m with state := .moving e, cause := none, travel := none } := by
  unfold Motion.turned
  rw [Motion.coilsOff_of_off ha hb]

theorem Motion.stall_of_off (c : StallCause) :
    m.stall c = { m with state := .stalled, cause := some c, travel := none } := by
  unfold Motion.stall
  rw [Motion.coilsOff_of_off ha hb]

end

section
variable {st : Station} {e : MotionEnd}

theorem Station.driveDue_on (shut : st.flapBlocks = false) :
    st.driveDue e = (st.onMotion (·.switchOn e (ticksOfSec st.travelLimit)), none) := by
  unfold Station.driveDue
  rw [shut, if_neg (by decide)]

/-- With a flap open the drive is a stop event instead (R161). -/
theorem Station.driveDue_blocked (opened : st.flapBlocks = true) :
    st.driveDue e = (st.onMotion (·.stall .interlock), some (.stalled .interlock)) := by
  unfold Station.driveDue
  rw [if_pos opened]

theorem Station.startDrive_waits (dead : st.motion.coilsOff.dead.isSome = true) :
    st.startDrive e = (st.onMotion (·.turned e), none) :=
  if_pos dead

theorem Station.startDrive_due (dead : st.motion.coilsOff.dead = none) :
    st.startDrive e = (st.onMotion (·.turned e)).driveDue e :=
  if_neg (by simp [Station.onMotion, dead])

theorem Station.startDrive_on (dead : st.motion.coilsOff.dead = none)
    (shut : st.flapBlocks = false) :
    st.startDrive e
      = (st.onMotion fun m => (m.turned e).switchOn e (ticksOfSec st.travelLimit), none) :=
  (Station.startDrive_due dead).trans (Station.driveDue_on (by exact shut))

theorem Station.startDrive_blocked (dead : st.motion.coilsOff.dead = none)
    (opened : st.flapBlocks = true) :
    st.startDrive e
      = (st.onMotion fun m => (m.turned e).stall .interlock, some (.stalled .interlock)) :=
  (Station.startDrive_due dead).trans (Station.driveDue_blocked (by exact opened))

/-! ### A command (R32) -/

/-- The station whose channel remembers a command. -/
def Station.commanded (st : Station) (e : MotionEnd) : Station :=
  st.onMotion fun m => { m with last := some e }

theorem Station.command_there (h : st.motion.state = .resting e ∨ st.motion.state = .moving e) :
    st.command e = (st.commanded e, none) := by
  unfold Station.command
  rcases h with h | h <;> simp [h, Station.commanded]

theorem Station.command_arrives (away : st.motion.state ≠ .resting e)
    (still : ∀ x, st.motion.state ≠ .moving x) (holds : st.arrivalHolds e = true) :
    st.command e = (st.commanded e).arriveAt e := by
  have same : (st.onMotion fun m => { m with last := some e }).arrivalHolds e = true := holds
  unfold Station.command
  cases hm : st.motion.state with
  | moving x => exact absurd hm (still x)
  | stalled => simp [hm, same, Station.commanded]
  | resting x =>
    have other : x ≠ e := fun h => away (h ▸ hm)
    simp [hm, same, other, Station.commanded]

theorem Station.command_drives (away : st.motion.state ≠ .resting e)
    (elsewhere : st.motion.state ≠ .moving e)
    (open_ : (∃ x, st.motion.state = .moving x) ∨ st.arrivalHolds e = false) :
    st.command e = (st.commanded e).startDrive e := by
  unfold Station.command
  cases hm : st.motion.state with
  | moving x =>
    have other : x ≠ e := fun h => elsewhere (h ▸ hm)
    simp [hm, other, Station.commanded]
  | stalled =>
    have same : (st.onMotion fun m => { m with last := some e }).arrivalHolds e = false :=
      open_.resolve_left fun h => by simp [hm] at h
    simp [hm, same, Station.commanded]
  | resting x =>
    have other : x ≠ e := fun h => away (h ▸ hm)
    have same : (st.onMotion fun m => { m with last := some e }).arrivalHolds e = false :=
      open_.resolve_left fun h => by simp [hm] at h
    simp [hm, same, other, Station.commanded]

end

/-- Settles O9: the command's three outcomes, and the three of a drive. -/
theorem motionCommandTable : Obligations.MotionCommandTable := by
  intro st e other m put driven off on
  have differs : other ≠ e := by cases e <;> simp [other]
  refine ⟨fun h => Station.command_there (.inl h), fun h => Station.command_there (.inr h),
    fun h holds => ?_, fun h => ?_⟩
  · refine Station.command_arrives ?_ ?_ holds
    · rcases h with h | h <;> simp [h, differs]
    · rcases h with h | h <;> simp [h]
  · have drives : st.command e = (st.commanded e).startDrive e := by
      refine Station.command_drives ?_ ?_ ?_
      · rcases h with h | ⟨h | h, -⟩ <;> simp [h, differs]
      · rcases h with h | ⟨h | h, -⟩ <;> simp [h, differs]
      · exact h.imp (fun h => ⟨_, h⟩) fun h => h.2
    rw [drives]
    exact ⟨fun dead => Station.startDrive_waits dead, fun dead shut => Station.startDrive_on dead shut,
      fun dead opened => Station.startDrive_blocked dead opened⟩

/-! ### The owner (R37) -/

section
variable {st : Station}

theorem Station.reported_silent (st : Station) : Station.reported (st, none) = st := by
  cases role : st.cfg.role <;> rw [Station.reported]

/-- The dry-air unit does nothing about a report of its damper (R37). -/
theorem Station.reported_bay {p : Station × Option Report} (h : p.1.cfg.role = .bay) :
    Station.reported p = p.1 := by
  unfold Station.reported
  split
  · next hatch => exact absurd (h.symm.trans hatch) (by decide)
  · rfl
  · rfl

theorem Station.reported_hatch {r : Report} (h : st.cfg.role = .hatch) :
    Station.reported (st, some r) = st.hatchReport r := by
  simp [Station.reported, h]

/-- A stall touches no session that is not under way (R156). -/
theorem Station.abortSession_quiet (r : AbortReason) (h : st.hatch.session.state.active = false) :
    st.abortSession r = st := Station.onlyIf_of_false _ h

theorem Station.reported_stall_quiet {c : StallCause}
    (h : st.cfg.role = .bay ∨ st.hatch.session.state.active = false) :
    Station.reported (st, some (.stalled c)) = st := by
  cases hr : st.cfg.role with
  | bay => exact Station.reported_bay hr
  | hatch =>
    rw [Station.reported_hatch hr]
    exact Station.abortSession_quiet _ (h.resolve_left (by simp [hr]))

end

/-! ### The timers of the channel (R31, R34) -/

theorem exec_deadTimeExpiry (s : Machine.State) :
    Machine.exec .deadTimeExpiry s = .next (s.put
      (s.station.onlyIf s.station.live fun st => Station.reported st.deadExpired)) := rfl

theorem exec_travelExpiry (s : Machine.State) :
    Machine.exec .travelExpiry s = .next (s.put
      (s.station.onlyIf s.station.running fun st => Station.reported st.travelExpired)) := rfl

section
variable {st : Station}

theorem Motion.pending_of_driven {m : Motion}
    (h : ∀ e, m.state = .moving e → m.coilA = true ∨ m.coilB = true) : m.pending = none := by
  unfold Motion.pending
  split
  · next e hm => rw [if_pos (by simpa using h e hm)]
  · rfl
  · rfl

theorem Motion.pending_of_waiting {m : Motion} {e : MotionEnd} (hm : m.state = .moving e)
    (ha : m.coilA = false) (hb : m.coilB = false) : m.pending = some e := by
  simp [Motion.pending, hm, ha, hb]

/-- The dead time's end with a drive pending (R31). -/
theorem Station.deadExpired_due {e : MotionEnd} (dead : st.motion.dead.isSome = true)
    (waits : st.motion.pending = some e) :
    st.deadExpired = (st.onMotion fun m => { m with dead := none }).driveDue e := by
  have still : Motion.pending { st.motion with dead := none } = some e := waits
  unfold Station.deadExpired
  rw [if_pos dead]
  simp only [Station.onMotion_motion, still]

theorem Station.travelExpired_stopped (h : st.motion.travel = none) :
    st.travelExpired = (st, none) := if_neg (by simp [h])

theorem Station.travelExpired_stalls (h : st.motion.travel.isSome = true) :
    st.travelExpired = (st.onMotion (·.stall .travel), some (.stalled .travel)) :=
  if_pos h

end

/-- Settles O10: what is pending when the dead time ends, and the stall at the travel timer's end. -/
theorem deadTimeAndTravelExpire : Obligations.DeadTimeAndTravelExpire := by
  refine ⟨fun s live => ?_, fun s running => ?_⟩
  · intro m put
    have acts : Machine.exec .deadTimeExpiry s = .next (s.put (Station.reported s.station.deadExpired)) := by
      rw [exec_deadTimeExpiry, Station.onlyIf_of_true _ live]
    rw [acts]
    refine ⟨fun dead => ?_, fun dead driven => ?_, fun e dead hm ha hb shut => ?_,
      fun e dead hm ha hb opened quiet => ?_⟩
    · have stopped : s.station.deadExpired = (s.station, none) := if_neg (by simpa [m] using dead)
      rw [stopped, Station.reported_silent]
      rfl
    · rw [Station.deadExpired_of_rest (Motion.pending_of_driven driven), Station.reported_silent]
      rfl
    · rw [Station.deadExpired_due dead (Motion.pending_of_waiting hm ha hb),
        Station.driveDue_on (by exact shut), Station.reported_silent]
      rfl
    · rw [Station.deadExpired_due dead (Motion.pending_of_waiting hm ha hb),
        Station.driveDue_blocked (by exact opened), Station.reported_stall_quiet (.inr (by exact quiet))]
      have stalled : Motion.stall { m with dead := none } .interlock
          = { m with dead := none, state := .stalled, cause := some .interlock, travel := none } :=
        Motion.stall_of_off (m := { m with dead := none }) ha hb _
      rw [← stalled]
      rfl
  · intro m
    have acts : Machine.exec .travelExpiry s = .next (s.put (Station.reported s.station.travelExpired)) := by
      rw [exec_travelExpiry, Station.onlyIf_of_true _ running]
    rw [acts]
    refine ⟨fun stopped => ?_, fun runs quiet => ?_⟩
    · rw [Station.travelExpired_stopped stopped, Station.reported_silent]
      rfl
    · rw [Station.travelExpired_stalls runs, Station.reported_stall_quiet (by exact quiet)]
      rfl

/-! ### The end switches (R33, R36) -/

section
variable {st : Station} {e : MotionEnd}

theorem Station.arrivalComes_arrives
    (h : st.motion.state = .moving e ∨ (st.motion.state = .stalled ∧ st.motion.last = some e)) :
    st.arrivalComes e = (st.onMotion (·.rest e), some (.arrived e)) := by
  unfold Station.arrivalComes
  rcases h with h | ⟨h, last⟩
  · simp [h, Station.arriveAt]
  · simp [h, last, Station.arriveAt]

theorem Station.arrivalComes_elsewhere (hm : st.motion.state ≠ .moving e)
    (hs : ¬(st.motion.state = .stalled ∧ st.motion.last = some e)) :
    st.arrivalComes e = (st, none) := by
  unfold Station.arrivalComes
  split
  · next x hx => rw [if_neg fun h : x = e => hm (h ▸ hx)]
  · next hx => rw [if_neg fun h => hs ⟨hx, h⟩]
  · rfl

theorem Station.loadLeaves_rest (h : st.motion.state = .resting e) :
    st.loadLeaves e = st.startDrive e := if_pos h

theorem Station.loadLeaves_elsewhere (h : st.motion.state ≠ .resting e) :
    st.loadLeaves e = (st, none) := if_neg h

theorem Station.role_of_bay (h : st.bay = true) : st.cfg.role = .bay :=
  of_decide_eq_true (Bool.and_eq_true_iff.mp h).2

theorem Station.flapBlocks_of_bay (h : st.cfg.role = .bay) : st.flapBlocks = false := by
  simp [Station.flapBlocks, h]

theorem Station.travelLimit_of_bay (h : st.cfg.role = .bay) : st.travelLimit = st.cfg.damperTravel := by
  simp [Station.travelLimit, h]

end

/-- The switch of a damper's end (section 2.5). -/
def MotionEnd.damperSwitch : MotionEnd → EndSwitch
  | .a => .openEnd
  | .b => .closedEnd

section
variable {s : Machine.State} (bay : s.station.bay = true)
include bay

theorem exec_endSwitchClose_damper (e : MotionEnd) :
    Machine.exec (.endSwitchClose e.damperSwitch) s = .next (s.put
      ((s.station.onPins (·.setSwitch e.damperSwitch true)).arrivalComes e).1) := by
  have role := Station.role_of_bay bay
  have acts : Machine.exec (.endSwitchClose e.damperSwitch) s = .next (s.put
      (Station.reported ((s.station.onPins (·.setSwitch e.damperSwitch true)).arrivalComes e))) := by
    refine s.next_put ((Station.onlyIf_of_true _ (Station.running_of_bay bay)).trans ?_)
    cases e <;> simp only [Station.cfg, MotionEnd.damperSwitch, Station.onPins_loader] at role ⊢ <;>
      rw [role]
  rw [acts, Station.reported_bay]
  rw [Station.arrivalComes_motion]
  exact role

theorem exec_endSwitchOpen_damper (e : MotionEnd) :
    Machine.exec (.endSwitchOpen e.damperSwitch) s = .next (s.put
      ((s.station.onPins (·.setSwitch e.damperSwitch false)).loadLeaves e).1) := by
  have role := Station.role_of_bay bay
  have acts : Machine.exec (.endSwitchOpen e.damperSwitch) s = .next (s.put
      (Station.reported ((s.station.onPins (·.setSwitch e.damperSwitch false)).loadLeaves e))) := by
    refine s.next_put ((Station.onlyIf_of_true _ (Station.running_of_bay bay)).trans ?_)
    cases e <;> simp only [Station.cfg, MotionEnd.damperSwitch, Station.onPins_loader] at role ⊢ <;>
      rw [role] <;> rfl
  rw [acts, Station.reported_bay]
  rw [Station.loadLeaves_motion]
  exact role

/-- The drawer's switch is none of a BAY's: the level of its pin alone changes. -/
theorem exec_endSwitchClose_inner_of_bay :
    Machine.exec (.endSwitchClose .innerEnd) s
      = .next (s.put { s.station with pins := { s.station.pins with innerEnd := true } }) := by
  have role := Station.role_of_bay bay
  refine s.next_put ((Station.onlyIf_of_true _ (Station.running_of_bay bay)).trans ?_)
  simp only [Station.cfg, Station.onPins_loader] at role ⊢
  rw [role]
  rfl

theorem exec_endSwitchOpen_inner_of_bay :
    Machine.exec (.endSwitchOpen .innerEnd) s
      = .next (s.put { s.station with pins := { s.station.pins with innerEnd := false } }) := by
  have role := Station.role_of_bay bay
  refine s.next_put ((Station.onlyIf_of_true _ (Station.running_of_bay bay)).trans ?_)
  simp only [Station.cfg, Station.onPins_loader] at role ⊢
  rw [role]
  rfl

end

/-! A load that leaves its end is driven back, at once or pending while the dead time runs (R36); with a flap
open that drive is a stop event (R161). Both coils were off while it rested. -/

section
variable {st : Station} {e : MotionEnd} (rests : st.motion.state = .resting e)
  (ha : st.motion.coilA = false) (hb : st.motion.coilB = false)
include rests ha hb

theorem Station.loadLeaves_on (dead : st.motion.dead = none) (shut : st.flapBlocks = false) :
    st.loadLeaves e = ({ st with motion := { st.motion with
      state := .moving e, cause := none, coilA := decide (e = .a), coilB := decide (e = .b)
      travel := some (ticksOfSec st.travelLimit) } }, none) := by
  rw [Station.loadLeaves_rest rests,
    Station.startDrive_on (by rw [Motion.coilsOff_of_off ha hb]; exact dead) shut]
  simp only [Station.onMotion, Motion.turned_of_off ha hb e, Motion.switchOn]

theorem Station.loadLeaves_waits (dead : st.motion.dead.isSome = true) :
    st.loadLeaves e = ({ st with motion := { st.motion with
      state := .moving e, cause := none, travel := none } }, none) := by
  rw [Station.loadLeaves_rest rests,
    Station.startDrive_waits (by rw [Motion.coilsOff_of_off ha hb]; exact dead)]
  simp only [Station.onMotion, Motion.turned_of_off ha hb e]

theorem Station.loadLeaves_blocked (dead : st.motion.dead = none) (opened : st.flapBlocks = true) :
    st.loadLeaves e = ({ st with motion := { st.motion with
      state := .stalled, cause := some .interlock, travel := none } },
      some (.stalled .interlock)) := by
  have stalled : (st.motion.turned e).stall .interlock = { st.motion with
      state := .stalled, cause := some .interlock, travel := none } := by
    rw [Motion.turned_of_off ha hb e]
    exact Motion.stall_of_off (m := { st.motion with
      state := .moving e, cause := none, travel := none }) ha hb _
  rw [Station.loadLeaves_rest rests,
    Station.startDrive_blocked (by rw [Motion.coilsOff_of_off ha hb]; exact dead) opened]
  simp only [Station.onMotion, stalled]

end

/-- Settles O11: an arrival where the damper comes to its end, a drive where it leaves it, and elsewhere the
level of the pin alone. -/
theorem damperEndSwitches : Obligations.DamperEndSwitches := by
  refine ⟨fun s e bay => ?_, fun s e bay => ?_⟩
  · intro sw pins m
    have switch : sw = e.damperSwitch := by cases e <;> rfl
    have seen : s.station.onPins (·.setSwitch e.damperSwitch true) = { s.station with pins := pins } := by
      cases e <;> rfl
    have closes := exec_endSwitchClose_damper bay e
    rw [seen] at closes
    rw [switch, closes]
    refine ⟨fun comes => ?_, fun hm hs => ?_, exec_endSwitchClose_inner_of_bay bay⟩
    · exact s.next_put (congrArg Prod.fst
        (Station.arrivalComes_arrives (st := { s.station with pins := pins }) comes))
    · exact s.next_put (congrArg Prod.fst
        (Station.arrivalComes_elsewhere (st := { s.station with pins := pins }) hm hs))
  · intro sw pins m
    have switch : sw = e.damperSwitch := by cases e <;> rfl
    have seen : s.station.onPins (·.setSwitch e.damperSwitch false) = { s.station with pins := pins } := by
      cases e <;> rfl
    have opens := exec_endSwitchOpen_damper bay e
    rw [seen] at opens
    rw [switch, opens]
    refine ⟨fun away => ?_, fun rests ha hb dead => ?_, fun rests ha hb dead => ?_,
      exec_endSwitchOpen_inner_of_bay bay⟩
    · exact s.next_put (congrArg Prod.fst
        (Station.loadLeaves_elsewhere (st := { s.station with pins := pins }) away))
    · have role := Station.role_of_bay bay
      rw [← Station.travelLimit_of_bay role]
      exact s.next_put (congrArg Prod.fst (Station.loadLeaves_on (st := { s.station with pins := pins })
        rests ha hb dead (Station.flapBlocks_of_bay role)))
    · exact s.next_put (congrArg Prod.fst
        (Station.loadLeaves_waits (st := { s.station with pins := pins }) rests ha hb dead))

end Sys2Proof
end

section
/-! SUPPORT. The drawer of a HATCH (sections 9.2 and 9.3): its encoder, its flaps and its inner end switch, and
the courier session that a stall breaks off. -/

namespace Sys2Proof

/-! ### The encoder (R159) -/

theorem encoderMove_faulty_iff : ∀ refA refB a b : Bool,
    encoderMove refA refB a b = .faulty ↔ a ≠ refA ∧ b ≠ refB := by decide

theorem encoderMove_still_iff : ∀ refA refB a b : Bool,
    encoderMove refA refB a b = .still ↔ a = refA ∧ b = refB := by decide

/-- A step outward along the cycle of R159. -/
theorem encoderMove_outward_iff : ∀ refA refB a b : Bool,
    encoderMove refA refB a b = .outward ↔ (refA, refB, a, b) ∈
      [(false, false, false, true), (false, true, true, true), (true, true, true, false),
        (true, false, false, false)] := by decide

/-- A step inward, the cycle of R159 taken back. -/
theorem encoderMove_inward_iff : ∀ refA refB a b : Bool,
    encoderMove refA refB a b = .inward ↔ (refA, refB, a, b) ∈
      [(false, true, false, false), (true, true, false, true), (true, false, true, true),
        (false, false, true, false)] := by decide

section
variable (st : Station)

/-- The drawer at a position, with a new reference pair of phases. -/
def Station.turnedTo (a b : Bool) (pos : Nat) : Station :=
  st.onHatch fun h => { h with position := pos, refA := a, refB := b }

theorem Station.encoderChanged_faulty {a b : Bool}
    (h : encoderMove st.hatch.refA st.hatch.refB a b = .faulty) :
    st.encoderChanged a b
      = Station.reported ((st.turnedTo a b st.hatch.position).stopEvent .encoder) := by
  unfold Station.encoderChanged
  dsimp only
  rw [h]
  rfl

theorem Station.encoderChanged_counts {a b : Bool}
    (h : encoderMove st.hatch.refA st.hatch.refB a b ≠ .faulty) :
    st.encoderChanged a b = (st.turnedTo a b
      ((encoderMove st.hatch.refA st.hatch.refB a b).apply st.hatch.position)).positionMoved
        st.hatch.position := by
  unfold Station.encoderChanged
  dsimp only
  split
  · next faulty => exact absurd faulty h
  · rfl

theorem encoderMove_apply (refA refB a b : Bool) (p : Nat) :
    (encoderMove refA refB a b).apply p
      = if (a ≠ refA ∧ b ≠ refB) ∨ (a = refA ∧ b = refB) then p
        else if (refA, refB, a, b) ∈
          [(false, false, false, true), (false, true, true, true), (true, true, true, false),
            (true, false, false, false)] then min 4095 (p + 1) else p - 1 := by
  simp only [← encoderMove_faulty_iff, ← encoderMove_still_iff, ← encoderMove_outward_iff]
  cases encoderMove refA refB a b <;> rfl

/-- The two arrival tests of R160 exclude each other, and neither acts away from its value. -/
theorem Station.positionMoved_reaches {p : Nat}
    (h : p < st.cfg.posOut - 8 ∧ st.cfg.posOut - 8 ≤ st.hatch.position) :
    st.positionMoved p = Station.reported (st.arrivalComes .a) := if_pos h

theorem Station.positionMoved_falls {p : Nat}
    (h : st.cfg.posOut - 16 ≤ p ∧ st.hatch.position < st.cfg.posOut - 16) :
    st.positionMoved p = Station.reported (st.loadLeaves .a) := by
  have short : ¬(p < st.cfg.posOut - 8 ∧ st.cfg.posOut - 8 ≤ st.hatch.position) := by omega
  exact (if_neg short).trans (if_pos h)

theorem Station.positionMoved_between {p : Nat}
    (hr : ¬(p < st.cfg.posOut - 8 ∧ st.cfg.posOut - 8 ≤ st.hatch.position))
    (hf : ¬(st.cfg.posOut - 16 ≤ p ∧ st.hatch.position < st.cfg.posOut - 16)) :
    st.positionMoved p = st := (if_neg hr).trans (if_neg hf)

end

/-! ### What the hatch unit makes of a report (R153, R156, R157) -/

section
variable {st : Station}

theorem Station.stopEvent_moving {e : MotionEnd} (c : StallCause) (h : st.motion.state = .moving e) :
    st.stopEvent c = (st.onMotion (·.stall c), some (.stalled c)) := by
  simp [Station.stopEvent, h]

theorem Station.stopEvent_still (c : StallCause) (h : ∀ e, st.motion.state ≠ .moving e) :
    st.stopEvent c = (st, none) := by
  unfold Station.stopEvent
  split
  · next e hm => exact absurd hm (h e)
  · rfl
  · rfl

theorem Station.hatchReport_out_filling (h : st.hatch.session.state = .filling) :
    st.hatchReport (.arrived .a) = st.onSession fun x => { x with state := .presenting } := by
  simp [Station.hatchReport, h]

theorem Station.hatchReport_out (h : st.hatch.session.state ≠ .filling) :
    st.hatchReport (.arrived .a) = st := by
  simp [Station.hatchReport, h]

theorem Station.role_of_hatchUnit (h : st.hatchUnit = true) : st.cfg.role = .hatch :=
  of_decide_eq_true (Bool.and_eq_true_iff.mp h).2

theorem Station.travelLimit_of_hatch (h : st.cfg.role = .hatch) :
    st.travelLimit = st.cfg.drawerTravel := by
  simp [Station.travelLimit, h]

theorem Station.flapBlocks_of_shut (hi : st.pins.innerFlapOpen = false)
    (ho : st.pins.outerFlapOpen = false) : st.flapBlocks = false := by
  simp [Station.flapBlocks, hi, ho]

end

/-! The drawer's own coil comes on and the other stays off. -/

section
variable {st : Station} (ha : st.motion.coilA = false) (hb : st.motion.coilB = false)
  (dead : st.motion.dead = none) (shut : st.flapBlocks = false)
include ha hb dead shut

theorem Station.loadLeaves_on_a (rests : st.motion.state = .resting .a) :
    st.loadLeaves .a = ({ st with motion := { st.motion with
      state := .moving .a, cause := none, coilA := true
      travel := some (ticksOfSec st.travelLimit) } }, none) := by
  have other : decide (MotionEnd.a = .b) = st.motion.coilB := hb.symm
  rw [Station.loadLeaves_on rests ha hb dead shut, other]
  rfl

theorem Station.loadLeaves_on_b (rests : st.motion.state = .resting .b) :
    st.loadLeaves .b = ({ st with motion := { st.motion with
      state := .moving .b, cause := none, coilB := true
      travel := some (ticksOfSec st.travelLimit) } }, none) := by
  have other : decide (MotionEnd.b = .a) = st.motion.coilA := ha.symm
  rw [Station.loadLeaves_on rests ha hb dead shut, other]
  rfl

end

/-- Settles O46: an encoder fault, the counter's way between its two tests, the arrival OUT and the push back,
each by the rules above. -/
theorem encoderFollowed : Obligations.EncoderFollowed := by
  intro s a b st p run faulty still outward pins pos moved quiet reaches falls
  let seen : Station := { st with pins := pins }
  refine ⟨fun away => ?_, fun unit => ?_⟩
  · exact s.next_put (Station.onlyIf_of_false _ away)
  have hatch : st.cfg.role = .hatch := Station.role_of_hatchUnit unit
  have acts : run = .next (s.put (seen.encoderChanged a b)) :=
    s.next_put (Station.onlyIf_of_true _ unit)
  have fault (h : faulty) : run = .next (s.put (Station.reported (moved.stopEvent .encoder))) := by
    have stays : pos = p := if_pos (.inl h)
    have same : moved = seen.turnedTo a b p := by rw [← stays]; rfl
    rw [acts, same]
    exact s.next_put (seen.encoderChanged_faulty ((encoderMove_faulty_iff ..).mpr h))
  have counts (h : ¬faulty) : run = .next (s.put (moved.positionMoved p)) := by
    have applied : (encoderMove st.hatch.refA st.hatch.refB a b).apply p = pos :=
      encoderMove_apply ..
    have same : moved = seen.turnedTo a b
        ((encoderMove st.hatch.refA st.hatch.refB a b).apply p) := by rw [applied]; rfl
    rw [acts, same]
    exact s.next_put (seen.encoderChanged_counts fun e => h ((encoderMove_faulty_iff ..).mp e))
  have comes (h : ¬faulty) (hr : reaches) :
      run = .next (s.put (Station.reported (moved.arrivalComes .a))) := by
    rw [counts h, moved.positionMoved_reaches hr]
  have leaves (h : ¬faulty) (hf : falls) :
      run = .next (s.put (Station.reported (moved.loadLeaves .a))) := by
    rw [counts h, moved.positionMoved_falls hf]
  refine ⟨fun h hm => ?_, fun e h hm q => ?_, fun h hr hf => ?_, fun h hr => ⟨fun hm hs => ?_, fun hm hs => ?_,
    fun hm hs => ?_⟩, fun h hf => ⟨fun hm => ?_, fun hm ha hb dead hi ho => ?_, fun hm ha hb dead => ?_,
    fun hm ha hb dead opened q => ?_⟩⟩
  · rw [fault h, Station.stopEvent_still (st := moved) _ hm, Station.reported_silent]
  · rw [fault h, Station.stopEvent_moving (st := moved) _ hm, Station.reported_stall_quiet (.inr (by exact q))]
  · rw [counts h, moved.positionMoved_between hr hf]
  · rw [comes h hr, Station.arrivalComes_arrives (st := moved) hm, Station.reported_hatch (by exact hatch),
      Station.hatchReport_out (by exact hs)]
  · rw [comes h hr, Station.arrivalComes_arrives (st := moved) hm, Station.reported_hatch (by exact hatch),
      Station.hatchReport_out_filling (by exact hs)]
  · rw [comes h hr, Station.arrivalComes_elsewhere (st := moved) hm hs, Station.reported_silent]
  · rw [leaves h hf, Station.loadLeaves_elsewhere (st := moved) hm, Station.reported_silent]
  · rw [leaves h hf, Station.loadLeaves_on_a (st := moved) ha hb dead (Station.flapBlocks_of_shut hi ho) hm,
      Station.reported_silent, Station.travelLimit_of_hatch (by exact hatch)]
    rfl
  · rw [leaves h hf, Station.loadLeaves_waits (st := moved) hm ha hb dead, Station.reported_silent]
    rfl
  · rw [leaves h hf, Station.loadLeaves_blocked (st := moved) hm ha hb dead (by exact opened),
      Station.reported_stall_quiet (.inr (by exact q))]
    rfl

end Sys2Proof
end

section
/-! SUPPORT. The end of a courier session (R154 to R158): a session broken off, the drawer's arrival IN, and
the inbound handover. -/

namespace Sys2Proof

/-! ### A session broken off (R156) -/

/-- The first steps of R156: the session is ABORTED with its reason, its timer stopped, and what lies in the
drawer is HELD-OUTBOUND again. -/
def Station.brokenOff (st : Station) (r : AbortReason) : Station :=
  { st with
    hatch := { st.hatch with
      custody := st.hatch.custody.map fun e =>
        if e.state = .inDrawer then { e with state := .heldOutbound } else e
      custodyCheck := 0
      session := { st.hatch.session with state := .aborted, timer := none, reason := some r } } }

/-- The drawer commanded IN behind an ended session whose manifest is cleared (R154, R156). -/
def Station.broughtIn (st : Station) : Station :=
  ((st.onSession fun x => { x with manifest := [] }).command .b).1

theorem Station.broughtIn_session (st : Station) :
    st.broughtIn.hatch.session = { st.hatch.session with manifest := [] } := by
  unfold Station.broughtIn
  rw [Station.command_motion]
  rfl

section
variable {st : Station}

theorem Station.settleSession_ended (h : st.hatch.session.state = .handed ∨
    st.hatch.session.state = .aborted) :
    st.settleSession
      = if st.motion.state = .resting .b then st.onSession fun _ => .idle else st := by
  have guard : st.settleSession = st.onlyIf st.atIn (·.onSession fun _ => .idle) := by
    unfold Station.settleSession
    rcases h with h | h <;> rw [h]
  rw [guard]
  by_cases rests : st.motion.state = .resting .b
  · rw [if_pos rests, Station.onlyIf_of_true (c := st.atIn) _ (decide_eq_true rests)]
  · rw [if_neg rests, Station.onlyIf_of_false (c := st.atIn) _ (decide_eq_false rests)]

theorem Station.settleSession_open (hh : st.hatch.session.state ≠ .handed)
    (ha : st.hatch.session.state ≠ .aborted) : st.settleSession = st := by
  unfold Station.settleSession
  split
  · next h => exact absurd h hh
  · next h => exact absurd h ha
  · rfl

/-- An ended session goes on to IDLE where the drawer rests IN (R157). -/
theorem Station.bringIn_ended (h : st.hatch.session.state = .handed ∨
    st.hatch.session.state = .aborted) :
    st.bringIn = if st.broughtIn.motion.state = .resting .b
      then st.broughtIn.onSession fun _ => .idle else st.broughtIn :=
  Station.settleSession_ended (st := st.broughtIn) (by rw [Station.broughtIn_session]; exact h)

/-- The HANDOVER of a session under a job and a direction (R158). -/
theorem Station.handover_eq {j : Job} {d : Direction} (job : st.hatch.session.job = some j)
    (dir : st.hatch.session.direction = some d) (n : Nat) (r : Option AbortReason) :
    st.handover n r = st.hand .hatch 255 (.handover
      { job := j, direction := if d = .outbound then 0 else 1, handed := BitVec.ofNat 8 n
        remaining := BitVec.ofNat 8 (st.remainingFor d j)
        outcome := if r.isSome then 1 else 0, reason := r.map AbortReason.code }) := by
  have code : d.code = if d = .outbound then 0 else 1 := by cases d <;> rfl
  unfold Station.handover
  simp only [job, dir, Option.getD_some, code]
  rfl

/-- The rest of R156: one HANDOVER to ALL, the manifest cleared, the drawer commanded IN, and IDLE where it
rests there. -/
theorem Station.abortSession_breaks {j : Job} {d : Direction} (r : AbortReason)
    (active : st.hatch.session.state.active = true) (job : st.hatch.session.job = some j)
    (dir : st.hatch.session.direction = some d) :
    let told := (st.brokenOff r).hand .hatch 255 (.handover
      { job := j, direction := if d = .outbound then 0 else 1, handed := 0
        remaining := BitVec.ofNat 8 ((st.brokenOff r).remainingFor d j), outcome := 1
        reason := some r.code })
    st.abortSession r = if told.broughtIn.motion.state = .resting .b
      then told.broughtIn.onSession fun _ => .idle else told.broughtIn := by
  intro told
  have steps : st.abortSession r = ((st.brokenOff r).handover 0 (some r)).bringIn :=
    Station.onlyIf_of_true _ active
  have said : (st.brokenOff r).handover 0 (some r) = told :=
    Station.handover_eq (st := st.brokenOff r) job dir 0 (some r)
  have ended : told.hatch.session.state = .aborted := by
    rw [Station.hand_hatch]
    rfl
  rw [steps, said, Station.bringIn_ended (.inr ended)]

end

/-! ### What the events of the drawer come to at a HATCH -/

theorem Station.setFlap_eq (st : Station) (f : Flap) (o : Bool) :
    st.onPins (·.setFlap f o) = { st with
      pins := match f with
        | .inner => { st.pins with innerFlapOpen := o }
        | .outer => { st.pins with outerFlapOpen := o } } := by
  cases f <;> rfl

theorem Station.live_of_running {st : Station} (h : st.running = true) : st.live = true :=
  (Bool.and_eq_true_iff.mp h).1

section
variable {s : Machine.State} (unit : s.station.hatchUnit = true)
include unit

theorem exec_endSwitchClose_drawer :
    Machine.exec (.endSwitchClose .innerEnd) s = .next (s.put
      (s.station.onPins fun p => { p with innerEnd := true }).innerEndClosed) := by
  have role := Station.role_of_hatchUnit unit
  refine s.next_put ((Station.onlyIf_of_true _ (Station.running_of_hatchUnit unit)).trans ?_)
  simp only [Station.cfg, Station.onPins_loader] at role ⊢
  rw [role]
  rfl

theorem exec_endSwitchOpen_drawer :
    Machine.exec (.endSwitchOpen .innerEnd) s = .next (s.put (Station.reported
      ((s.station.onPins fun p => { p with innerEnd := false }).loadLeaves .b))) := by
  have role := Station.role_of_hatchUnit unit
  refine s.next_put ((Station.onlyIf_of_true _ (Station.running_of_hatchUnit unit)).trans ?_)
  simp only [Station.cfg, Station.onPins_loader] at role ⊢
  rw [role]
  rfl

theorem exec_deadTimeExpiry_drawer :
    Machine.exec .deadTimeExpiry s = .next (s.put (Station.reported s.station.deadExpired)) :=
  s.next_put (Station.onlyIf_of_true _ (Station.live_of_running (Station.running_of_hatchUnit unit)))

theorem exec_travelExpiry_drawer :
    Machine.exec .travelExpiry s = .next (s.put (Station.reported s.station.travelExpired)) :=
  s.next_put (Station.onlyIf_of_true _ (Station.running_of_hatchUnit unit))

theorem exec_flapChange_drawer (f : Flap) (o : Bool) :
    Machine.exec (.flapChange f o) s
      = .next (s.put ((s.station.onPins (·.setFlap f o)).flapChanged o)) :=
  s.next_put (Station.onlyIf_of_true _ unit)

theorem exec_encoderTransition_drawer (a b : Bool) :
    Machine.exec (.encoderTransition a b) s = .next (s.put
      ((s.station.onPins fun p => { p with phaseA := a, phaseB := b }).encoderChanged a b)) :=
  s.next_put (Station.onlyIf_of_true _ unit)

end

/-- Settles O45: each event reports a stall to the hatch unit, which breaks the session off. -/
theorem sessionBreaksOff : Obligations.SessionBreaksOff := by
  intro s j d unit active job dir st m breaks stalled
  have hatch : st.cfg.role = .hatch := Station.role_of_hatchUnit unit
  have broke (c : StallCause) (x : Station) (p : Nat) (a b : Bool)
      (role : x.cfg.role = .hatch)
      (run : Host.Outcome Machine.State Machine.Fault Machine.Refusal)
      (hrun : run = .next (s.put (Station.reported ({ x with
        hatch := { st.hatch with position := p, refA := a, refB := b } }, some (.stalled c))))) :
      breaks c.abortReason c.abortReason.code
        { x with hatch := { st.hatch with position := p, refA := a, refB := b } } run := by
    have off := Station.abortSession_breaks
      (st := { x with hatch := { st.hatch with position := p, refA := a, refB := b } })
      c.abortReason active job dir
    rw [Station.reported_hatch (by exact role)] at hrun
    exact ⟨fun h => hrun.trans (s.next_put (off.trans (if_neg h))),
      fun h => hrun.trans (s.next_put (off.trans (if_pos h)))⟩
  have stays (c : StallCause) (x : Station) (role : x.cfg.role = .hatch) (same : x.hatch = st.hatch)
      (run : Host.Outcome Machine.State Machine.Fault Machine.Refusal)
      (hrun : run = .next (s.put (Station.reported (x, some (.stalled c))))) :
      breaks c.abortReason c.abortReason.code x run := by
    have eta : x = { x with hatch := { st.hatch with
        position := st.hatch.position, refA := st.hatch.refA, refB := st.hatch.refB } } := by
      rw [← same]
    rw [eta] at hrun ⊢
    exact broke c x _ _ _ role run hrun
  refine ⟨fun e hm => ⟨fun f => ?_, fun ha hb dead opened => ?_, fun a b ha hb => ?_⟩,
    fun ha hb dead opened => ?_, fun runs => ?_⟩
  · intro seen
    refine stays .interlock (stalled seen .interlock) hatch rfl _ ?_
    rw [exec_flapChange_drawer unit, Station.setFlap_eq]
    exact s.next_put (congrArg Station.reported (Station.stopEvent_moving (st := seen) .interlock hm))
  · refine stays .interlock _ ?_ ?_ _ ?_
    · exact hatch
    · rfl
    rw [exec_deadTimeExpiry_drawer unit,
      Station.deadExpired_due dead (Motion.pending_of_waiting hm ha hb),
      Station.driveDue_blocked (by exact opened)]
    have stall := Motion.stall_of_off (m := { m with dead := none }) ha hb .interlock
    refine s.next_put (congrArg (fun x => Station.reported (x, some _)) ?_)
    simp only [Station.onMotion]
    rw [stall]
  · refine broke .encoder (stalled { st with pins := { st.pins with phaseA := a, phaseB := b } } .encoder)
      st.hatch.position a b hatch _ ?_
    rw [exec_encoderTransition_drawer unit, Station.encoderChanged_faulty]
    · exact s.next_put (congrArg Station.reported (Station.stopEvent_moving .encoder (by exact hm)))
    · exact (encoderMove_faulty_iff ..).mpr ⟨ha, hb⟩
  · intro stopped
    refine ⟨fun rests => ?_, fun a b rests atEdge some_ inward => ?_⟩
    · refine stays .interlock _ ?_ ?_ _ ?_
      · exact hatch
      · rfl
      rw [exec_endSwitchOpen_drawer unit]
      exact s.next_put (congrArg Station.reported (Station.loadLeaves_blocked
        (st := { st with pins := { st.pins with innerEnd := false } }) rests ha hb dead opened))
    · refine broke .interlock
        { st with pins := { st.pins with phaseA := a, phaseB := b }, motion := stopped }
        (st.hatch.position - 1) a b hatch _ ?_
      have steps : encoderMove st.hatch.refA st.hatch.refB a b = .inward :=
        (encoderMove_inward_iff ..).mpr inward
      let seen : Station := { st with pins := { st.pins with phaseA := a, phaseB := b } }
      let moved : Station := seen.turnedTo a b (st.hatch.position - 1)
      have counted : seen.encoderChanged a b = moved.positionMoved st.hatch.position := by
        rw [seen.encoderChanged_counts (by rw [steps]; decide), steps]
        rfl
      have pushed : st.cfg.posOut - 16 ≤ st.hatch.position ∧
          moved.hatch.position < st.cfg.posOut - 16 := by
        have below : moved.hatch.position = st.hatch.position - 1 := rfl
        omega
      rw [exec_encoderTransition_drawer unit]
      exact s.next_put ((counted.trans (moved.positionMoved_falls pushed)).trans
        (congrArg Station.reported (Station.loadLeaves_blocked (st := moved) rests ha hb dead opened)))
  · refine stays .travel (stalled st .travel) hatch rfl _ ?_
    rw [exec_travelExpiry_drawer unit, Station.travelExpired_stalls runs]
    rfl

end Sys2Proof
end

section
/-! SUPPORT. An inbound handover at the drawer's arrival IN (R155), and the commands of the flaps and of the
inner end switch. -/

namespace Sys2Proof

/-! ### Handing a message on does not look at the hatch unit -/

section
variable (st : Station) (f : Hatch → Hatch)

theorem Station.select_onHatch : (st.onHatch f).select = st.select.onHatch f := by
  have same : (st.onHatch f).joined = st.joined := rfl
  unfold Station.select Station.onlyIf
  rw [same]
  split <;> rfl

theorem Station.onLine_onHatch (g : Line → Line) :
    (st.onHatch f).onLine g = (st.onLine g).onHatch f := rfl

theorem Station.loadReply_onHatch (t : Tid) :
    (st.onHatch f).loadReply t = (st.loadReply t).onHatch f := rfl

theorem Station.modifySlot_onHatch (n : Nat) (g : Slot → Slot) :
    (st.onHatch f).modifySlot n g = (st.modifySlot n g).onHatch f := rfl

theorem Station.join_onHatch (p : Pend) : (st.onHatch f).join p = (st.join p).onHatch f := by
  unfold Station.join
  cases p.body.timedTid with
  | none => simp only [Station.onLine_onHatch, Station.select_onHatch]
  | some t => simp only [Station.onLine_onHatch, Station.loadReply_onHatch, Station.select_onHatch]

theorem Station.takeDamage_onHatch (d : Nat × Nat) :
    (st.onHatch f).takeDamage d = (st.takeDamage d).onHatch f := by
  have alert : (st.onHatch f).damageAlert d.1 = st.damageAlert d.1 := rfl
  simp only [Station.takeDamage, alert, Station.modifySlot_onHatch, Station.join_onHatch]

theorem Station.takePend_onHatch (p : Pend) (rest : List Pend) :
    (st.onHatch f).takePend p rest = (st.takePend p rest).onHatch f := by
  simp only [Station.takePend, Station.onLine_onHatch, Station.join_onHatch]

theorem Station.placeOffer_onHatch :
    (st.onHatch f).placeOffer = st.placeOffer.map (·.onHatch f) := by
  have joined : (st.onHatch f).joined = st.joined := rfl
  have damage : (st.onHatch f).firstDamage = st.firstDamage := rfl
  unfold Station.placeOffer
  rw [joined, damage, Station.onHatch_line]
  split
  · rfl
  · split
    · rfl
    · simp [Station.takePend_onHatch]
    · simp [Station.takeDamage_onHatch]
    · split <;> simp [Station.takePend_onHatch, Station.takeDamage_onHatch]

theorem Station.offerUpTo_onHatch (k : Nat) :
    Station.offerUpTo k (st.onHatch f) = (Station.offerUpTo k st).onHatch f := by
  induction k generalizing st with
  | zero => rfl
  | succ k ih =>
    unfold Station.offerUpTo
    rw [Station.placeOffer_onHatch]
    cases st.placeOffer with
    | none => rfl
    | some st' => exact ih st'

theorem Station.hand_onHatch (k : Blk) (d : Addr) (b : Body) :
    (st.onHatch f).hand k d b = (st.hand k d b).onHatch f := by
  have same : (st.onHatch f).joined = st.joined := rfl
  unfold Station.hand Station.onlyIf
  rw [same]
  split
  · simp only [Station.onLine_onHatch, Station.offerPlaces, Station.offerUpTo_onHatch]
  · rfl

end

/-! ### The cartridges of an inbound handover filed (R155) -/

/-- The custody entry a cartridge of the manifest takes, with the destination expected for it. -/
def Station.filedEntry (st : Station) (j : Job) (m : ManifestItem) : CustodyEntry where
  cart := m.cart
  job := j
  state := .heldInbound
  dest := (st.hatch.expected.find? fun e => decide (e.cart = m.cart)).map (·.dest)

/-- The expected entries that none of the cartridges has. -/
def Station.expectedBeside (st : Station) (ms : List ManifestItem) : List ExpectedEntry :=
  st.hatch.expected.filter fun e => ms.all fun m => decide (m.cart ≠ e.cart)

/-- Cartridges joined to the custody list, with the expected list written. -/
def Station.withFiled (st : Station) (cs : List CustodyEntry) (es : List ExpectedEntry) : Station :=
  { st with
    hatch := { st.hatch with
      custody := st.hatch.custody ++ cs, custodyCheck := 0, expected := es, expectedCheck := 0 } }

theorem Station.withFiled_withFiled (st : Station) (cs cs' : List CustodyEntry)
    (es es' : List ExpectedEntry) :
    (st.withFiled cs es).withFiled cs' es' = st.withFiled (cs ++ cs') es' := by
  simp only [Station.withFiled, List.append_assoc]

/-- All cartridges of a manifest filed at once. -/
def Station.filedAll (st : Station) (j : Job) (ms : List ManifestItem) : Station :=
  st.withFiled (ms.map (st.filedEntry j)) (st.expectedBeside ms)

theorem Station.fileInbound_eq (st : Station) (j : Job) (m : ManifestItem) :
    st.fileInbound j m.cart = st.filedAll j [m] := by
  have others : st.expectedBeside [m]
      = st.hatch.expected.filter fun e => decide (e.cart ≠ m.cart) := by
    refine List.filter_congr fun e _ => ?_
    simp [eq_comm]
  unfold Station.filedAll
  rw [others]
  rfl

/-- Filing one cartridge leaves the destinations of the others. -/
theorem Station.filedEntry_filedAll (st : Station) (j : Job) {m x : ManifestItem}
    (h : m.cart ≠ x.cart) : (st.filedAll j [m]).filedEntry j x = st.filedEntry j x := by
  have found : (st.expectedBeside [m]).find? (fun e => decide (e.cart = x.cart))
      = st.hatch.expected.find? fun e => decide (e.cart = x.cart) := by
    rw [Station.expectedBeside, List.find?_filter]
    refine congrArg (fun p => st.hatch.expected.find? p) (funext fun e => ?_)
    by_cases hx : e.cart = x.cart
    · simp [hx, h]
    · simp [hx]
  unfold Station.filedEntry
  exact congrArg _ (congrArg (Option.map ExpectedEntry.dest) found)

theorem Station.filedAll_filedAll (st : Station) (j : Job) {m : ManifestItem} {ms : List ManifestItem}
    (h : m.cart ∉ ms.map ManifestItem.cart) :
    (st.filedAll j [m]).filedAll j ms = st.filedAll j (m :: ms) := by
  have entries : ms.map ((st.filedAll j [m]).filedEntry j) = ms.map (st.filedEntry j) :=
    List.map_congr_left fun x hx => st.filedEntry_filedAll j fun e =>
      h (e ▸ List.mem_map_of_mem hx)
  have others : (st.filedAll j [m]).expectedBeside ms = st.expectedBeside (m :: ms) := by
    change (st.expectedBeside [m]).filter _ = _
    rw [Station.expectedBeside, List.filter_filter]
    refine List.filter_congr fun e _ => ?_
    simp [Bool.and_comm]
  calc (st.filedAll j [m]).filedAll j ms
      = (st.filedAll j [m]).withFiled (ms.map (st.filedEntry j)) (st.expectedBeside (m :: ms)) := by
        rw [← entries, ← others]
        rfl
    _ = st.filedAll j (m :: ms) := st.withFiled_withFiled _ _ _ _

theorem Station.foldl_fileInbound (st : Station) (j : Job) {ms : List ManifestItem} (hne : ms ≠ [])
    (distinct : (ms.map ManifestItem.cart).Nodup) :
    ms.foldl (fun st m => st.fileInbound j m.cart) st = st.filedAll j ms := by
  induction ms generalizing st with
  | nil => exact absurd rfl hne
  | cons m ms ih =>
    obtain ⟨fresh, rest⟩ := List.nodup_cons.mp distinct
    rw [List.foldl_cons, Station.fileInbound_eq]
    cases ms with
    | nil => rfl
    | cons x ms => rw [ih _ (by simp) rest, st.filedAll_filedAll j fresh]

/-- An inbound handover with the drawer at rest IN: `y` is the station with the cartridges filed, its session
as it was. -/
theorem Station.handInbound_rests {st y : Station} {j : Job}
    (job : st.hatch.session.job = some j)
    (filed : st.hatch.session.manifest.foldl (fun st m => st.fileInbound j m.cart)
      (st.endSession .handed none) = y.endSession .handed none)
    (rests : y.motion.state = .resting .b) (still : y.hatch.session.job = some j)
    (dir : y.hatch.session.direction = some .inbound) :
    st.handInbound = (y.hand .hatch 255 (.handover
      { job := j, direction := 1, handed := BitVec.ofNat 8 st.hatch.session.manifest.length
        remaining := BitVec.ofNat 8 (y.hatch.expected.filter fun e => decide (e.job = j)).length
        outcome := 0, reason := none })).onSession fun _ => .idle := by
  have steps : st.handInbound = (((y.endSession .handed none).handover
      st.hatch.session.manifest.length none).onSession fun x => { x with manifest := [] }).settleSession := by
    unfold Station.handInbound
    simp only [job, Option.getD_some, filed]
  generalize told_eq : y.hand .hatch 255 (.handover _) = told
  have said : (y.endSession .handed none).handover st.hatch.session.manifest.length none
      = told.endSession .handed none := by
    rw [Station.handover_eq (st := y.endSession .handed none) still dir, ← told_eq]
    exact y.hand_onHatch _ _ _ _
  have kept : told.motion.state = .resting .b :=
    (congrArg Motion.state (told_eq ▸ y.hand_motion _ _ _)).trans rests
  rw [steps, said, Station.settleSession_ended (.inl rfl)]
  exact if_pos kept

/-! ### The drawer's arrival IN (R157, R160) -/

section
variable {st : Station}

theorem Station.arrivalComes_resting {x : MotionEnd} (h : st.motion.state = .resting x)
    (e : MotionEnd) : st.arrivalComes e = (st, none) := by
  simp [Station.arrivalComes, h]

theorem Station.hatchReport_in (h : st.hatch.session.state ≠ .returning) :
    st.hatchReport (.arrived .b) = st.settleSession := by
  simp [Station.hatchReport, h]

theorem Station.hatchReport_in_returning (h : st.hatch.session.state = .returning) :
    st.hatchReport (.arrived .b) = st.handInbound := by
  simp [Station.hatchReport, h]

/-- The counter set to 0 reaches no outer end, and pushes back only a drawer that rests OUT (R160). -/
theorem Station.setPosition_zero (h : st.motion.state ≠ .resting .a ∨
    st.hatch.position < st.cfg.posOut - 16) :
    st.setPosition 0 = st.onHatch fun x => { x with position := 0 } := by
  let zeroed := st.onHatch fun x => { x with position := 0 }
  change zeroed.positionMoved st.hatch.position = zeroed
  have position : zeroed.hatch.position = 0 := rfl
  have limit : zeroed.cfg.posOut = st.cfg.posOut := rfl
  by_cases falls : zeroed.cfg.posOut - 16 ≤ st.hatch.position ∧
      zeroed.hatch.position < zeroed.cfg.posOut - 16
  · have away : zeroed.motion.state ≠ .resting .a := h.resolve_right (by omega)
    rw [zeroed.positionMoved_falls falls, Station.loadLeaves_elsewhere away, Station.reported_silent]
  · exact zeroed.positionMoved_between (by omega) falls

theorem Station.setPosition_zero_pushed (far : st.cfg.posOut - 16 ≤ st.hatch.position)
    (out : 0 < st.cfg.posOut - 16) :
    st.setPosition 0
      = Station.reported ((st.onHatch fun x => { x with position := 0 }).loadLeaves .a) :=
  Station.positionMoved_falls _ ⟨far, out⟩

end

/-! ### The commands of the flaps and of INNER-END -/

/-- A drawer that stands STALLED away from its end, with both flaps shut, is driven and reports nothing. -/
theorem Station.command_stalled_shut {st : Station} {e : MotionEnd}
    (stalled : st.motion.state = .stalled) (away : st.arrivalHolds e = false)
    (shut : st.flapBlocks = false) : (st.command e).2 = none := by
  have drives : st.command e = (st.commanded e).startDrive e :=
    Station.command_drives (by simp [stalled]) (by simp [stalled]) (.inr away)
  rw [drives]
  cases dead : (st.commanded e).motion.coilsOff.dead with
  | some n => rw [Station.startDrive_waits (by rw [dead]; rfl)]
  | none => rw [Station.startDrive_on dead (by exact shut)]

theorem Station.reported_of_silent {p : Station × Option Report} (h : p.2 = none) :
    Station.reported p = p.1 := by
  obtain ⟨x, r⟩ := p
  rw [show r = none from h]
  exact Station.reported_silent x

theorem Station.flapBlocks_of_flapsShut {st : Station} (h : st.flapsShut = true) :
    st.flapBlocks = false := by
  simp [Station.flapsShut] at h
  simp [Station.flapBlocks, h]

/-- A change of a flap at a HATCH with no session to break off (R161). -/
theorem flapChange_table {s : Machine.State} (unit : s.station.hatchUnit = true) (f : Flap) (o : Bool) :
    let st := s.station
    let pins := match f with
      | .inner => { st.pins with innerFlapOpen := o }
      | .outer => { st.pins with outerFlapOpen := o }
    let seen : Station := { st with pins := pins }
    let run := Machine.exec (.flapChange f o) s
    let shut := pins.innerFlapOpen = false ∧ pins.outerFlapOpen = false
    (∀ e, o = true → st.motion.state = .moving e → st.hatch.session.state.active = false →
      run = .next (s.put (seen.onMotion (·.stall .interlock)))) ∧
    (o = true → (∀ e, st.motion.state ≠ .moving e) → run = .next (s.put seen)) ∧
    (o = false →
      (shut → st.motion.state = .stalled → st.motion.cause = some .interlock →
        seen.arrivalHolds (st.motion.last.getD .b) = false →
        run = .next (s.put (seen.command (st.motion.last.getD .b)).1)) ∧
      (¬shut ∨ st.motion.state ≠ .stalled ∨ st.motion.cause ≠ some .interlock →
        run = .next (s.put seen))) := by
  intro st pins seen run shut
  have acts : run = .next (s.put (seen.flapChanged o)) := by
    rw [← show st.onPins (·.setFlap f o) = seen from Station.setFlap_eq st f o]
    exact exec_flapChange_drawer unit f o
  rw [acts]
  refine ⟨fun e ho hm quiet => ?_, fun ho hm => ?_, fun ho => ⟨fun hs hm hc away => ?_, fun h => ?_⟩⟩
  · subst ho
    exact s.next_put ((congrArg Station.reported (Station.stopEvent_moving (st := seen) .interlock hm)).trans
      (Station.reported_stall_quiet (.inr quiet)))
  · subst ho
    exact s.next_put ((congrArg Station.reported (Station.stopEvent_still (st := seen) .interlock hm)).trans
      (Station.reported_silent seen))
  · subst ho
    have bothShut : seen.flapsShut = true := by simp [Station.flapsShut, seen, hs.1, hs.2]
    have guard : (seen.flapsShut && decide (seen.motion.state = .stalled)
        && decide (seen.motion.cause = some .interlock)) = true := by
      simp only [bothShut, Bool.true_and, Bool.and_eq_true, decide_eq_true_iff]
      exact ⟨hm, hc⟩
    refine s.next_put ((Station.onlyIf_of_true _ guard).trans (Station.reported_of_silent ?_))
    exact Station.command_stalled_shut (st := seen) hm away (Station.flapBlocks_of_flapsShut bothShut)
  · subst ho
    have guard : (seen.flapsShut && decide (seen.motion.state = .stalled)
        && decide (seen.motion.cause = some .interlock)) = false := by
      rw [Bool.eq_false_iff]
      intro h'
      simp only [Station.flapsShut, Bool.and_eq_true, Bool.not_eq_true', decide_eq_true_iff] at h'
      obtain ⟨⟨hs, hm⟩, hc⟩ := h'
      exact h.elim (fun n => n hs) fun n => n.elim (fun n => n hm) fun n => n hc
    exact s.next_put (Station.onlyIf_of_false _ guard)

/-- Settles O47: the flaps by `flapChange_table`; INNER-END closing through the counter set to 0, the drawer's
arrival and what the session does about it; INNER-END opening through the end the drawer leaves. -/
theorem flapsAndInnerEnd : Obligations.FlapsAndInnerEnd := by
  refine ⟨fun s f o away => ?_, fun s unit => ?_⟩
  · exact s.next_put ((Station.onlyIf_of_false _ away).trans (s.station.setFlap_eq f o))
  · intro st x close opened zeroed comes rests left
    have hatch : st.cfg.role = .hatch := Station.role_of_hatchUnit unit
    let seen : Station := { st with pins := { st.pins with innerEnd := true } }
    have closes : close = .next (s.put (Station.reported ((seen.setPosition 0).arrivalComes .b))) :=
      exec_endSwitchClose_drawer unit
    have opens : opened = .next (s.put (Station.reported (left.loadLeaves .b))) :=
      exec_endSwitchOpen_drawer unit
    have stays (h : st.motion.state ≠ .resting .a ∨ st.hatch.position < st.cfg.posOut - 16) :
        close = .next (s.put (Station.reported (zeroed.arrivalComes .b))) := by
      rw [closes, Station.setPosition_zero (st := seen) h]
      rfl
    have arrives (h : comes) : close = .next (s.put (rests.hatchReport (.arrived .b))) := by
      have away : st.motion.state ≠ .resting .a := by
        rcases h with h | ⟨h, -⟩ <;> simp [h]
      rw [stays (.inl away), Station.arrivalComes_arrives (st := zeroed) h,
        Station.reported_hatch (by exact hatch)]
    refine ⟨flapChange_table unit, fun away hn => ?_, fun out short => ?_, fun out far pos ha hb dead shut => ?_,
      fun h hh ha hr => ?_, fun h he => ?_, fun j h hr job dir some_ distinct => ?_,
      fun j h hr job dir none_ => ?_, fun away => ?_, fun hm ha hb dead hi ho => ?_,
      fun hm ha hb dead => ?_, fun hm ha hb dead opened q => ?_⟩
    · rw [stays (.inl away), Station.arrivalComes_elsewhere (st := zeroed) (fun e => hn (.inl e))
        (fun e => hn (.inr e)), Station.reported_silent]
    · rw [stays (.inr short), Station.arrivalComes_resting (st := zeroed) out .b, Station.reported_silent]
    · have pushed : seen.setPosition 0 = zeroed.onMotion fun m => { m with
          state := .moving .a, cause := none, coilA := true
          travel := some (ticksOfSec st.cfg.drawerTravel) } := by
        refine (Station.setPosition_zero_pushed (st := seen) far pos).trans ?_
        change Station.reported (zeroed.loadLeaves .a) = _
        rw [Station.loadLeaves_on_a (st := zeroed) ha hb dead shut out, Station.reported_silent,
          Station.travelLimit_of_hatch (by exact hatch)]
        rfl
      rw [closes, pushed, Station.arrivalComes_elsewhere (by simp) (by simp), Station.reported_silent]
    · rw [arrives h, Station.hatchReport_in (by exact hr),
        Station.settleSession_open (by exact hh) (by exact ha)]
    · have other : x.state ≠ .returning := by rcases he with he | he <;> simp [he]
      rw [arrives h, Station.hatchReport_in (by exact other), Station.settleSession_ended (by exact he)]
      rfl
    · intro kept filed
      have carried : x.manifest.foldl (fun st m => st.fileInbound j m.cart) (rests.endSession .handed none)
          = (rests.filedAll j x.manifest).endSession .handed none :=
        Station.foldl_fileInbound _ j some_ distinct
      rw [arrives h, Station.hatchReport_in_returning (by exact hr)]
      exact s.next_put (Station.handInbound_rests (st := rests) (y := rests.filedAll j x.manifest)
        job carried rfl job dir)
    · have carried : x.manifest.foldl (fun st m => st.fileInbound j m.cart) (rests.endSession .handed none)
          = rests.endSession .handed none := by rw [none_]; rfl
      have shown := Station.handInbound_rests (st := rests) (y := rests) job carried rfl job dir
      rw [arrives h, Station.hatchReport_in_returning (by exact hr)]
      refine s.next_put (shown.trans ?_)
      have count : rests.hatch.session.manifest.length = 0 := congrArg List.length none_
      rw [count]
      rfl
    · rw [opens, Station.loadLeaves_elsewhere (st := left) away, Station.reported_silent]
    · rw [opens, Station.loadLeaves_on_b (st := left) ha hb dead (Station.flapBlocks_of_shut hi ho) hm,
        Station.reported_silent, Station.travelLimit_of_hatch (by exact hatch)]
      rfl
    · rw [opens, Station.loadLeaves_waits (st := left) hm ha hb dead, Station.reported_silent]
      rfl
    · rw [opens, Station.loadLeaves_blocked (st := left) hm ha hb dead (by exact opened),
        Station.reported_stall_quiet (.inr (by exact q))]
      rfl

end Sys2Proof
end

section
/-! SUPPORT. RESTORE (R72, R73), and how the blocks resume. -/

namespace Sys2Proof

theorem exec_restore (src : Addr) (seq : Byte) (s : Machine.State) :
    Machine.exec (.restore src seq) s
      = .next (s.put (Station.fromConsole src (Station.takeRestore src seq) s.station)) := rfl

section
variable {st : Station}

/-! ### The blocks resume (R70, R73) -/

theorem Station.suspensionTest_of_idle (h : st.audit.state = .idle) : st.suspensionTest = st := by
  unfold Station.suspensionTest Station.onlyIf
  simp [h]

/-- The lighting looks at JOINED, the fire state and the entries alone (R110). -/
theorem Station.relight_beside (x : Station) (frozen : x.frozen = st.frozen) (pulls : x.pulls = st.pulls) :
    x.relight = { x with pulls := st.relight.pulls } := by
  unfold Station.relight
  rw [frozen, pulls]
  simp only [Station.setPulls, Station.onPulls, pulls]

/-- The pull queue and the transfer engine resume beside a dry-air unit that has made its part. -/
theorem Station.resumes_beside (x : Station) (frozen : x.frozen = st.frozen) (pulls : x.pulls = st.pulls)
    (idle : x.audit.state = .idle) :
    x.pullsChanged.onTransits Transit.resume
      = ({ x with pulls := st.relight.pulls } : Station).onTransits Transit.resume := by
  unfold Station.pullsChanged
  rw [Station.relight_beside x frozen pulls]
  exact congrArg (Station.onTransits · Transit.resume) (Station.suspensionTest_of_idle idle)

@[simp] theorem Station.command_frozen (st : Station) (e : MotionEnd) :
    (st.command e).1.frozen = st.frozen := by rw [Station.command_motion]; rfl

@[simp] theorem Station.command_pulls (st : Station) (e : MotionEnd) :
    (st.command e).1.pulls = st.pulls := by rw [Station.command_motion]

@[simp] theorem Station.command_audit (st : Station) (e : MotionEnd) :
    (st.command e).1.audit = st.audit := by rw [Station.command_motion]

@[simp] theorem Station.command_xfer (st : Station) (e : MotionEnd) :
    (st.command e).1.xfer = st.xfer := by rw [Station.command_motion]

theorem Transit.resume_eq (t : Transit) :
    t.resume = match t with
      | .paused n => .running n
      | .running n => .running n
      | .stopped => .stopped := by
  cases t <;> rfl

/-! ### RESTORE -/

theorem Station.alarmReading_iff :
    st.alarmReading = true ↔
      ∃ n : Fin 4, (st.cfg.loop n).kind ≠ .unused ∧ (st.det.loop n).band = some .alarm := by
  simp [Station.alarmReading, Station.anyUsedLoop_iff]

/-- A change to an unconfirmed fire state from an unconfirmed one: no block acts (R71). -/
theorem Station.setFire_within (f : FireState) (h : st.confirmed = f.confirmed) :
    st.setFire f = (st.onSupp (·.take f)).handFireReport := by
  unfold Station.setFire
  simp only [h, if_true]

/-- A change out of the confirmed states: the blocks resume (R71, R73). -/
theorem Station.setFire_leaves {f : FireState} (h : st.confirmed = true) (hf : f.confirmed = false) :
    st.setFire f = (st.onSupp (·.take f)).followUnconfirmed.handFireReport := by
  unfold Station.setFire
  simp only [h, hf, Bool.true_eq_false, Bool.false_eq_true, if_false]

/-- The table of R72, the answers written out. -/
theorem Station.takeRestore_eq (src : Addr) (seq : Byte) (st : Station) :
    st.takeRestore src seq =
      if !st.joined then st.reply .suppression src 19 seq .notReady
      else if st.supp.fire = .normal then st.reply .suppression src 19 seq .done
      else if st.supp.fire.restoreBusy then st.reply .suppression src 19 seq .busy
      else if st.alarmReading then st.reply .suppression src 19 seq .active
      else st.restored.reply .suppression src 19 seq .done := rfl

theorem Station.takeRestore_away (src : Addr) (seq : Byte) (h : st.joined = false) :
    st.takeRestore src seq = st := by
  rw [Station.takeRestore_eq, if_pos (by simp [h]), Station.reply_not_joined h]

section
variable (src : Addr) (seq : Byte) (joined : st.joined = true)
include joined

theorem Station.takeRestore_normal (normal : st.supp.fire = .normal) :
    st.takeRestore src seq = st.reply .suppression src 19 seq .done := by
  rw [Station.takeRestore_eq, if_neg (by simp [joined]), if_pos normal]

theorem Station.takeRestore_busy (busy : st.supp.fire.restoreBusy = true) :
    st.takeRestore src seq = st.reply .suppression src 19 seq .busy := by
  have other : st.supp.fire ≠ .normal := fun h => by simp [h, FireState.restoreBusy] at busy
  rw [Station.takeRestore_eq, if_neg (by simp [joined]), if_neg other, if_pos busy]

/-- The rows of R72 that a RESTORE reaches from PREALARM, VENT and BLOCKED. -/
theorem Station.takeRestore_open
    (takes : st.supp.fire = .prealarm ∨ st.supp.fire = .vent ∨ st.supp.fire = .blocked) :
    st.takeRestore src seq =
      if st.alarmReading then st.reply .suppression src 19 seq .active
      else st.restored.reply .suppression src 19 seq .done := by
  have other : st.supp.fire ≠ .normal := by rcases takes with h | h | h <;> simp [h]
  have free : st.supp.fire.restoreBusy = false := by
    rcases takes with h | h | h <;> exact congrArg FireState.restoreBusy h
  rw [Station.takeRestore_eq, if_neg (by simp [joined]), if_neg other, if_neg (by simp [free])]

end

end

/-- Settles O18: the rows of R72 in the order in which the controller asks; then the dry-air unit by itself, and
the other blocks beside it. -/
theorem restoreTable : Obligations.RestoreTable := by
  refine ⟨fun s src seq heard => ?_, fun st unconfirmed idle => ?_⟩
  · intro answer fire clear d restored reading
    have acts : Machine.exec (.restore src seq) s
        = .next (s.put (Station.takeRestore src seq s.station)) := by
      rw [exec_restore, Station.fromConsole_heard _ heard]
    rw [acts]
    refine ⟨fun away => ?_, fun joined => ⟨fun normal => ?_, fun busy => ?_, fun takes => ⟨fun alarm => ?_,
      fun quiet before => ?_, fun quiet after => ?_⟩⟩⟩
    · exact s.next_put (Station.takeRestore_away src seq away)
    · exact s.next_put (Station.takeRestore_normal src seq joined normal)
    · have isBusy : s.station.supp.fire.restoreBusy = true := by
        rcases busy with h | h | h | h | h <;> exact congrArg FireState.restoreBusy h
      exact s.next_put (Station.takeRestore_busy src seq joined isBusy)
    · refine s.next_put ((Station.takeRestore_open src seq joined takes).trans ?_)
      rw [if_pos (Station.alarmReading_iff.mpr alarm)]
    · have unconfirmed : s.station.confirmed = false := congrArg FireState.confirmed before
      have within : s.station.restored = restored.handFireReport :=
        Station.setFire_within .normal unconfirmed
      refine s.next_put ((Station.takeRestore_open src seq joined takes).trans ?_)
      rw [if_neg fun h => quiet (Station.alarmReading_iff.mp h), within]
    · have confirmed : s.station.confirmed = true := by
        rcases takes.resolve_left after with h | h <;> exact congrArg FireState.confirmed h
      have leaves : s.station.restored = restored.followUnconfirmed.handFireReport :=
        Station.setFire_leaves (f := .normal) confirmed rfl
      refine s.next_put ((Station.takeRestore_open src seq joined takes).trans ?_)
      rw [if_neg fun h => quiet (Station.alarmReading_iff.mp h), leaves]
  · intro opened resumed
    have others (x : Station) (frozen : x.frozen = st.frozen) (pulls : x.pulls = st.pulls)
        (audit : x.audit = st.audit) (xfer : x.xfer = st.xfer) :
        x.pullsChanged.onTransits Transit.resume = resumed x := by
      rw [Station.resumes_beside x frozen pulls (audit ▸ idle)]
      unfold Station.onTransits
      simp only [xfer, Transit.resume_eq]
      rfl
    refine ⟨fun bay safe free => ?_, fun h => ?_⟩
    · have part : st.followAir = opened :=
        (Station.onlyIf_of_true _ (decide_eq_true bay)).trans
          (Station.evalForcedSafe_ends (by simp [Station.forcedSafeHolds, unconfirmed, free]) safe)
      unfold Station.followUnconfirmed
      rw [part]
      exact others opened (Station.command_frozen _ .a) (Station.command_pulls _ .a)
        (Station.command_audit _ .a) (Station.command_xfer _ .a)
    · have part : st.followAir = st := by
        rcases h with hatch | h
        · exact Station.onlyIf_of_false _ (by simp [hatch])
        · have stays : st.evalForcedSafe = st :=
            Station.evalForcedSafe_stays (by simp [Station.forcedSafeHolds, unconfirmed, h])
          unfold Station.followAir Station.onlyIf
          rw [stays, ite_self]
      unfold Station.followUnconfirmed
      rw [part]
      exact others st rfl rfl rfl rfl

end Sys2Proof
end

section
/-! SUPPORT. Entry into a confirmed state (R70, R71): the pull queue frozen, the audit ended, and the motion
channel and the hatch unit behind them. -/

namespace Sys2Proof

section
variable {st a b : Station}

/-! ### The pull queue frozen and the audit ended -/

/-- A frozen queue as R110 leaves it: confirmed, with no entry LIT and no lamp asked for. -/
structure Station.Dark (st : Station) : Prop where
  confirmed : st.confirmed = true
  unlit : ∀ e ∈ st.pulls.entries, e.state ≠ .lit
  lamp : st.pulls.lamp = none

/-- A dark queue with no audit under way. -/
structure Station.Still (st : Station) : Prop extends st.Dark where
  idle : st.audit.state = .idle

theorem Station.confirmed_of_outer (h : b.outer = a.outer) : b.confirmed = a.confirmed :=
  congrArg (fun s => s.fire.confirmed) (Station.supp_of_outer h)

theorem Station.Dark.of_same (h : a.Dark) (outer : b.outer = a.outer) (pulls : b.pulls = a.pulls) :
    b.Dark where
  confirmed := (Station.confirmed_of_outer outer).trans h.confirmed
  unlit := pulls ▸ h.unlit
  lamp := pulls ▸ h.lamp

theorem Station.Still.of_same (h : a.Still) (outer : b.outer = a.outer) (pulls : b.pulls = a.pulls)
    (audit : b.audit = a.audit) : b.Still where
  toDark := h.toDark.of_same outer pulls
  idle := audit ▸ h.idle

theorem Station.Still.of_kept (h : a.Still) (kept : b.kept = a.kept) : b.Still :=
  h.of_same (Station.outer_of_kept kept) (Station.pulls_of_kept kept) (Station.audit_of_kept kept)

/-- In a frozen queue every entry not in OUT is WAITING. -/
theorem relit_frozen (es : List PullEntry) :
    relit true es = es.map fun e => if e.state = .out then e else { e with state := .waiting } := by
  induction es with
  | nil => rfl
  | cons e es ih =>
    rw [List.map_cons, ← ih, relit]
    split <;> rfl

theorem relit_frozen_unlit (es : List PullEntry) : ∀ e ∈ relit true es, e.state ≠ .lit := by
  rw [relit_frozen]
  intro e he
  obtain ⟨x, -, rfl⟩ := List.mem_map.mp he
  split
  · next out => simp [out]
  · simp

theorem litSlot_of_unlit {es : List PullEntry} (h : ∀ e ∈ es, e.state ≠ .lit) : litSlot es = none := by
  have none : es.find? (fun e => decide (e.state = .lit)) = none :=
    List.find?_eq_none.mpr fun e he => by simpa using h e he
  simp [litSlot, none]

/-- The lighting of R110 in a confirmed state. -/
theorem Station.relight_confirmed (h : st.confirmed = true) :
    st.relight.pulls = { st.pulls with
      check := 0, lamp := none
      entries := st.pulls.entries.map fun e =>
        if e.state = .out then e else { e with state := .waiting } } := by
  have frozen : st.frozen = true := by simp [Station.frozen, h]
  unfold Station.relight
  rw [frozen]
  simp only [Station.setPulls, Station.onPulls, litSlot_of_unlit (relit_frozen_unlit st.pulls.entries)]
  rw [relit_frozen]

theorem Station.relight_dark (h : st.confirmed = true) : st.relight.Dark where
  confirmed := h
  unlit := by
    have frozen : st.frozen = true := by simp [Station.frozen, h]
    change ∀ e ∈ relit st.frozen st.pulls.entries, _
    rw [frozen]
    exact relit_frozen_unlit _
  lamp := by rw [Station.relight_confirmed h]

@[simp] theorem Station.auditReply_kept (st : Station) (o : ReplyOutcome) (d : Detail) :
    (st.auditReply o d).kept = st.kept := by simp [Station.auditReply]

@[simp] theorem Station.auditReply_pulls (st : Station) (o : ReplyOutcome) (d : Detail) :
    (st.auditReply o d).pulls = st.pulls := Station.pulls_of_kept (st.auditReply_kept o d)

theorem Station.auditComplete_pulls (st : Station) : st.auditComplete.pulls = st.pulls :=
  st.auditReply_pulls _ _

theorem Station.suspensionTest_pulls (st : Station) : st.suspensionTest.pulls = st.pulls := by
  unfold Station.suspensionTest
  split
  · exact Station.onlyIf_keeps (P := fun s => s.pulls = st.pulls) rfl fun h => h
  · refine Station.onlyIf_keeps (P := fun s => s.pulls = st.pulls) rfl fun h => ?_
    split
    · exact h
    · exact (Station.auditComplete_pulls _).trans h

theorem Station.pullsChanged_dark (h : st.confirmed = true) : st.pullsChanged.Dark :=
  (Station.relight_dark h).of_same (Station.suspensionTest_outer _) (Station.suspensionTest_pulls _)

theorem Station.Still.cancelPulls (h : st.Still) (p : PullEntry → Bool) : (st.cancelPulls p).Still := by
  unfold Station.cancelPulls
  dsimp only
  split
  · exact h
  · generalize gone : st.pulls.entries.filter p = es
    generalize left : st.setPulls (st.pulls.entries.filter fun e => !p e) = y
    have outer : (es.foldl Station.replyCancelled y).outer = st.outer :=
      (Station.foldl_outer _ Station.replyCancelled_outer es y).trans (left ▸ rfl)
    have audit : (es.foldl Station.replyCancelled y).audit = st.audit :=
      List.foldlRecOn (motive := fun (s : Station) => s.audit = st.audit) es _ (left ▸ rfl) fun s hs e _ =>
        (Station.audit_of_kept (s.reply_kept _ _ _ _ _ _)).trans hs
    have idle : (es.foldl Station.replyCancelled y).relight.audit.state = .idle :=
      (congrArg Audit.state audit).trans h.idle
    exact {
      toDark := Station.pullsChanged_dark ((Station.confirmed_of_outer outer).trans h.confirmed)
      idle := by
        unfold Station.pullsChanged
        rw [Station.suspensionTest_of_idle idle, idle] }

theorem Station.Still.noticeDamage (h : st.Still) (n : Nat) : (st.noticeDamage n).Still := by
  unfold Station.noticeDamage
  dsimp only
  split
  · have marked : (st.modifySlot n fun s => { s with damage := .pending st.line.made }).numbered.Still :=
      h.of_same rfl rfl rfl
    have told := marked.of_kept (Station.offerPlaces_kept _)
    split
    · exact told.cancelPulls _
    · exact told
  · exact h

theorem Station.Still.setUnplanned (h : st.Still) (n : Nat) : (st.setUnplanned n).Still := by
  unfold Station.setUnplanned
  split
  · next c _ _ =>
    have put : (st.putRecord n (.out c true)).Still := h.of_same rfl rfl rfl
    exact put.cancelPulls _
  · exact h

theorem Station.Dark.auditAbort (h : st.Dark) : st.auditAbort.Still := by
  unfold Station.auditAbort
  by_cases idle : st.audit.state = .idle
  · rw [Station.onlyIf_of_false _ (by simp [idle])]
    exact ⟨h, idle⟩
  · rw [Station.onlyIf_of_true _ (by simp [idle])]
    dsimp only
    generalize told_eq : st.auditReply .aborted _ = told
    have kept : told.kept = st.kept := told_eq ▸ st.auditReply_kept _ _
    have said : told.Dark := h.of_same (Station.outer_of_kept kept) (Station.pulls_of_kept kept)
    have ended : (told.onAudit fun _ => .start).Still := ⟨said.of_same rfl rfl, rfl⟩
    split
    · exact ended
    · next n _ =>
      have read := ended.noticeDamage n
      split
      · split
        · exact read
        · exact read.setUnplanned n
      · exact read

/-! ### The hatch unit beside the pull queue and the audit -/

@[simp] theorem Station.auditReply_hatch (st : Station) (o : ReplyOutcome) (d : Detail) :
    (st.auditReply o d).hatch = st.hatch := Station.hatch_of_kept (st.auditReply_kept o d)

theorem Station.pullsChanged_hatch (st : Station) : st.pullsChanged.hatch = st.hatch := by
  have suspends (x : Station) : x.suspensionTest.hatch = x.hatch := by
    unfold Station.suspensionTest
    split
    · exact Station.onlyIf_keeps (P := fun s => s.hatch = x.hatch) rfl fun h => h
    · refine Station.onlyIf_keeps (P := fun s => s.hatch = x.hatch) rfl fun h => ?_
      split
      · exact h
      · exact (Station.auditReply_hatch _ _ _).trans h
  exact suspends st.relight

theorem Station.cancelPulls_hatch (st : Station) (p : PullEntry → Bool) :
    (st.cancelPulls p).hatch = st.hatch := by
  unfold Station.cancelPulls
  dsimp only
  split
  · rfl
  · rw [Station.pullsChanged_hatch]
    exact List.foldlRecOn (motive := fun (s : Station) => s.hatch = st.hatch) _ _ rfl fun s hs e _ =>
      (Station.hatch_of_kept (s.reply_kept _ _ _ _ _ _)).trans hs

theorem Station.noticeDamage_hatch (st : Station) (n : Nat) : (st.noticeDamage n).hatch = st.hatch := by
  have told (x : Station) : x.offerPlaces.hatch = x.hatch := Station.hatch_of_kept x.offerPlaces_kept
  unfold Station.noticeDamage
  dsimp only
  split
  · split
    · rw [Station.cancelPulls_hatch, told]
      rfl
    · exact told _
  · rfl

theorem Station.setUnplanned_hatch (st : Station) (n : Nat) : (st.setUnplanned n).hatch = st.hatch := by
  unfold Station.setUnplanned
  split
  · exact Station.cancelPulls_hatch _ _
  · rfl

theorem Station.auditAbort_hatch (st : Station) : st.auditAbort.hatch = st.hatch := by
  refine Station.onlyIf_keeps (P := fun s => s.hatch = st.hatch) rfl fun _ => ?_
  dsimp only
  split
  · exact st.auditReply_hatch _ _
  · next n _ =>
    have read (d : Detail) :
        (((st.auditReply .aborted d).onAudit fun _ => .start).noticeDamage n).hatch = st.hatch :=
      (Station.noticeDamage_hatch _ n).trans (st.auditReply_hatch _ d)
    split
    · split
      · exact read _
      · exact (Station.setUnplanned_hatch _ n).trans (read _)
    · exact read _

/-! ### Damage already found stays found while messages are handed on -/

/-- The record of a slot is sound or its damage has been found (R90). -/
def Station.DamageFound (st : Station) (n : Nat) : Prop :=
  ∀ sl, st.table.slots[n]? = some sl → sl.difference = 0 ∨ sl.damage ≠ .none

theorem Station.DamageFound.of_table {n : Nat} (h : a.DamageFound n) (table : b.table = a.table) :
    b.DamageFound n := by
  unfold Station.DamageFound
  rw [table]
  exact h

theorem Station.join_table (st : Station) (p : Pend) : (st.join p).table = st.table := by
  have select (x : Station) : x.select.table = x.table :=
    Station.onlyIf_keeps (P := fun s => s.table = x.table) rfl fun h => h
  unfold Station.join
  cases p.body.timedTid <;> exact select _

theorem Station.DamageFound.takeDamage {n : Nat} (h : st.DamageFound n) (d : Nat × Nat) :
    (st.takeDamage d).DamageFound n := by
  have sent : (st.modifySlot d.1 fun sl => { sl with damage := .sent }).DamageFound n := by
    intro sl hs
    change (st.table.slots.modify d.1 _)[n]? = _ at hs
    rw [List.getElem?_modify] at hs
    obtain ⟨old, found, rfl⟩ := Option.map_eq_some_iff.mp hs
    split
    · exact .inr (by simp)
    · exact h old found
  exact sent.of_table (Station.join_table _ _)

theorem Station.DamageFound.takePend {n : Nat} (h : st.DamageFound n) (p : Pend) (rest : List Pend) :
    (st.takePend p rest).DamageFound n := h.of_table (Station.join_table _ _)

theorem Station.DamageFound.placeOffer {n : Nat} (h : a.DamageFound n) (offered : a.placeOffer = some b) :
    b.DamageFound n := by
  unfold Station.placeOffer at offered
  split at offered
  · exact absurd offered (by simp)
  · split at offered
    · exact absurd offered (by simp)
    · exact Option.some.inj offered ▸ h.takePend _ _
    · exact Option.some.inj offered ▸ h.takeDamage _
    · split at offered
      · exact Option.some.inj offered ▸ h.takePend _ _
      · exact Option.some.inj offered ▸ h.takeDamage _

theorem Station.DamageFound.offerUpTo {n : Nat} (k : Nat) (h : st.DamageFound n) :
    (Station.offerUpTo k st).DamageFound n := by
  induction k generalizing st with
  | zero => exact h
  | succ k ih =>
    unfold Station.offerUpTo
    split
    · next offered => exact ih (h.placeOffer offered)
    · exact h

theorem Station.DamageFound.reply {n : Nat} (h : st.DamageFound n) (k : Blk) (c : Addr) (kind seq : Byte)
    (o : ReplyOutcome) (d : Option Detail) : (st.reply k c kind seq o d).DamageFound n := by
  unfold Station.reply Station.hand
  refine Station.onlyIf_keeps (P := fun s => s.DamageFound n) h fun h => ?_
  exact Station.DamageFound.offerUpTo 16 (h.of_table rfl)

/-- After a reply a slot holds the record it held. -/
theorem Station.reply_slot {n : Nat} {sl : Slot} (h : st.table.slots[n]? = some sl) (k : Blk) (c : Addr)
    (kind seq : Byte) (o : ReplyOutcome) (d : Option Detail) :
    ∃ sl', (st.reply k c kind seq o d).table.slots[n]? = some sl' ∧ sl'.content = sl.content := by
  have same := congrArg (·[n]?) (Station.slots_of_kept (st.reply_kept k c kind seq o d))
  simp only [List.getElem?_map, h, Option.map_some] at same
  exact Option.map_eq_some_iff.mp same

theorem Slot.content_view (sl : Slot) : sl.content.view = sl.view := rfl

/-! ### What a session broken off leaves -/

/-- What the hatch unit leaves alone: the pull queue, the audit, and the transfer engine beside its reply
timers. -/
def Station.queues (st : Station) : PullQueue × Audit × Transfers := (st.pulls, st.audit, st.kept.xfer)

theorem Station.queues_of_kept (h : a.kept = b.kept) : a.queues = b.queues :=
  congrArg (fun k => (k.pulls, k.audit, k.xfer)) h

theorem Station.command_queues (st : Station) (e : MotionEnd) : (st.command e).1.queues = st.queues := by
  rw [Station.command_motion]
  rfl

theorem Station.settleSession_queues (st : Station) : st.settleSession.queues = st.queues := by
  unfold Station.settleSession
  split
  · exact Station.onlyIf_keeps (P := fun s => s.queues = st.queues) rfl fun h => h
  · exact Station.onlyIf_keeps (P := fun s => s.queues = st.queues) rfl fun h => h
  · rfl

theorem Station.abortSession_queues (st : Station) (r : AbortReason) :
    (st.abortSession r).queues = st.queues := by
  refine Station.onlyIf_keeps (P := fun s => s.queues = st.queues) rfl fun _ => ?_
  calc _ = (((st.brokenOff r).handover 0 (some r)).onSession fun x => { x with manifest := [] }).queues :=
        (Station.settleSession_queues _).trans (Station.command_queues _ .b)
    _ = ((st.brokenOff r).handover 0 (some r)).queues := rfl
    _ = (st.brokenOff r).queues := Station.queues_of_kept (Station.hand_kept _ _ _ _)

theorem Station.abortSession_inactive (st : Station) (r : AbortReason) :
    (st.abortSession r).hatch.session.state.active = false := by
  cases active : st.hatch.session.state.active with
  | false => rw [Station.abortSession_quiet r active, active]
  | true =>
    have steps : st.abortSession r = ((st.brokenOff r).handover 0 (some r)).bringIn :=
      Station.onlyIf_of_true _ active
    have hatch : ((st.brokenOff r).handover 0 (some r)).hatch = (st.brokenOff r).hatch :=
      Station.hand_hatch _ _ _ _
    have ended : ((st.brokenOff r).handover 0 (some r)).hatch.session.state = .aborted := by rw [hatch]; rfl
    rw [steps, Station.bringIn_ended (.inr ended)]
    split
    · rfl
    · rw [Station.broughtIn_session, ended]
      rfl

/-! ### The end last commanded -/

theorem Station.startDrive_last (st : Station) (e : MotionEnd) :
    (st.startDrive e).1.motion.last = st.motion.last := by
  unfold Station.startDrive Station.driveDue
  dsimp only
  split
  · rfl
  · split <;> rfl

theorem Station.command_last (st : Station) (e : MotionEnd) : (st.command e).1.motion.last = some e := by
  by_cases there : st.motion.state = .resting e ∨ st.motion.state = .moving e
  · rw [Station.command_there there]
    rfl
  · by_cases arrives : (∀ x, st.motion.state ≠ .moving x) ∧ st.arrivalHolds e = true
    · rw [Station.command_arrives (fun h => there (.inl h)) arrives.1 arrives.2]
      rfl
    · have drives : (∃ x, st.motion.state = .moving x) ∨ st.arrivalHolds e = false := by
        by_contra h
        simp at h
        exact arrives h
      rw [Station.command_drives (fun h => there (.inl h)) (fun h => there (.inr h)) drives]
      exact Station.startDrive_last _ e

theorem Station.abortSession_last (r : AbortReason) (h : st.motion.last = some .b) :
    (st.abortSession r).motion.last = some .b := by
  refine Station.onlyIf_keeps (P := fun s => s.motion.last = some .b) h fun _ => ?_
  refine (congrArg Motion.last (Station.motion_of_outer (Station.settleSession_outer _))).trans ?_
  exact Station.command_last _ .b

end

end Sys2Proof
end

section
/-! SUPPORT. What the blocks do on entry into a confirmed state (R70, R71), block by block. -/

namespace Sys2Proof

theorem Transit.pause_eq (t : Transit) :
    t.pause = match t with
      | .running n => .paused n
      | .paused n => .paused n
      | .stopped => .stopped := by
  cases t <;> rfl

/-- A pull entry of a frozen queue: what R110 makes of it in a confirmed state. -/
def PullEntry.halted (e : PullEntry) : PullEntry :=
  if e.state = .out then e else { e with state := .waiting }

theorem PullEntry.halted_keys (e : PullEntry) : e.halted.slot = e.slot ∧ e.halted.cart = e.cart := by
  unfold PullEntry.halted
  split <;> exact ⟨rfl, rfl⟩

theorem PullEntry.halted_out (e : PullEntry) : e.halted.state = .out ↔ e.state = .out := by
  unfold PullEntry.halted
  split
  · rfl
  · next waits => simp [waits]

/-- An audit ended as R121 gives, before the record at its cursor is looked at. -/
def Station.auditEnded (st : Station) : Station :=
  { st.reply .pulls st.audit.requester 18 st.audit.reqSeq .aborted
      (some (.cursorCounts st.audit.cursor st.audit.checked st.audit.repaired st.audit.mismatched)) with
    audit := .start }

/-- The record at the cursor of an audit that ends (R121). -/
def Station.leaveCursor (st : Station) (n : Nat) : Station :=
  match ((st.noticeDamage n).table.slot n).view with
  | .out c _ => if ((st.noticeDamage n).pullFor c.id).isSome then st.noticeDamage n
    else (st.noticeDamage n).setUnplanned n
  | _ => st.noticeDamage n

section
variable {st : Station}

/-! ### The dry-air unit (R28) -/

theorem Station.followAir_confirmed (h : st.confirmed = true) :
    st.followAir = if st.cfg.role = .bay ∧ st.air.forcedSafe = false then
      (({ st with air := { st.air with forcedSafe := true, valve := false, onTimer := none }
        } : Station).command .b).1
    else st := by
  have holds : st.forcedSafeHolds = true := by simp [Station.forcedSafeHolds, h]
  unfold Station.followAir
  by_cases bay : st.cfg.role = .bay
  · rw [Station.onlyIf_of_true _ (decide_eq_true bay)]
    cases safe : st.air.forcedSafe with
    | false => rw [Station.evalForcedSafe_begins holds safe, if_pos ⟨bay, rfl⟩]
    | true => rw [Station.evalForcedSafe_stays (holds.trans safe.symm), if_neg (by simp)]
  · rw [Station.onlyIf_of_false _ (decide_eq_false bay), if_neg fun h => bay h.1]

/-! ### The audit (R120, R121) -/

theorem Station.pullsWaiting_iff : st.pullsWaiting = true ↔ ∃ e ∈ st.pulls.entries, e.state ≠ .out := by
  simp [Station.pullsWaiting]

/-- A suspension test that finds the audit as the last one left it changes nothing (R120). -/
theorem Station.suspensionTest_of_settled
    (running : st.audit.state = .running → ∀ e ∈ st.pulls.entries, e.state = .out)
    (suspended : st.audit.state = .suspended → ∃ e ∈ st.pulls.entries, e.state ≠ .out) :
    st.suspensionTest = st := by
  unfold Station.suspensionTest
  by_cases waits : st.pullsWaiting = true
  · obtain ⟨e, he, out⟩ := Station.pullsWaiting_iff.mp waits
    rw [if_pos waits]
    exact Station.onlyIf_of_false _ (decide_eq_false fun h => out (running h e he))
  · rw [if_neg waits]
    exact Station.onlyIf_of_false _ (decide_eq_false fun h => waits (Station.pullsWaiting_iff.mpr (suspended h)))

theorem Station.auditEnded_pulls (st : Station) : st.auditEnded.pulls = st.pulls := by
  simp [Station.auditEnded, Station.reply]

theorem Slot.view_out_iff {sl : Slot} {c : CartData} {u : Bool} :
    sl.view = .out c u ↔ sl.difference = 0 ∧ sl.record = .out c u := by
  constructor
  · intro view
    have sound : sl.difference = 0 := by
      by_contra damaged
      simp [Slot.view_of_damaged damaged] at view
    by_cases fresh : sl.record = .unsettled
    · simp [Slot.view, Slot.sound, sound, fresh] at view
    · exact ⟨sound, by rw [← Slot.view_of_sound sound fresh, view]⟩
  · rintro ⟨sound, out⟩
    exact (Slot.view_of_sound sound (by simp [out])).trans out

section
variable {n : Nat} {sl : Slot} (slot : st.table.slots[n]? = some sl) (found : sl.difference = 0 ∨ sl.damage ≠ .none)
include slot found

/-- The slot at the cursor, its damage known, reads after the reply as it did. -/
theorem Station.auditEnded_reads :
    st.auditEnded.noticeDamage n = st.auditEnded ∧ (st.auditEnded.table.slot n).view = sl.view := by
  obtain ⟨sl', slot', content⟩ := Station.reply_slot slot .pulls st.audit.requester 18 st.audit.reqSeq .aborted
    (some (.cursorCounts st.audit.cursor st.audit.checked st.audit.repaired st.audit.mismatched))
  have known : st.DamageFound n := fun x hx => Option.some.inj (slot.symm.trans hx) ▸ found
  refine ⟨Station.noticeDamage_of_known slot' (known.reply _ _ _ _ _ _ sl' slot'), ?_⟩
  rw [Station.slot_eq (st := st.auditEnded) slot', ← Slot.content_view, content, Slot.content_view]

variable (way : st.audit.state ≠ .idle) (cursor : st.audit.cursor = some n)
include way cursor

/-- The end of an audit by what the record at its cursor reads (R121). -/
theorem Station.auditAbort_eq :
    st.auditAbort = match sl.view with
      | .out c _ => if (st.pullFor c.id).isSome then st.auditEnded else st.auditEnded.setUnplanned n
      | _ => st.auditEnded := by
  obtain ⟨read, view⟩ := Station.auditEnded_reads slot found
  have entry (c : Cart) : st.auditEnded.pullFor c = st.pullFor c := by
    simp only [Station.pullFor, st.auditEnded_pulls]
  have looks : st.auditAbort = st.auditEnded.leaveCursor n := by
    unfold Station.auditAbort
    rw [Station.onlyIf_of_true _ (decide_eq_true way)]
    change (match st.audit.cursor with
      | none => st.auditEnded
      | some n => st.auditEnded.leaveCursor n) = _
    rw [cursor]
  rw [looks, Station.leaveCursor, read, view]
  simp only [entry]

/-- A sound OUT record at the cursor without a pull entry is unplanned (R121). -/
theorem Station.auditAbort_unplans {c : CartData} {u : Bool} (reads : sl.view = .out c u)
    (free : ∀ e ∈ st.pulls.entries, e.slot ≠ n ∧ e.cart ≠ c.id) :
    st.auditAbort = st.auditEnded.withRecord n (.out c true) := by
  have none : st.pullFor c.id = none :=
    List.find?_eq_none.mpr fun e he => by simpa using (free e he).2
  have unpulled : ∀ e ∈ st.auditEnded.pulls.entries, e.slot ≠ n := by
    rw [st.auditEnded_pulls]
    exact fun e he => (free e he).1
  rw [Station.auditAbort_eq slot found way cursor, reads]
  simp only [none, Option.isSome_none, Bool.false_eq_true, if_false]
  unfold Station.setUnplanned
  rw [(Station.auditEnded_reads slot found).2, reads]
  exact Station.writeRecord_of_unpulled _ unpulled

/-- Any other record is left, and one that a pull entry is for. -/
theorem Station.auditAbort_leaves (pulled : ∀ c u, sl.view = .out c u → ∃ e ∈ st.pulls.entries, e.cart = c.id) :
    st.auditAbort = st.auditEnded := by
  rw [Station.auditAbort_eq slot found way cursor]
  split
  · next c u reads =>
    obtain ⟨e, he, same⟩ := pulled c u reads
    exact if_pos (List.find?_isSome.mpr ⟨e, he, decide_eq_true same⟩)
  · rfl

end

/-! ### All blocks -/

/-- The dry-air unit's part touches the valve and the damper alone. -/
theorem Station.followAir_beside (st : Station) :
    st.followAir = { st with air := st.followAir.air, motion := st.followAir.motion } := by
  refine Station.onlyIf_keeps (P := fun s => s = { st with air := s.air, motion := s.motion }) rfl fun _ => ?_
  unfold Station.evalForcedSafe
  split
  · rfl
  · split
    · rw [Station.command_motion]
      rfl
    · rw [Station.command_motion]
      rfl

theorem Station.followAir_audit (st : Station) : st.followAir.audit = st.audit := by rw [st.followAir_beside]

theorem Station.followAir_table (st : Station) : st.followAir.table = st.table := by rw [st.followAir_beside]

/-- The station behind the dry-air unit and the pull queue, as an entry into a confirmed state leaves them. -/
def Station.halted (st : Station) : Station :=
  { st.followAir with
    pulls := { st.pulls with check := 0, lamp := none, entries := st.pulls.entries.map PullEntry.halted } }

theorem Station.followAir_relight (confirmed : st.confirmed = true) : st.followAir.relight = st.halted := by
  have frozen : st.followAir.frozen = st.frozen := by rw [st.followAir_beside]; rfl
  have pulls : st.followAir.pulls = st.pulls := by rw [st.followAir_beside]
  rw [Station.relight_beside st.followAir frozen pulls, Station.relight_confirmed confirmed]
  rfl

/-- The suspension test leaves an audit that it left so before: the freezing takes no entry out of OUT and
brings none into it. -/
theorem Station.pullsChanged_halted (confirmed : st.confirmed = true)
    (running : st.audit.state = .running → ∀ e ∈ st.pulls.entries, e.state = .out)
    (suspended : st.audit.state = .suspended → ∃ e ∈ st.pulls.entries, e.state ≠ .out) :
    st.followAir.pullsChanged = st.halted := by
  unfold Station.pullsChanged
  rw [Station.followAir_relight confirmed]
  refine Station.suspensionTest_of_settled (fun hr e he => ?_) fun hs => ?_
  · obtain ⟨x, hx, rfl⟩ := List.mem_map.mp he
    exact x.halted_out.mpr (running (st.followAir_audit ▸ hr) x hx)
  · obtain ⟨x, hx, waits⟩ := suspended (st.followAir_audit ▸ hs)
    exact ⟨x.halted, List.mem_map_of_mem hx, fun h => waits (x.halted_out.mp h)⟩

/-- The station behind the dry-air unit, the pull queue, the audit and the transfer engine. -/
def Station.paused (st : Station) : Station :=
  st.followAir.pullsChanged.auditAbort.onTransits Transit.pause

theorem Station.followConfirmed_eq (st : Station) :
    st.followConfirmed = (st.paused.abortSession .fire).abandonRestart := rfl

theorem Station.paused_outer (st : Station) : st.paused.outer = st.followAir.outer := by
  simp [Station.paused]

theorem Station.paused_hatch (st : Station) : st.paused.hatch = st.hatch := by
  calc st.paused.hatch = st.followAir.pullsChanged.auditAbort.hatch := rfl
    _ = st.followAir.hatch := (Station.auditAbort_hatch _).trans (Station.pullsChanged_hatch _)
    _ = st.hatch := by rw [st.followAir_beside]

/-- What follows the dry-air unit drives the motion channel and touches no other outer block. -/
theorem Station.drives_behind_air (st : Station) : st.followAir.DrivesOnly (st.paused.abortSession .fire) :=
  ((Station.DrivesOnly.refl _).of_outer st.paused_outer).abortSession .fire

@[simp] theorem Station.abandonRestart_supp (st : Station) : st.abandonRestart.supp = st.supp := rfl
@[simp] theorem Station.abandonRestart_det (st : Station) : st.abandonRestart.det = st.det := rfl
@[simp] theorem Station.abandonRestart_moist (st : Station) : st.abandonRestart.moist = st.moist := rfl
@[simp] theorem Station.abandonRestart_air (st : Station) : st.abandonRestart.air = st.air := rfl
@[simp] theorem Station.abandonRestart_door (st : Station) : st.abandonRestart.door = st.door := rfl
@[simp] theorem Station.abandonRestart_peers (st : Station) : st.abandonRestart.peers = st.peers := rfl

/-- The dry-air unit's part is the last word on the valve. -/
theorem Station.followConfirmed_air (st : Station) : st.followConfirmed.air = st.followAir.air := by
  rw [Station.followConfirmed_eq, Station.abandonRestart_air, st.drives_behind_air.air]

/-- The outer blocks that an entry into a confirmed state leaves alone. -/
theorem Station.followConfirmed_frame (st : Station) :
    st.followConfirmed.supp = st.supp ∧ st.followConfirmed.det = st.det ∧
      st.followConfirmed.moist = st.moist ∧ st.followConfirmed.door = st.door ∧
      st.followConfirmed.peers = st.peers := by
  have drives := st.drives_behind_air
  simp only [Station.followConfirmed_eq, Station.abandonRestart_supp, Station.abandonRestart_det,
    Station.abandonRestart_moist, Station.abandonRestart_door, Station.abandonRestart_peers,
    drives.supp, drives.det, drives.moist, drives.door, drives.peers]
  rw [st.followAir_beside]
  exact ⟨rfl, rfl, rfl, rfl, rfl⟩

theorem Station.paused_still (h : st.confirmed = true) :
    (∀ e ∈ st.paused.pulls.entries, e.state ≠ .lit) ∧ st.paused.pulls.lamp = none ∧
      st.paused.audit.state = .idle := by
  have confirmed : st.followAir.confirmed = true := (congrArg Station.confirmed st.followAir_beside).trans h
  have still := (Station.pullsChanged_dark confirmed).auditAbort
  exact ⟨still.unlit, still.lamp, still.idle⟩

/-- Every transit timer stands once the transfer engine has paused them (R137). -/
theorem Station.paused_transits (st : Station) :
    ∀ e ∈ st.followConfirmed.xfer.entries, ∀ n, e.transit ≠ .running n := by
  have same : st.followConfirmed.xfer.entries.map XferEntry.content
      = st.paused.xfer.entries.map XferEntry.content :=
    congrArg (fun q => q.2.2.entries) (st.paused.abortSession_queues .fire)
  intro e he n
  have mem : e.content ∈ st.paused.xfer.entries.map XferEntry.content :=
    same ▸ List.mem_map_of_mem he
  obtain ⟨y, hy, content⟩ := List.mem_map.mp mem
  obtain ⟨z, -, rfl⟩ := List.mem_map.mp hy
  have transit : z.transit.pause = e.transit := congrArg XferEntry.transit content
  rw [← transit]
  cases z.transit <;> simp [Transit.pause]

end

section
variable {st : Station} (confirmed : st.confirmed = true)
include confirmed

/-- On entry a BAY whose forced safe was absent has its valve off and its damper last commanded CLOSED (R28). -/
theorem Station.followConfirmed_cuts (bay : st.cfg.role = .bay) (safe : st.air.forcedSafe = false) :
    st.followConfirmed.air = { st.air with forcedSafe := true, valve := false, onTimer := none } ∧
      st.followConfirmed.motion.last = some .b := by
  let cut : Station := { st with air := { st.air with forcedSafe := true, valve := false, onTimer := none } }
  have part : st.followAir = (cut.command .b).1 :=
    (Station.followAir_confirmed confirmed).trans (if_pos ⟨bay, safe⟩)
  constructor
  · calc st.followConfirmed.air = st.followAir.air := st.followConfirmed_air
      _ = cut.air := by rw [part, Station.command_motion]
  · refine st.paused.abortSession_last .fire ?_
    rw [Station.motion_of_outer st.paused_outer, part]
    exact cut.command_last .b

theorem Station.followAir_stays (h : st.cfg.role = .hatch ∨ st.air.forcedSafe = true) :
    st.followAir = st := by
  rw [Station.followAir_confirmed confirmed, if_neg]
  rintro ⟨bay, safe⟩
  rcases h with h | h
  · simp [bay] at h
  · simp [safe] at h

omit confirmed

/-- With no session under way the hatch unit does nothing (R156). -/
theorem Station.followConfirmed_quiet (quiet : st.hatch.session.state.active = false) :
    st.followConfirmed = st.paused.abandonRestart := by
  have same : st.paused.hatch.session.state.active = false := by rw [st.paused_hatch, quiet]
  rw [Station.followConfirmed_eq, Station.abortSession_quiet _ same]

/-- A session under way is broken off with reason FIRE (R156). -/
theorem Station.followConfirmed_breaks {j : Job} {d : Direction}
    (active : st.hatch.session.state.active = true) (job : st.hatch.session.job = some j)
    (dir : st.hatch.session.direction = some d) :
    let told := (st.paused.brokenOff .fire).hand .hatch 255 (.handover
      { job := j, direction := if d = .outbound then 0 else 1, handed := 0
        remaining := BitVec.ofNat 8 ((st.paused.brokenOff .fire).remainingFor d j), outcome := 1
        reason := some 1 })
    st.followConfirmed = (if told.broughtIn.motion.state = .resting .b
      then told.broughtIn.onSession fun _ => .idle else told.broughtIn).abandonRestart := by
  have same : st.paused.hatch.session = st.hatch.session := by rw [st.paused_hatch]
  exact congrArg Station.abandonRestart (Station.abortSession_breaks (st := st.paused) .fire
    (by rw [same, active]) (by rw [same, job]) (by rw [same, dir]))

end

/-- Settles O16: the frames block by block; then the whole station, by the pull queue frozen, the audit ended at
its cursor, and the session broken off. -/
theorem blocksFollowConfirmation : Obligations.BlocksFollowConfirmation := by
  intro st confirmed t
  obtain ⟨supp, det, moist, door, peers⟩ := st.followConfirmed_frame
  obtain ⟨unlit, lamp, idle⟩ := Station.paused_still confirmed
  have air : t.air = st.followAir.air := st.followConfirmed_air
  have stays := Station.followAir_stays confirmed
  have cuts := Station.followConfirmed_cuts confirmed
  have pulls : t.pulls = st.paused.pulls := congrArg (fun q => q.1) (st.paused.abortSession_queues .fire)
  have audit : t.audit = st.paused.audit := congrArg (fun q => q.2.1) (st.paused.abortSession_queues .fire)
  refine ⟨fun bay => ?_, cuts, fun bay safe quiet => ⟨?_, ?_⟩, fun hatch => ?_, pulls ▸ unlit, pulls ▸ lamp,
    audit ▸ idle, st.paused_transits, st.paused.abortSession_inactive .fire, rfl, supp, det, moist, door, peers,
    ?_⟩
  · cases safe : st.air.forcedSafe with
    | false => rw [(cuts bay safe).1]
    | true => rw [air, stays (.inr safe), safe]
  · rw [air, stays (.inr safe)]
  · calc t.motion = st.paused.abandonRestart.motion :=
          congrArg Station.motion (Station.followConfirmed_quiet quiet)
      _ = st.paused.motion := rfl
      _ = st.followAir.motion := Station.motion_of_outer st.paused_outer
      _ = st.motion := by rw [stays (.inr safe)]
  · rw [air, stays (.inl hatch)]
  · intro safe frozen paused broken cleared follows
    have halted : st.halted = frozen := by
      have part : st.followAir = safe := Station.followAir_confirmed confirmed
      unfold Station.halted
      rw [part]
      rfl
    have follow (x : Station) (h : st.followAir.pullsChanged.auditAbort = x) : follows x := by
      have held : paused x = st.paused := by
        unfold Station.paused
        rw [h]
        simp only [paused, Station.onTransits, Transit.pause_eq]
        rfl
      refine ⟨fun quiet => ?_, fun j d active job dir => ?_⟩
      · rw [held]
        exact Station.followConfirmed_quiet quiet
      · rw [held]
        refine (Station.followConfirmed_breaks active job dir).trans ?_
        cases d <;> rfl
    have frozen_audit : frozen.audit = st.audit := halted ▸ st.followAir_audit
    have frozen_table : frozen.table = st.table := halted ▸ st.followAir_table
    refine ⟨fun idle => follow frozen ?_, fun n sl way cursor slot found running suspended => ?_⟩
    · have rest : frozen.audit.state = .idle := by rw [frozen_audit, idle]
      rw [Station.pullsChanged_halted confirmed (by simp [idle]) (by simp [idle]), halted]
      exact Station.onlyIf_of_false _ (by simp [rest])
    · intro aborted
      have ends : st.followAir.pullsChanged.auditAbort = frozen.auditAbort := by
        rw [Station.pullsChanged_halted confirmed running suspended, halted]
      have ended : frozen.auditEnded = aborted := by
        unfold Station.auditEnded
        rw [frozen_audit]
      have read : frozen.table.slots[n]? = some sl := by rw [frozen_table, slot]
      have under : frozen.audit.state ≠ .idle := by rw [frozen_audit]; exact way
      have at_ : frozen.audit.cursor = some n := by rw [frozen_audit, cursor]
      refine ⟨fun c u sound out free => follow _ ?_, fun pulled => follow _ ?_⟩
      · have view : sl.view = .out c u := Slot.view_out_iff.mpr ⟨sound, out⟩
        rw [ends, ← ended]
        refine Station.auditAbort_unplans read found under at_ view fun e he => ?_
        obtain ⟨x, hx, rfl⟩ := List.mem_map.mp (show e ∈ st.pulls.entries.map PullEntry.halted from he)
        rw [x.halted_keys.1, x.halted_keys.2]
        exact free x hx
      · rw [ends, ← ended]
        refine Station.auditAbort_leaves read found under at_ fun c u view => ?_
        obtain ⟨sound, out⟩ := Slot.view_out_iff.mp view
        obtain ⟨x, hx, same⟩ := pulled c u sound out
        exact ⟨x.halted, List.mem_map_of_mem hx, x.halted_keys.2.trans same⟩

end Sys2Proof
end

section
/-! SUPPORT. The detection unit (Chapter 3): the bands of the codes, what a sample makes of its loop, and the
change of fire state that a latch may bring. -/

namespace Sys2Proof

/-! ### The loops of the unit -/

@[simp] theorem Station.onDet_cfg (st : Station) (f : Detection → Detection) : (st.onDet f).cfg = st.cfg := rfl

section
variable (d : Detection) (n : Fin 4) (l : Loop)

@[simp] theorem Detection.setLoop_loop_same : (d.setLoop n l).loop n = l := by
  fin_cases n <;> rfl

theorem Detection.setLoop_loop_other {other : Fin 4} (h : other ≠ n) :
    (d.setLoop n l).loop other = d.loop other := by
  fin_cases n <;> fin_cases other <;> simp [Detection.setLoop, Detection.loop] at h ⊢

@[simp] theorem Detection.latchZone_loop (z : Zone) : (d.latchZone z).loop = d.loop := by
  cases z <;> rfl

/-- The channel of the scan under way is all that a sample changes by itself (R41). -/
@[simp] theorem Detection.sampled_loop (c : AdcChannel) : (d.sampled c).loop = d.loop := by
  unfold Detection.sampled
  split <;> rfl

end

/-! ### The bands (R43) -/

section
variable {code : BitVec 10}

theorem bandOfCode_opened (h : 900 ≤ code.toNat) : bandOfCode code = .opened := if_pos h

theorem bandOfCode_normal (lo : 500 ≤ code.toNat) (hi : code.toNat ≤ 899) : bandOfCode code = .normal := by
  rw [bandOfCode, if_neg (by omega), if_pos lo]

theorem bandOfCode_alarm (lo : 150 ≤ code.toNat) (hi : code.toNat ≤ 499) : bandOfCode code = .alarm := by
  rw [bandOfCode, if_neg (by omega), if_neg (by omega), if_pos lo]

theorem bandOfCode_shorted (h : code.toNat ≤ 149) : bandOfCode code = .shorted := by
  rw [bandOfCode, if_neg (by omega), if_neg (by omega), if_neg (by omega)]

theorem bandOfCode_ne_alarm (h : ¬(150 ≤ code.toNat ∧ code.toNat ≤ 499)) : bandOfCode code ≠ .alarm := by
  rcases (by omega : code.toNat ≤ 149 ∨ (500 ≤ code.toNat ∧ code.toNat ≤ 899) ∨ 900 ≤ code.toNat)
    with short | ⟨lo, hi⟩ | open'
  · simp [bandOfCode_shorted short]
  · simp [bandOfCode_normal lo hi]
  · simp [bandOfCode_opened open']

/-- A code in a working band (R46). -/
theorem bandOfCode_working (h : ¬(code.toNat ≤ 149 ∨ 900 ≤ code.toNat)) :
    (bandOfCode code).faulty = false := by
  rcases (by omega : (150 ≤ code.toNat ∧ code.toNat ≤ 499) ∨ (500 ≤ code.toNat ∧ code.toNat ≤ 899))
    with ⟨lo, hi⟩ | ⟨lo, hi⟩
  · rw [bandOfCode_alarm lo hi, Band.faulty]
  · rw [bandOfCode_normal lo hi, Band.faulty]

/-- A code in a fault band, and the trouble it names (R46). -/
theorem bandOfCode_faulty (h : code.toNat ≤ 149 ∨ 900 ≤ code.toNat) :
    (bandOfCode code).faulty = true ∧
      (bandOfCode code).trouble = if code.toNat ≤ 149 then .shorted else .opened := by
  rcases h with short | open'
  · rw [bandOfCode_shorted short, if_pos short]
    exact ⟨rfl, rfl⟩
  · rw [bandOfCode_opened open', if_neg (by omega)]
    exact ⟨rfl, rfl⟩

end

/-! ### The trouble run (R46, R47) -/

section
variable {l : Loop} {b : Band}

theorem Loop.judgeTrouble_clear_working (clear : l.trouble = .none) (works : b.faulty = false) :
    l.judgeTrouble b = { l with troubleRun := 0 } := by
  simp [Loop.judgeTrouble, clear, works]

theorem Loop.judgeTrouble_clear_counts (clear : l.trouble = .none) (faulty : b.faulty = true)
    (short : l.troubleRun ≠ 3) : l.judgeTrouble b = { l with troubleRun := l.troubleRun + 1 } := by
  simp [Loop.judgeTrouble, clear, faulty, short]

theorem Loop.judgeTrouble_clear_turns (clear : l.trouble = .none) (faulty : b.faulty = true)
    (full : l.troubleRun = 3) : l.judgeTrouble b = { l with trouble := b.trouble, troubleRun := 0 } := by
  simp [Loop.judgeTrouble, clear, faulty, full]

theorem Loop.judgeTrouble_set_faulty (set : l.trouble ≠ .none) (faulty : b.faulty = true) :
    l.judgeTrouble b = { l with trouble := b.trouble, troubleRun := 0 } := by
  simp [Loop.judgeTrouble, set, faulty]

theorem Loop.judgeTrouble_set_counts (set : l.trouble ≠ .none) (works : b.faulty = false)
    (short : l.troubleRun ≠ 3) : l.judgeTrouble b = { l with troubleRun := l.troubleRun + 1 } := by
  simp [Loop.judgeTrouble, set, works, short]

theorem Loop.judgeTrouble_set_turns (set : l.trouble ≠ .none) (works : b.faulty = false)
    (full : l.troubleRun = 3) : l.judgeTrouble b = { l with trouble := .none, troubleRun := 0 } := by
  simp [Loop.judgeTrouble, set, works, full]

end

/-! ### A sampled loop (R43 to R48) -/

/-- What a sample in a band makes of a loop of a kind. -/
def Loop.taken (l : Loop) (k : LoopKind) (b : Band) : Loop := (l.alarm b k.verification).judgeTrouble b

theorem LoopKind.verification_of_used {k : LoopKind} (used : k ≠ .unused) :
    k.verification = if k = .smoke then 3 else 1 := by
  cases k with
  | unused => exact absurd rfl used
  | smoke | heat | manual => rfl

section
variable (l : Loop) (k : LoopKind) (b : Band)

/-- The trouble run does not look at the band kept, at the alarm run or at the latch. -/
theorem Loop.judgeTrouble_beside (band : Option Band) (run : Nat) (latched : Bool) :
    ({ l with band := band, alarmRun := run, latched := latched } : Loop).judgeTrouble b
      = { l.judgeTrouble b with band := band, alarmRun := run, latched := latched } := by
  unfold Loop.judgeTrouble
  dsimp only
  split_ifs <;> rfl

theorem Loop.taken_eq :
    l.taken k b = { l.judgeTrouble b with
      band := some b
      alarmRun := (l.alarm b k.verification).alarmRun
      latched := (l.alarm b k.verification).latched } := l.judgeTrouble_beside b _ _ _

theorem Loop.taken_band : (l.taken k b).band = some b := by rw [Loop.taken_eq]

theorem Loop.taken_trouble : (l.taken k b).trouble = (l.judgeTrouble b).trouble := by rw [Loop.taken_eq]

theorem Loop.taken_troubleRun : (l.taken k b).troubleRun = (l.judgeTrouble b).troubleRun := by
  rw [Loop.taken_eq]

theorem Loop.taken_alarmRun :
    (l.taken k b).alarmRun = if b = .alarm then min k.verification (l.alarmRun + 1) else 0 := by
  rw [Loop.taken_eq]
  rfl

/-- R44, R50: the latch is made by the ALARM sample that completes the run, and stays. -/
theorem Loop.taken_latched :
    (l.taken k b).latched
      = (l.latched || decide (b = .alarm ∧ k.verification ≤ l.alarmRun + 1)) := by
  rw [Loop.taken_eq]
  simp only [Loop.alarm]
  congr 2
  by_cases alarm : b = .alarm <;> simp [alarm]

end

/-- The loop behind the sample that latches it, by its fields. -/
theorem Loop.taken_of_latching {l l' : Loop} {k : LoopKind} (band : l'.band = some .alarm)
    (latched : l'.latched = true) (run : l'.alarmRun = k.verification)
    (trouble : l'.trouble = (l.judgeTrouble .alarm).trouble)
    (troubleRun : l'.troubleRun = (l.judgeTrouble .alarm).troubleRun)
    (completes : k.verification ≤ l.alarmRun + 1) : l' = l.taken k .alarm := by
  rw [← Loop.taken_trouble l k] at trouble
  rw [← Loop.taken_troubleRun l k] at troubleRun
  have bands := band.trans (l.taken_band k .alarm).symm
  have runs : l'.alarmRun = (l.taken k .alarm).alarmRun := by
    rw [run, Loop.taken_alarmRun, if_pos rfl, Nat.min_eq_left completes]
  have latches : l'.latched = (l.taken k .alarm).latched := by
    rw [latched, Loop.taken_latched]
    simp [completes]
  obtain ⟨_, _, _, _, _⟩ := l'
  exact (Loop.mk.injEq ..).mpr ⟨bands, runs, latches, trouble, troubleRun⟩

/-! ### A change of fire state leaves the detection unit alone -/

section
variable (st : Station)

theorem Station.followUnconfirmed_frame :
    st.followUnconfirmed.supp = st.supp ∧ st.followUnconfirmed.det = st.det := by
  have behind : st.followUnconfirmed.outer = st.followAir.outer := by simp [Station.followUnconfirmed]
  rw [Station.supp_of_outer behind, Station.det_of_outer behind, st.followAir_beside]
  exact ⟨rfl, rfl⟩

theorem Station.setFire_frame (f : FireState) :
    (st.setFire f).supp = st.supp.take f ∧ (st.setFire f).det = st.det := by
  obtain ⟨enterSupp, enterDet, -⟩ := (st.onSupp (·.take f)).followConfirmed_frame
  obtain ⟨leaveSupp, leaveDet⟩ := (st.onSupp (·.take f)).followUnconfirmed_frame
  unfold Station.setFire
  simp only
  rw [Station.supp_of_outer (Station.handFireReport_outer _), Station.det_of_outer (Station.handFireReport_outer _)]
  split
  · exact ⟨rfl, rfl⟩
  · split
    · exact ⟨enterSupp, enterDet⟩
    · exact ⟨leaveSupp, leaveDet⟩

@[simp] theorem Station.setFire_supp (f : FireState) : (st.setFire f).supp = st.supp.take f :=
  (st.setFire_frame f).1

@[simp] theorem Station.setFire_det (f : FireState) : (st.setFire f).det = st.det := (st.setFire_frame f).2

@[simp] theorem Station.enterCountdown_det : st.enterCountdown.det = st.det :=
  Station.onlyIf_keeps (P := fun x => x.det = st.det) (by simp) fun _ => by simp

@[simp] theorem Station.confirm_det : st.confirm.det = st.det := by
  unfold Station.confirm
  split <;> simp

@[simp] theorem Station.takeLatch_det : st.takeLatch.det = st.det := by
  unfold Station.takeLatch
  split
  · rfl
  · split
    · exact st.confirm_det
    · exact Station.onlyIf_keeps (P := fun x => x.det = st.det) rfl fun _ => st.setFire_det .prealarm

@[simp] theorem Station.takeManualLatch_det : st.takeManualLatch.det = st.det := by
  unfold Station.takeManualLatch
  split
  · rfl
  · simp

@[simp] theorem Station.latched_det (k : LoopKind) : (st.latched k).det = st.det := by
  cases k with
  | unused => rfl
  | smoke | heat => exact st.takeLatch_det
  | manual => exact st.takeManualLatch_det

end

/-! ### A sample taken in -/

section
variable {st : Station} {n : Fin 4} {code : BitVec 10}

theorem Station.loopSampled_unused (unused : (st.cfg.loop n).kind = .unused) : st.loopSampled n code = st := by
  unfold Station.loopSampled
  exact if_pos unused

/-- A sample of a used loop that makes no latch changes its loop alone. -/
theorem Station.loopSampled_quiet (used : (st.cfg.loop n).kind ≠ .unused)
    (same : ((st.det.loop n).taken (st.cfg.loop n).kind (bandOfCode code)).latched = (st.det.loop n).latched) :
    st.loopSampled n code
      = st.onDet (·.setLoop n ((st.det.loop n).taken (st.cfg.loop n).kind (bandOfCode code))) := by
  unfold Loop.taken at same ⊢
  unfold Station.loopSampled
  simp only [if_neg used, same, Bool.and_not_self, Bool.false_eq_true, if_false]

/-- A sample that latches sets the zone latch, and the suppression controller takes the latch in. -/
theorem Station.loopSampled_latches (used : (st.cfg.loop n).kind ≠ .unused)
    (fresh : (st.det.loop n).latched = false)
    (made : ((st.det.loop n).taken (st.cfg.loop n).kind (bandOfCode code)).latched = true) :
    st.loopSampled n code
      = (st.onDet fun d => (d.setLoop n ((st.det.loop n).taken (st.cfg.loop n).kind (bandOfCode code))).latchZone
          (st.cfg.loop n).zone).latched (st.cfg.loop n).kind := by
  unfold Loop.taken at made ⊢
  unfold Station.loopSampled
  simp only [if_neg used, made, fresh, Bool.not_false, Bool.and_self, if_true]
  rfl

/-- Every sample of a used loop leaves that loop as judged, and the other loops as they were. -/
theorem Station.loopSampled_loops (used : (st.cfg.loop n).kind ≠ .unused) :
    (st.loopSampled n code).det.loop
      = (st.det.setLoop n ((st.det.loop n).taken (st.cfg.loop n).kind (bandOfCode code))).loop := by
  by_cases same : ((st.det.loop n).taken (st.cfg.loop n).kind (bandOfCode code)).latched
      = (st.det.loop n).latched
  · rw [Station.loopSampled_quiet used same, Station.onDet_det]
  · have stays := (st.det.loop n).taken_latched (st.cfg.loop n).kind (bandOfCode code)
    have fresh : (st.det.loop n).latched = false :=
      Bool.eq_false_iff.mpr fun set => same (by rw [stays, set, Bool.true_or])
    have made : ((st.det.loop n).taken (st.cfg.loop n).kind (bandOfCode code)).latched = true := by
      simpa [fresh] using same
    rw [Station.loopSampled_latches used fresh made, Station.latched_det, Station.onDet_det,
      Detection.latchZone_loop]

end

/-- A sample where the detection unit runs. -/
theorem exec_loopSample_of_running {s : Machine.State} (running : s.station.running = true) (n : Fin 4)
    (code : BitVec 10) :
    Machine.exec (.loopSample n (.sample code)) s
      = .next (s.put ((s.station.onDet (·.sampled (.loop n))).loopSampled n code)) := by
  rw [exec_loopSample, Station.onlyIf_of_true _ running]

/-- Settles O12: the loop behind a sample is `Loop.taken`, in every case; the sample makes no latch where the
band is not ALARM, the latch is set already or the run is short, and then nothing but the loop changes. -/
theorem loopBandSorted : Obligations.LoopBandSorted := by
  refine ⟨fun s n code running => ?_, fun s n code running => ?_⟩
  · rw [exec_loopSample_of_running running]
    refine ⟨fun unused => s.next_put (Station.loopSampled_unused unused), fun used => ⟨_, rfl, ?_⟩⟩
    have loops := Station.loopSampled_loops (st := s.station.onDet (·.sampled (.loop n))) (code := code) used
    simp only [Machine.State.put, loops, Station.onDet_det, Station.onDet_cfg, Detection.sampled_loop,
      Detection.setLoop_loop_same, Loop.taken_band]
    refine ⟨fun h => congrArg some (bandOfCode_opened h), fun lo hi => congrArg some (bandOfCode_normal lo hi),
      fun lo hi => congrArg some (bandOfCode_alarm lo hi), fun h => congrArg some (bandOfCode_shorted h),
      fun other away => ?_, fun single lo hi => ?_⟩
    · rw [Detection.setLoop_loop_other _ _ _ away, Detection.sampled_loop]
    · have one : (s.station.cfg.loop n).kind.verification = 1 :=
        (LoopKind.verification_of_used used).trans (if_neg single)
      rw [Loop.taken_latched, bandOfCode_alarm lo hi, one]
      simp
  · intro kind needed l alarm broken fault used unlatching
    have verification : kind.verification = needed := LoopKind.verification_of_used used
    have inAlarm (h : alarm = true) : bandOfCode code = .alarm :=
      bandOfCode_alarm (of_decide_eq_true h).1 (of_decide_eq_true h).2
    have notAlarm (h : alarm = false) : bandOfCode code ≠ .alarm := bandOfCode_ne_alarm (of_decide_eq_false h)
    have works (h : broken = false) : (bandOfCode code).faulty = false :=
      bandOfCode_working (of_decide_eq_false h)
    have faulty (h : broken = true) := bandOfCode_faulty (of_decide_eq_true h)
    have same : (l.taken kind (bandOfCode code)).latched = l.latched := by
      rw [Loop.taken_latched, verification]
      rcases unlatching with quiet | set | short
      · simp [notAlarm quiet]
      · simp [set]
      · simp [Nat.not_le.mpr short]
    have quiet := Station.loopSampled_quiet (st := s.station.onDet (·.sampled (.loop n))) (n := n)
      (code := code) used (by rw [Station.onDet_det, Detection.sampled_loop]; exact same)
    rw [Station.onDet_det, Detection.sampled_loop] at quiet
    refine ⟨l.taken kind (bandOfCode code), (exec_loopSample_of_running running n code).trans (s.next_put quiet),
      same, fun h => ?_, fun h => ?_, ?_⟩
    · rw [Loop.taken_alarmRun, if_pos (inAlarm h), verification]
    · rw [Loop.taken_alarmRun, if_neg (notAlarm h)]
    · rw [Loop.taken_trouble, Loop.taken_troubleRun]
      refine ⟨fun clear h => ?_, fun clear h short => ?_, fun clear h full => ?_, fun set h => ?_,
        fun set h short => ?_, fun set h full => ?_⟩
      · rw [Loop.judgeTrouble_clear_working clear (works h)]
        exact ⟨clear, rfl⟩
      · rw [Loop.judgeTrouble_clear_counts clear (faulty h).1 short]
        exact ⟨clear, rfl⟩
      · rw [Loop.judgeTrouble_clear_turns clear (faulty h).1 full]
        exact ⟨(faulty h).2, rfl⟩
      · rw [Loop.judgeTrouble_set_faulty set (faulty h).1]
        exact ⟨(faulty h).2, rfl⟩
      · rw [Loop.judgeTrouble_set_counts set (works h) short]
        exact ⟨rfl, rfl⟩
      · rw [Loop.judgeTrouble_set_turns set (works h) full]
        exact ⟨rfl, rfl⟩

end Sys2Proof
end

section
/-! SUPPORT. The release battery (R49): a code judged, and what leaves the battery trouble alone. -/

namespace Sys2Proof

theorem exec_batteryCode_of_running {s : Machine.State} (running : s.station.running = true) (code : BitVec 10) :
    Machine.exec (.batteryCode (.sample code)) s
      = .next (s.put { s.station with
          det := (s.station.det.sampled .battery).takeBattery s.station.cfg.batteryLow code }) := by
  rw [exec_batteryCode, Station.onlyIf_of_true _ running]
  rfl

theorem exec_countdownExpiry_of_running {s : Machine.State} (running : s.station.running = true) :
    Machine.exec .countdownExpiry s = .next (s.put s.station.countdownExpired) :=
  s.next_put (Station.onlyIf_of_true _ running)

section
variable {d : Detection} {low : Nat} {code : BitVec 10}

/-- A code counts against the trouble where it says the other thing. -/
theorem Detection.takeBattery_eq :
    d.takeBattery low code =
      if decide (code.toNat < low) = d.battery then { d with batteryRun := 0 }
      else if d.batteryRun = 1 then { d with battery := !d.battery, batteryRun := 0 }
      else { d with batteryRun := d.batteryRun + 1 } := by
  unfold Detection.takeBattery
  cases d.battery <;> by_cases under : code.toNat < low <;> simp [under, Nat.not_le.mpr, Nat.not_lt.mp]

theorem Detection.takeBattery_agrees (same : decide (code.toNat < low) = d.battery) :
    d.takeBattery low code = { d with battery := d.battery, batteryRun := 0 } := by
  rw [Detection.takeBattery_eq, if_pos same]

theorem Detection.takeBattery_counts (against : decide (code.toNat < low) ≠ d.battery)
    (first : d.batteryRun ≠ 1) :
    d.takeBattery low code = { d with battery := d.battery, batteryRun := d.batteryRun + 1 } := by
  rw [Detection.takeBattery_eq, if_neg against, if_neg first]

theorem Detection.takeBattery_turns (against : decide (code.toNat < low) ≠ d.battery)
    (second : d.batteryRun = 1) :
    d.takeBattery low code = { d with battery := decide (code.toNat < low), batteryRun := 0 } := by
  rw [Detection.takeBattery_eq, if_neg against, if_pos second, Bool.eq_not.mpr against]

end

section
variable (st : Station)

@[simp] theorem Station.enterClash_det : st.enterClash.det = st.det := by
  unfold Station.enterClash
  split
  · rfl
  · exact (Station.det_of_outer (Station.pullsChanged_outer _)).trans rfl

/-- R45, R49: a RESTORE clears the alarms, and not the battery trouble. -/
theorem Station.restored_battery : st.restored.det.battery = st.det.battery := by
  unfold Station.restored
  rw [Station.setFire_det]
  rfl

theorem Station.takeRestore_battery (src : Addr) (seq : Byte) :
    (st.takeRestore src seq).det.battery = st.det.battery := by
  have answered (x : Station) (o : ReplyOutcome) :
      (x.reply .suppression src 19 seq o).det = x.det := Station.det_of_outer (x.reply_outer ..)
  rw [Station.takeRestore_eq]
  split_ifs
  all_goals rw [answered]
  exact st.restored_battery

/-- A request handled in any way that keeps the battery trouble. -/
theorem Station.fromConsole_battery (src : Addr) {f : Station → Station}
    (keeps : (f st).det.battery = st.det.battery) :
    (Station.fromConsole src f st).det.battery = st.det.battery := by
  refine Station.onlyIf_keeps (P := fun x => x.det.battery = st.det.battery) rfl fun _ => ?_
  split
  · rw [Station.enterClash_det]
  · exact Station.onlyIf_keeps (P := fun x => x.det.battery = st.det.battery) rfl fun _ => keeps

/-- R65: with the lock clear, the expiry of a running countdown drives the release. -/
theorem Station.countdownExpired_releases (counting : st.supp.countdown.isSome) (free : st.supp.lock = false) :
    st.countdownExpired.supp.release = true ∧ st.countdownExpired.det = st.det := by
  unfold Station.countdownExpired
  rw [Station.onlyIf_of_true _ counting]
  simp [free, Suppression.take, FireState.releaseOn]

end

/-- Settles O13: the rows of `Detection.takeBattery`, then RESTORE and the countdown's expiry. -/
theorem batteryJudged : Obligations.BatteryJudged := by
  refine ⟨fun s code running => ?_, fun s src seq => ?_, fun s running _ counting free => ?_⟩
  · intro d low put
    rw [exec_batteryCode_of_running running]
    have judged {x : Detection} (h : d.takeBattery s.station.cfg.batteryLow code = x) :
        _ = Host.Outcome.next (s.put { s.station with det := x }) :=
      s.next_put (congrArg (fun x => ({ s.station with det := x } : Station)) h)
    refine ⟨fun same => judged (Detection.takeBattery_agrees same),
      fun against first => judged (Detection.takeBattery_counts against first),
      fun against second => judged (Detection.takeBattery_turns against second), fun zero clear => ?_⟩
    have same : decide (code.toNat < s.station.cfg.batteryLow) = d.battery := by simp [zero, clear]
    exact ⟨_, judged (Detection.takeBattery_agrees same), clear⟩
  · exact ⟨_, exec_restore src seq s, s.station.fromConsole_battery src (s.station.takeRestore_battery src seq)⟩
  · obtain ⟨drives, det⟩ := s.station.countdownExpired_releases counting free
    exact ⟨_, exec_countdownExpiry_of_running running, drives, congrArg Detection.battery det⟩

end Sys2Proof
end

section
/-! SUPPORT. A latch taken in (R57 to R63): the entries into PREALARM, COUNTDOWN and HELD. -/

namespace Sys2Proof

section
variable {st : Station}

/-- A change into the confirmed states: the blocks act, then the FIRE-REPORT is handed on (R71). -/
theorem Station.setFire_enters {f : FireState} (h : st.confirmed = false) (hf : f.confirmed = true) :
    st.setFire f = (st.onSupp (·.take f)).followConfirmed.handFireReport := by
  unfold Station.setFire
  simp only [h, hf, Bool.false_eq_true, if_false, if_true]

/-! ### COUNTDOWN (R63, R64) -/

/-- COUNTDOWN entered with the full PREDISCHARGE, the hold switch not yet looked at. -/
def Station.counted (st : Station) : Station :=
  ({ st with
    supp := { st.supp.inState .countdown true true false false with
      evacuation := none, countdown := some (ticksOfSec st.cfg.predischarge) } } : Station
    ).followConfirmed.handFireReport

/-- HELD entered, the countdown stopped. -/
def Station.heldBack (st : Station) : Station :=
  ({ st with
    supp := { st.supp.inState .held true true false false with countdown := none } } : Station).handFireReport

/-- R63: HELD follows at once where the hold switch reads CLOSED. -/
theorem Station.enterCountdown_eq (unconfirmed : st.confirmed = false) :
    st.enterCountdown = st.counted.onlyIf st.supp.holdClosed Station.heldBack := by
  have counts : (st.onSupp fun x =>
      { x with evacuation := none, countdown := some (ticksOfSec st.cfg.predischarge) }).setFire .countdown
        = st.counted := Station.setFire_enters unconfirmed rfl
  have supp : st.counted.supp = { st.supp.inState .countdown true true false false with
      evacuation := none, countdown := some (ticksOfSec st.cfg.predischarge) } := by
    rw [← counts, Station.setFire_supp]
    rfl
  have holds : st.counted.supp.holdClosed = st.supp.holdClosed := by rw [supp]; rfl
  have held : (st.counted.onSupp fun x => { x with countdown := none }).setFire .held = st.counted.heldBack :=
    Station.setFire_within .held (by simp [Station.confirmed, supp, Suppression.inState, FireState.confirmed])
  unfold Station.enterCountdown
  simp only [counts, holds, Station.onlyIf, held]

/-! ### A latch of a SMOKE or HEAT loop (R57 to R60), and of a MANUAL loop (R61) -/

theorem Station.takeLatch_confirmed (h : st.confirmed = true) : st.takeLatch = st := by
  unfold Station.takeLatch
  exact if_pos h

theorem Station.takeManualLatch_confirmed (h : st.confirmed = true) : st.takeManualLatch = st := by
  unfold Station.takeManualLatch
  exact if_pos h

theorem Station.takeManualLatch_unconfirmed (h : st.confirmed = false) :
    st.takeManualLatch
      = ({ st with supp := { st.supp with manual := true } } : Station).counted.onlyIf st.supp.holdClosed
          Station.heldBack := by
  unfold Station.takeManualLatch
  rw [if_neg (by simp [h])]
  exact Station.enterCountdown_eq h

theorem Station.takeLatch_confirms (h : st.confirmed = false) (holds : st.confirmationHolds = true) :
    st.takeLatch = st.confirm := by
  unfold Station.takeLatch
  rw [if_neg (by simp [h]), if_pos holds]

theorem Station.takeLatch_prealarm (fire : st.supp.fire = .prealarm) (fails : st.confirmationHolds = false) :
    st.takeLatch = st := by
  have unconfirmed : st.confirmed = false := congrArg FireState.confirmed fire
  unfold Station.takeLatch
  rw [if_neg (by simp [unconfirmed]), if_neg (by simp [fails]), Station.onlyIf_of_false _ (by simp [fire])]

theorem Station.takeLatch_normal (fire : st.supp.fire = .normal) (fails : st.confirmationHolds = false) :
    st.takeLatch
      = ({ st with supp := st.supp.inState .prealarm true false false false } : Station).handFireReport := by
  have unconfirmed : st.confirmed = false := congrArg FireState.confirmed fire
  unfold Station.takeLatch
  rw [if_neg (by simp [unconfirmed]), if_neg (by simp [fails]), Station.onlyIf_of_true _ (by simp [fire])]
  exact Station.setFire_within .prealarm unconfirmed

end

/-! ### The sample that latches -/

section
variable {s : Machine.State} {n : Fin 4} {code : BitVec 10} {l' : Loop} {d' : Detection}

/-- The sample that completes an alarm run: the loop and its zone latch, and the suppression controller takes
the latch in by the loop's kind. -/
theorem exec_loopSample_latches (running : s.station.running = true)
    (lo : 150 ≤ code.toNat) (hi : code.toNat ≤ 499) (fresh : (s.station.det.loop n).latched = false)
    (used : (s.station.cfg.loop n).kind ≠ .unused)
    (completes : (s.station.cfg.loop n).kind.verification ≤ (s.station.det.loop n).alarmRun + 1)
    (loop : l' = (s.station.det.loop n).taken (s.station.cfg.loop n).kind .alarm)
    (det : d' = ((s.station.det.sampled (.loop n)).setLoop n l').latchZone (s.station.cfg.loop n).zone) :
    Machine.exec (.loopSample n (.sample code)) s
      = .next (s.put (({ s.station with det := d' } : Station).latched (s.station.cfg.loop n).kind)) := by
  have alarm : bandOfCode code = .alarm := bandOfCode_alarm lo hi
  have made : ((s.station.det.loop n).taken (s.station.cfg.loop n).kind (bandOfCode code)).latched = true := by
    rw [Loop.taken_latched, alarm]
    simp [completes]
  have latches := Station.loopSampled_latches (st := s.station.onDet (·.sampled (.loop n))) (code := code) used
    (by rw [Station.onDet_det, Detection.sampled_loop]; exact fresh)
    (by rw [Station.onDet_det, Station.onDet_cfg, Detection.sampled_loop]; exact made)
  rw [exec_loopSample_of_running running, latches, det, loop]
  simp only [Station.onDet_det, Station.onDet_cfg, Detection.sampled_loop, alarm]
  rfl

end

/-- Settles O15: the sample latches by `exec_loopSample_latches`; then the rows of `takeLatch`, and the two of
`enterCountdown` with the manual flag set. -/
theorem alarmsTakenIn : Obligations.AlarmsTakenIn := by
  refine ⟨fun s n code l' d' running lo hi fresh kind band latched run trouble troubleRun det => ?_,
    fun s n code l' d' running manual lo hi fresh band latched run trouble troubleRun det => ?_⟩
  · have used : (s.station.cfg.loop n).kind ≠ .unused := by
      rcases kind with heat | ⟨smoke, -⟩
      · simp [heat]
      · simp [smoke]
    have verification := LoopKind.verification_of_used used
    have completes : (s.station.cfg.loop n).kind.verification ≤ (s.station.det.loop n).alarmRun + 1 := by
      rcases kind with heat | ⟨smoke, two⟩
      · simp [heat, LoopKind.verification]
      · simpa [smoke, LoopKind.verification] using two
    have loop := Loop.taken_of_latching band latched (run.trans verification.symm) trouble troubleRun completes
    have exec := exec_loopSample_latches running lo hi fresh used completes loop
      (det.trans (by unfold Detection.latchZone; rfl))
    have taken (x : Station) : x.latched (s.station.cfg.loop n).kind = x.takeLatch := by
      rcases kind with heat | ⟨smoke, -⟩
      · rw [heat]; rfl
      · rw [smoke]; rfl
    rw [taken] at exec
    intro st
    exact ⟨fun confirmed => exec.trans (s.next_put (Station.takeLatch_confirmed confirmed)),
      fun unconfirmed holds => exec.trans (s.next_put (Station.takeLatch_confirms unconfirmed holds)),
      fun prealarm fails => exec.trans (s.next_put (Station.takeLatch_prealarm prealarm fails)),
      fun normal fails => exec.trans (s.next_put (Station.takeLatch_normal normal fails))⟩
  · have used : (s.station.cfg.loop n).kind ≠ .unused := by simp [manual]
    have one : (s.station.cfg.loop n).kind.verification = 1 := by rw [manual]; rfl
    have completes : (s.station.cfg.loop n).kind.verification ≤ (s.station.det.loop n).alarmRun + 1 := by
      omega
    have loop := Loop.taken_of_latching band latched (run.trans one.symm) trouble troubleRun completes
    have exec := exec_loopSample_latches running lo hi fresh used completes loop
      (det.trans (by unfold Detection.latchZone; rfl))
    rw [manual] at exec
    have hands (unconfirmed : s.station.confirmed = false) :=
      Station.takeManualLatch_unconfirmed (st := { s.station with det := d' }) unconfirmed
    exact ⟨fun unconfirmed opened =>
        exec.trans (s.next_put ((hands unconfirmed).trans (Station.onlyIf_of_false _ opened))),
      fun unconfirmed closed =>
        exec.trans (s.next_put ((hands unconfirmed).trans (Station.onlyIf_of_true _ closed))),
      fun confirmed => exec.trans (s.next_put (Station.takeManualLatch_confirmed confirmed))⟩

end Sys2Proof
end

section
/-! SUPPORT. The laws that every step keeps on its own (R65, R77, R107, R178), with the release lock (R67), carried
through the operations on the line and the collections: `Station.Obeys`, and one lemma per operation. -/

namespace Sys2Proof

/-! ### The laws carried -/

/-- A change of the suppression controller that neither clears the release lock nor drives the release under it. -/
structure Suppression.Obeys (x y : Suppression) : Prop where
  lock : x.lock = true → y.lock = true
  release : (x.release = true → x.lock = false) → y.release = true → y.lock = false

/-- `b` comes of `a` by changes each of which keeps each of the laws: the release lock stays set, the release output
stays off under it, and the bounds of the queue, the occupancy list and the pull queue stay. -/
structure Station.Obeys (a b : Station) : Prop where
  supp : a.supp.Obeys b.supp
  queue : a.queueBounded → b.queueBounded
  occupancy : a.occupancyLawful → b.occupancyLawful
  pulls : a.pullsBounded → b.pullsBounded

theorem Suppression.Obeys.refl (x : Suppression) : x.Obeys x := ⟨id, id⟩

theorem Suppression.Obeys.trans {x y z : Suppression} (h : x.Obeys y) (k : y.Obeys z) : x.Obeys z :=
  ⟨fun l => k.lock (h.lock l), fun r => k.release (h.release r)⟩

/-- The lock and the output as they were. -/
theorem Suppression.Obeys.of_same {x y : Suppression} (lock : y.lock = x.lock) (release : y.release = x.release) :
    x.Obeys y :=
  ⟨fun h => lock.trans h, fun h => by rwa [lock, release]⟩

/-- The output off, the lock as it was or set. -/
theorem Suppression.Obeys.of_off {x y : Suppression} (lock : x.lock = true → y.lock = true)
    (release : y.release = false) : x.Obeys y :=
  ⟨lock, fun _ h => absurd h (by simp [release])⟩

/-- The four outputs of a fire state other than RELEASE (R69). -/
theorem Suppression.Obeys.take (x : Suppression) {f : FireState} (h : f ≠ .release) : x.Obeys (x.take f) :=
  .of_off id (by cases f <;> simp_all [Suppression.take, FireState.releaseOn])

theorem Station.Obeys.refl (a : Station) : a.Obeys a := ⟨.refl _, id, id, id⟩

/-! ### The line interface's operations on its queue -/

theorem Line.select_queue (l : Line) (own : Addr) (order : TxOrder) : (l.select own order).queue = l.queue := by
  unfold Line.select
  split
  · split <;> rfl
  · rfl

theorem Line.remove_queue (l : Line) (m : Nat) :
    (l.remove m).queue = l.queue.filter fun q => decide (q.made ≠ m) := rfl

/-- A queued message that leaves makes room. -/
theorem Line.remove_length_lt {l : Line} {q : QMsg} (h : q ∈ l.queue) :
    (l.remove q.made).queue.length < l.queue.length := by
  rw [Line.remove_queue]
  exact List.length_filter_lt_length_iff_exists.mpr ⟨q, h, by simp⟩

theorem Line.remove_length_le (l : Line) (m : Nat) : (l.remove m).queue.length ≤ l.queue.length :=
  List.length_filter_le _ _

theorem Line.displaced_mem {l : Line} {q : QMsg} (h : l.displaced = some q) : q ∈ l.queue := by
  have newest {g : Group} (hg : l.newest g = some q) : q ∈ l.queue :=
    List.mem_reverse.mp (List.mem_of_find?_eq_some hg)
  unfold Line.displaced at h
  cases hr : l.newest .routine with
  | some r =>
    rw [hr, Option.some_or] at h
    exact newest (hr.trans h)
  | none =>
    rw [hr, Option.none_or] at h
    exact newest h

theorem Line.displace_queue (l : Line) (q : QMsg) : (l.displace q).queue = (l.remove q.made).queue := by
  unfold Line.displace
  dsimp only
  split <;> rfl

theorem Line.appendNew_length (l : Line) (k : Blk) (body : Body) :
    (l.appendNew k body).queue.length = l.queue.length + 1 := by
  simp [Line.appendNew, Line.append]

/-- R178, R179: a FIRE message replaces one, joins where there is room, or displaces one. -/
theorem Line.offerFire_bounded {l : Line} (body : Body) (h : l.queue.length ≤ 16) :
    (l.offerFire body).queue.length ≤ 16 := by
  unfold Line.offerFire
  split
  · next old found =>
    have left := Line.remove_length_lt (List.mem_of_find?_eq_some found)
    rw [Line.appendNew_length]
    omega
  · split
    · rw [Line.appendNew_length]
      omega
    · split
      · next q displaced =>
        have left := Line.remove_length_lt (Line.displaced_mem displaced)
        rw [Line.appendNew_length, Line.displace_queue]
        omega
      · exact h

/-- R178, R179: a STATUS replaces one, joins where there is room, or is dropped. -/
theorem Line.offerStatus_bounded {l : Line} (body : Body) (h : l.queue.length ≤ 16) :
    (l.offerStatus body).queue.length ≤ 16 := by
  unfold Line.offerStatus
  split
  · next old found =>
    have left := Line.remove_length_lt (List.mem_of_find?_eq_some found)
    rw [Line.appendNew_length]
    omega
  · split
    · rw [Line.appendNew_length]
      omega
    · exact h

theorem Line.startSending_queue (l : Line) (own : Addr) : (l.startSending own).queue = l.queue := by
  unfold Line.startSending
  split
  · split <;> rfl
  · rfl
  · rfl

theorem Line.readbackFails_queue (l : Line) : l.readbackFails.queue = l.queue := by
  unfold Line.readbackFails
  split
  · unfold Line.fail
    dsimp only
    split <;> rfl
  · rfl
  · rfl

namespace Station.Obeys

variable {a b c : Station}

theorem trans (h : a.Obeys b) (k : b.Obeys c) : a.Obeys c :=
  ⟨h.supp.trans k.supp, fun x => k.queue (h.queue x), fun x => k.occupancy (h.occupancy x),
    fun x => k.pulls (h.pulls x)⟩

/-- The station that an operation answers beside a value. -/
theorem of_answer {α : Type} {p : Station × α} {x : Station} {v : α} (h : a.Obeys p.1) (e : p = (x, v)) :
    a.Obeys x := by
  rw [e] at h
  exact h

variable (h : a.Obeys b)
include h

/-- What the laws look at is as it was. -/
theorem of_same (supp : c.supp = b.supp) (queue : c.line.queue = b.line.queue)
    (occupancy : c.door.occupancy = b.door.occupancy) (pulls : c.pulls.entries = b.pulls.entries) :
    a.Obeys c where
  supp := supp ▸ h.supp
  queue x := by
    unfold Station.queueBounded
    rw [queue]
    exact h.queue x
  occupancy x := by
    unfold Station.occupancyLawful
    rw [occupancy]
    exact h.occupancy x
  pulls x := by
    unfold Station.pullsBounded
    rw [pulls]
    exact h.pulls x

/-! #### Updates of a block -/

theorem onLoader (f : Loader → Loader) : a.Obeys (b.onLoader f) := h.of_same rfl rfl rfl rfl
theorem onRetention (f : Retention → Retention) : a.Obeys (b.onRetention f) := h.of_same rfl rfl rfl rfl
theorem onPins (f : Pins → Pins) : a.Obeys (b.onPins f) := h.of_same rfl rfl rfl rfl
theorem onMoist (f : Moisture → Moisture) : a.Obeys (b.onMoist f) := h.of_same rfl rfl rfl rfl
theorem onAir (f : DryAir → DryAir) : a.Obeys (b.onAir f) := h.of_same rfl rfl rfl rfl
theorem onMotion (f : Motion → Motion) : a.Obeys (b.onMotion f) := h.of_same rfl rfl rfl rfl
theorem onDet (f : Detection → Detection) : a.Obeys (b.onDet f) := h.of_same rfl rfl rfl rfl
theorem onTable (f : SlotTable → SlotTable) : a.Obeys (b.onTable f) := h.of_same rfl rfl rfl rfl
theorem onAudit (f : Audit → Audit) : a.Obeys (b.onAudit f) := h.of_same rfl rfl rfl rfl
theorem onXfer (f : Transfers → Transfers) : a.Obeys (b.onXfer f) := h.of_same rfl rfl rfl rfl
theorem onHatch (f : Hatch → Hatch) : a.Obeys (b.onHatch f) := h.of_same rfl rfl rfl rfl
theorem onPeers (f : PeerView → PeerView) : a.Obeys (b.onPeers f) := h.of_same rfl rfl rfl rfl

theorem onSupp (f : Suppression → Suppression) (hf : b.supp.Obeys (f b.supp)) : a.Obeys (b.onSupp f) :=
  ⟨h.supp.trans hf, h.queue, h.occupancy, h.pulls⟩

theorem onLine (f : Line → Line) (hf : b.line.queue.length ≤ 16 → (f b.line).queue.length ≤ 16) :
    a.Obeys (b.onLine f) :=
  ⟨h.supp, fun x => hf (h.queue x), h.occupancy, h.pulls⟩

/-- The line interface but for its queue. -/
theorem onLine_beside (f : Line → Line) (hf : (f b.line).queue = b.line.queue) : a.Obeys (b.onLine f) :=
  h.of_same rfl hf rfl rfl

theorem setPulls (es : List PullEntry) (hes : b.pulls.entries.length ≤ 16 → es.length ≤ 16) :
    a.Obeys (b.setPulls es) :=
  ⟨h.supp, h.queue, h.occupancy, fun x => hes (h.pulls x)⟩

theorem setOccupancy (ids : List Cart)
    (hids : b.occupancyLawful → ids.length ≤ 8 ∧ ids.Nodup) : a.Obeys (b.setOccupancy ids) :=
  ⟨h.supp, h.queue, fun x => hids (h.occupancy x), h.pulls⟩

theorem onlyIf {g : Bool} {f : Station → Station} (hf : a.Obeys b → a.Obeys (f b)) : a.Obeys (b.onlyIf g f) :=
  Station.onlyIf_keeps h hf

theorem ite {p : Prop} [Decidable p] {x y : Station} (hx : a.Obeys b → a.Obeys x) (hy : a.Obeys b → a.Obeys y) :
    a.Obeys (if p then x else y) := by
  split
  · exact hx h
  · exact hy h

theorem foldl {α : Type} {f : Station → α → Station} (hf : ∀ s x, a.Obeys s → a.Obeys (f s x)) (l : List α) :
    a.Obeys (l.foldl f b) := by
  induction l generalizing b with
  | nil => exact h
  | cons x l ih => exact ih (hf b x h)

/-! #### The transmit queue -/

theorem select : a.Obeys b.select := h.onlyIf fun h => h.onLine_beside _ (Line.select_queue ..)

theorem join (p : Pend) (room : b.line.queue.length < 16) : a.Obeys (b.join p) := by
  have joined : a.Obeys (b.onLine (·.append p)) := h.onLine _ fun _ => by simp [Line.append]; omega
  unfold Station.join
  dsimp only
  split
  · exact (joined.onXfer _).select
  · exact joined.select

theorem takePend (p : Pend) (rest : List Pend) (room : b.line.queue.length < 16) : a.Obeys (b.takePend p rest) :=
  (h.onLine_beside _ rfl).join p room

theorem takeDamage (d : Nat × Nat) (room : b.line.queue.length < 16) : a.Obeys (b.takeDamage d) :=
  (h.onTable _).join _ room

/-- A place is offered where there is one alone. -/
theorem placeOffer (e : b.placeOffer = some c) : a.Obeys c := by
  unfold Station.placeOffer at e
  split at e
  · cases e
  · next free =>
    have room : b.line.queue.length < 16 := Nat.not_le.mp fun full => free (.inr full)
    split at e
    · cases e
    · cases e
      exact h.takePend _ _ room
    · cases e
      exact h.takeDamage _ room
    · split at e
      · cases e
        exact h.takePend _ _ room
      · cases e
        exact h.takeDamage _ room

theorem offerUpTo (k : Nat) : a.Obeys (Station.offerUpTo k b) := by
  induction k generalizing b with
  | zero => exact h
  | succ k ih =>
    unfold Station.offerUpTo
    split
    · next taken => exact ih (h.placeOffer taken)
    · exact h

theorem offerPlaces : a.Obeys b.offerPlaces := h.offerUpTo 16

theorem hand (k : Blk) (d : Addr) (m : Body) : a.Obeys (b.hand k d m) :=
  h.onlyIf fun h => (h.onLine_beside _ rfl).offerPlaces

theorem handAlert (k : Blk) (m : AlertBody) : a.Obeys (b.handAlert k m) := h.onlyIf fun h => h.hand _ _ _

theorem reply (k : Blk) (src : Addr) (kind seq : Byte) (o : ReplyOutcome) (d : Option Detail := none) :
    a.Obeys (b.reply k src kind seq o d) := h.hand _ _ _

theorem handFire (m : Body) : a.Obeys (b.handFire m) :=
  h.onlyIf fun h => (h.onLine _ fun q => Line.offerFire_bounded m q).select

theorem handFireReport : a.Obeys b.handFireReport := h.handFire _

/-! #### The pull queue and the audit's cursor -/

theorem auditReply (o : ReplyOutcome) (d : Detail) : a.Obeys (b.auditReply o d) := h.reply _ _ _ _ _ _

theorem auditComplete : a.Obeys b.auditComplete := by
  unfold Station.auditComplete
  exact (h.auditReply _ _).onAudit _

theorem auditAt (n : Nat) : a.Obeys (b.auditAt n) := h.onAudit _

theorem suspensionTest : a.Obeys b.suspensionTest := by
  unfold Station.suspensionTest
  refine h.ite (fun h => h.onlyIf fun h => h.onAudit _) fun h => h.onlyIf fun h => ?_
  split
  · exact h.auditAt _
  · exact h.auditComplete

theorem auditRunAt (n : Nat) : a.Obeys (b.auditRunAt n) := (h.auditAt n).suspensionTest

omit h in
theorem relit_length (frozen : Bool) (es : List PullEntry) : (relit frozen es).length = es.length := by
  induction es generalizing frozen with
  | nil => rfl
  | cons e es ih =>
    unfold relit
    split <;> simp [ih]

theorem relight : a.Obeys b.relight :=
  (h.setPulls _ fun x => (relit_length _ _).trans_le x).of_same rfl rfl rfl rfl

theorem pullsChanged : a.Obeys b.pullsChanged := h.relight.suspensionTest

/-- Entries leave the pull queue. -/
theorem filterPulls (p : PullEntry → Bool) : a.Obeys (b.setPulls (b.pulls.entries.filter p)) :=
  h.setPulls _ fun x => (List.length_filter_le _ _).trans x

/-- Entries of the pull queue rewritten in place. -/
theorem mapPulls (f : PullEntry → PullEntry) : a.Obeys (b.setPulls (b.pulls.entries.map f)) :=
  h.setPulls _ fun x => by rwa [List.length_map]

theorem cancelPulls (p : PullEntry → Bool) : a.Obeys (b.cancelPulls p) :=
  h.ite (fun h => h) fun h =>
    ((h.filterPulls _).foldl (fun _ _ h => h.reply _ _ _ _ _ _) _).pullsChanged

theorem setPullState (n : Cart) (s : PullState) : a.Obeys (b.setPullState n s) := h.mapPulls _

theorem cancelHeld : a.Obeys b.cancelHeld := h.cancelPulls _

/-! #### Slot records -/

theorem noticeDamage (n : Nat) : a.Obeys (b.noticeDamage n) := by
  have noticed : a.Obeys (((b.modifySlot n fun s =>
      { s with damage := .pending b.line.made }).numbered).offerPlaces) :=
    ((h.onTable _).onLine_beside _ rfl).offerPlaces
  refine h.ite (fun _ => ?_) fun h => h
  split
  · exact noticed.cancelPulls _
  · exact noticed

theorem readAll : a.Obeys b.readAll := h.foldl (fun _ n h => h.noticeDamage n) _

theorem modifySlot (n : Nat) (f : Slot → Slot) : a.Obeys (b.modifySlot n f) := h.onTable _

theorem putRecord (n : Nat) (r : Rec) : a.Obeys (b.putRecord n r) := h.modifySlot n _

theorem writeRecord (n : Nat) (r : Rec) : a.Obeys (b.writeRecord n r) := (h.putRecord n r).cancelPulls _

theorem placeWrite (n : Nat) (t : Tid) : a.Obeys (b.placeWrite n t).1 := by
  unfold Station.placeWrite
  dsimp only
  split
  · split
    · dsimp only
      exact (h.noticeDamage n).writeRecord _ _
    · exact h.noticeDamage n
  · exact h.noticeDamage n

theorem freeWrite (n : Nat) (t : Tid) : a.Obeys (b.freeWrite n t).1 := by
  unfold Station.freeWrite
  dsimp only
  split
  · split
    · dsimp only
      exact (h.noticeDamage n).writeRecord _ _
    · exact h.noticeDamage n
  · exact h.noticeDamage n

theorem closeOutWrite (n : Nat) (t : Tid) : a.Obeys (b.closeOutWrite n t) := by
  unfold Station.closeOutWrite
  dsimp only
  split
  · exact (h.noticeDamage n).ite (fun h => h.writeRecord _ _) fun h => h
  · exact h.noticeDamage n

theorem reserveWrite (x : Cart) (t : Tid) : a.Obeys (b.reserveWrite x t).1 := by
  unfold Station.reserveWrite
  dsimp only
  split
  · exact h.readAll
  · split
    · exact h.readAll
    · dsimp only
      exact h.readAll.writeRecord _ _

theorem setUnplanned (n : Nat) : a.Obeys (b.setUnplanned n) := by
  unfold Station.setUnplanned
  split
  · exact h.writeRecord _ _
  · exact h

/-! #### The audit -/

theorem auditLifted (n : Nat) (f : Finding) : a.Obeys (b.auditLifted n f) := h.onlyIf fun h => h.onAudit _

theorem auditAdvance (n : Nat) : a.Obeys (b.auditAdvance n) := by
  unfold Station.auditAdvance
  split
  · exact h.auditRunAt _
  · exact h.auditComplete

theorem auditStray (n : Nat) : a.Obeys (b.auditStray n) := by
  unfold Station.auditStray
  split
  · exact h.ite (fun h => h.writeRecord _ _) fun h => h
  · exact h

theorem auditInserted (n : Nat) : a.Obeys (b.auditInserted n) :=
  h.ite (fun h => h.auditRunAt n) fun h => h.ite (fun h => (h.auditStray n).auditAdvance n) fun h => h

theorem auditAbort : a.Obeys b.auditAbort := by
  refine h.onlyIf fun h => ?_
  have ended : a.Obeys ((b.auditReply .aborted (.cursorCounts b.audit.cursor b.audit.checked b.audit.repaired
      b.audit.mismatched)).onAudit fun _ => .start) := (h.auditReply _ _).onAudit _
  dsimp only
  split
  · exact ended
  · split
    · exact (ended.noticeDamage _).ite (fun h => h) fun h => h.setUnplanned _
    · exact ended.noticeDamage _

theorem auditMismatch (n : Nat) (y : Cart) (second : Option Cart) : a.Obeys (b.auditMismatch n y second) :=
  h.hand _ _ _

theorem auditDecide (n : Nat) (y : Cart) : a.Obeys (b.auditDecide n y) := by
  unfold Station.auditDecide
  split
  · refine h.ite (fun h => (h.auditMismatch _ _ _).onAudit _) fun h =>
      h.ite (fun h => (h.writeRecord _ _).onAudit _) fun h => ?_
    dsimp only
    split
    · exact ((h.readAll.writeRecord _ _).auditMismatch _ _ _).onAudit _
    · exact (((h.readAll.writeRecord _ _).writeRecord _ _).auditMismatch _ _ _).onAudit _
    · exact (h.readAll.auditMismatch _ _ _).onAudit _
  · dsimp only
    split
    · exact (h.readAll.writeRecord _ _).onAudit _
    · exact ((h.readAll.writeRecord _ _).auditMismatch _ _ _).onAudit _
    · exact (((h.readAll.writeRecord _ _).writeRecord _ _).auditMismatch _ _ _).onAudit _
    · exact (h.readAll.auditMismatch _ _ _).onAudit _
  · exact (h.auditMismatch _ _ _).onAudit _

theorem auditScan (y : Cart) : a.Obeys (b.auditScan y) := by
  unfold Station.auditScan
  split
  · exact h
  · exact ((h.noticeDamage _).auditDecide _ y).onAudit _

theorem takeAudit (src : Addr) (seq : Byte) (first last : Nat) :
    a.Obeys (Station.takeAudit src seq first last b) := by
  have refused (o : ReplyOutcome) (h : a.Obeys b) : a.Obeys (b.reply .pulls src kindAudit seq o) :=
    h.reply _ _ _ _ _ _
  refine h.ite (refused _) fun h => h.ite (refused _) fun h => h.ite (refused _) fun h =>
    h.ite (refused _) fun h => h.ite (refused _) fun h => h.ite (refused _) fun h => ?_
  dsimp only
  split
  · exact (((h.onAudit _).auditAt _).reply _ _ _ _ _ _).suspensionTest
  · exact ((h.onAudit _).reply _ _ _ _ _ _).auditComplete

/-! #### The transfer engine -/

theorem sendXfer (d : Addr) (m : Body) : a.Obeys (b.sendXfer d m) := h.hand _ _ _

theorem xferAlert (k : AlertKind) (n : Option Nat) (x : Cart) (t : Option Tid) (r : Option Reason := none) :
    a.Obeys (b.xferAlert k n x t r) := h.hand _ _ _

theorem setXfers (es : List XferEntry) : a.Obeys (b.setXfers es) := h.onXfer _

theorem modifyXfer (t : Tid) (f : XferEntry → XferEntry) : a.Obeys (b.modifyXfer t f) := h.setXfers _

theorem removeXfer (t : Tid) : a.Obeys (b.removeXfer t) := h.setXfers _

theorem askLamp (n : Nat) (l : Lamp) : a.Obeys (b.askLamp n l) := h.onXfer _

theorem setCustody (es : List CustodyEntry) : a.Obeys (b.setCustody es) := h.onHatch _

theorem openXfer (d : Direction) (x : Cart) (j : Job) (n : Option Nat) (k : Option Cart) (p : Addr) :
    a.Obeys (b.openXfer d x j n k p).1 := by
  unfold Station.openXfer
  split
  · exact h
  · exact ((h.setXfers _).onXfer _).sendXfer _ _

theorem resend (e : XferEntry) : a.Obeys (b.resend e) := by
  unfold Station.resend
  split
  · exact h.sendXfer _ _
  · exact h.sendXfer _ _
  · exact h

theorem refused (e : XferEntry) (r : Reason) : a.Obeys (b.refused e r) := by
  have told : a.Obeys ((b.modifyXfer e.tid fun e =>
      { e with state := .refused, transit := .stopped, reply := none }).xferAlert .unanswered e.slot e.cart
        (some e.tid) (some r)) := (h.modifyXfer _ _).xferAlert _ _ _ _ _
  unfold Station.refused
  dsimp only
  split
  · split
    · exact told.askLamp _ _
    · exact told
  · exact (told.removeXfer _).setCustody _

theorem closeSending (e : XferEntry) : a.Obeys (b.closeSending e) := by
  unfold Station.closeSending
  refine Station.Obeys.onlyIf (Station.Obeys.removeXfer ?_ _) fun h => h.xferAlert _ _ _ _
  split
  · exact (h.closeOutWrite _ _).askLamp _ _
  · exact h
  · exact h.setCustody _

theorem withdrawLamp (n : Option Nat) : a.Obeys (b.withdrawLamp n) := by
  unfold Station.withdrawLamp
  split
  · exact h.askLamp _ _
  · exact h

theorem withdrawSending (e : XferEntry) : a.Obeys (b.withdrawSending e) :=
  ((h.withdrawLamp _).removeXfer _).onlyIf fun h => h.sendXfer _ _

theorem becomeArrived (e : XferEntry) : a.Obeys (b.becomeArrived e) := (h.modifyXfer _ _).sendXfer _ _

theorem placeFor (e : XferEntry) : a.Obeys (b.placeFor e).1 := by
  unfold Station.placeFor
  split
  · exact h
  · next n _ =>
    split
    · next placed => exact ((h.placeWrite n e.tid).of_answer placed).askLamp _ _
    · next placed => exact ((h.placeWrite n e.tid).of_answer placed).xferAlert _ _ _ _

theorem arrival (e : XferEntry) : a.Obeys (b.arrival e) := by
  unfold Station.arrival
  refine Station.Obeys.becomeArrived ?_ e
  split
  · exact h.placeFor e
  · exact h

theorem settleAtSlot (e : XferEntry) : a.Obeys (b.settleAtSlot e) := by
  unfold Station.settleAtSlot
  split
  · exact h.removeXfer _
  · dsimp only
    split
    · exact (h.noticeDamage _).ite (fun h => h.removeXfer _) fun h => (h.askLamp _ _).removeXfer _
    · exact (h.noticeDamage _).modifyXfer _ _
    · exact ((h.noticeDamage _).askLamp _ _).removeXfer _

theorem settleArrived (e : XferEntry) : a.Obeys (b.settleArrived e) := by
  unfold Station.settleArrived
  split
  · exact (h.removeXfer _).setCustody _
  · exact h.settleAtSlot e

theorem takeCustody (e : XferEntry) (r : Option Reason) : a.Obeys (b.takeCustody e r) :=
  (h.xferAlert _ _ _ _ _).settleArrived e

theorem xferInserted (n : Nat) (t : Tid) (p : Bool) : a.Obeys (b.xferInserted n t p) := by
  unfold Station.xferInserted
  split
  · exact h
  · exact h.ite (fun h => (h.askLamp _ _).ite (fun h => h.removeXfer _) fun h => h) fun h =>
      h.ite (fun h => h.becomeArrived _) fun h => h

theorem xferReturned (t : Tid) : a.Obeys (b.xferReturned t) := by
  unfold Station.xferReturned
  split
  · exact h
  · exact h.withdrawSending _

theorem makeClaim (x : Cart) : a.Obeys (b.makeClaim x) :=
  h.ite (fun h => h) fun h => h.ite (fun h => h) fun h => h.ite (fun h => h.hand _ _ _) fun h =>
    (h.onXfer _).sendXfer _ _

theorem claimAtBay (src : Addr) (t : Tid) (x : Cart) (j : Job) : a.Obeys (b.claimAtBay src t x j) := by
  refine h.ite (fun h => h.xferAlert _ _ _ _) fun h => ?_
  have reserved := h.reserveWrite x t
  split
  · next e => exact (reserved.of_answer e).xferAlert _ _ _ _
  · next e => exact (reserved.of_answer e).xferAlert _ _ _ _
  · next e =>
    have placed := (reserved.of_answer e).placeFor
    dsimp only
    split
    · next e => exact ((placed _).of_answer e).setXfers _
    · next e => exact (placed _).of_answer e

theorem acceptOffer (src : Addr) (t : Tid) (x : Cart) (j : Job) (n : Option Nat) :
    a.Obeys (b.acceptOffer src t x j n) := (h.setXfers _).sendXfer _ _

theorem takeOffer (src : Addr) (t : Tid) (x : Cart) (j : Job) (d : Byte) :
    a.Obeys (Station.takeOffer src t x j d b) := by
  unfold Station.takeOffer
  refine h.onlyIf fun h => ?_
  dsimp only
  split
  · exact h.ite (fun h => h.sendXfer _ _) fun h => h.sendXfer _ _
  · split
    · exact h.sendXfer _ _
    · split
      · exact h.acceptOffer _ _ _ _ _
      · have reserved := h.reserveWrite x t
        split
        · next e => exact (reserved.of_answer e).sendXfer _ _
        · next e => exact (reserved.of_answer e).sendXfer _ _
        · next e => exact (reserved.of_answer e).acceptOffer _ _ _ _ _

theorem takeAccept (src : Addr) (t : Tid) (n : Option Byte) : a.Obeys (Station.takeAccept src t n b) := by
  refine h.onlyIf fun h => ?_
  split
  · exact h.sendXfer _ _
  · refine h.ite (fun h => h) fun h => ?_
    split
    · exact h.modifyXfer _ _
    · exact h.modifyXfer _ _
    · exact h.sendXfer _ _
    · exact h

theorem takeRefuse (src : Addr) (t : Tid) (r : Byte) : a.Obeys (Station.takeRefuse src t r b) := by
  refine h.onlyIf fun h => ?_
  split
  · exact h
  · refine h.ite (fun h => h) fun h => ?_
    split
    · exact h.refused _ _
    · exact h.refused _ _
    · exact h.ite (fun h => h.takeCustody _ _) fun h => h
    · exact h

theorem takeArrive (src : Addr) (t : Tid) : a.Obeys (Station.takeArrive src t b) := by
  refine h.onlyIf fun h => ?_
  split
  · exact h.sendXfer _ _
  · exact h.ite (fun h => h.sendXfer _ _) fun h => (h.sendXfer _ _).closeSending _

theorem closeClaim (src : Addr) (t : Tid) (x : Cart) (j : Option Job) : a.Obeys (b.closeClaim src t x j) := by
  have removed : a.Obeys (b.removeClaim x) := h.onXfer _
  unfold Station.closeClaim
  dsimp only
  split
  · exact removed.setCustody _
  · exact removed.claimAtBay _ _ _ _

theorem takeClose (src : Addr) (t : Tid) (x : Cart) (j : Option Job) : a.Obeys (Station.takeClose src t x j b) := by
  refine h.onlyIf fun h => ?_
  split
  · next entry _ =>
    split
    · exact h.settleArrived _
    · have placed := h.placeFor entry
      split
      · next e => exact (placed.of_answer e).modifyXfer _ _
      · next e => exact (placed.of_answer e).removeXfer _
    · exact h.settleArrived _
    · exact h
  · exact h.ite (fun h => h.closeClaim _ _ _ _) fun h => h.sendXfer _ _

theorem freeSlot (n : Nat) (t : Tid) : a.Obeys (b.freeSlot n t) := by
  have freed := h.freeWrite n t
  unfold Station.freeSlot
  split
  · next e => exact freed.of_answer e
  · next e => exact (freed.of_answer e).askLamp _ _

theorem takeWithdraw (src : Addr) (t : Tid) : a.Obeys (Station.takeWithdraw src t b) := by
  refine h.onlyIf fun h => ?_
  dsimp only
  split
  · exact h
  · refine h.ite (fun h => ?_) fun h => h
    split
    · exact (h.freeSlot _ _).removeXfer _
    · exact h.removeXfer _

theorem takeClaim (src : Addr) (x : Cart) : a.Obeys (Station.takeClaim src x b) := by
  refine h.onlyIf fun h => ?_
  dsimp only
  split
  · exact h
  · exact ((h.sendXfer _ _).closeSending _).onlyIf fun h => h.sendXfer _ _

theorem replyExpired (t : Tid) : a.Obeys (Station.replyExpired t b) := by
  unfold Station.replyExpired
  split
  · exact h
  · exact h.ite (fun h => h) fun h => h.ite
      (fun h => h.ite (fun h => (h.modifyXfer _ _).resend _) fun h =>
        h.ite (fun h => (h.modifyXfer _ _).xferAlert _ _ _ _) fun h => (h.modifyXfer _ _).takeCustody _ _)
      fun h => h

theorem transitExpired (t : Tid) : a.Obeys (Station.transitExpired t b) := by
  unfold Station.transitExpired
  split
  · exact h
  · split
    · exact (h.modifyXfer _ _).xferAlert _ _ _ _
    · exact h
    · exact h

theorem claimExpired (x : Cart) : a.Obeys (Station.claimExpired x b) := by
  have told : a.Obeys ((b.removeClaim x).xferAlert .strayArrival none x none) := (h.onXfer _).xferAlert _ _ _ _
  refine h.ite (fun _ => ?_) fun h => h
  dsimp only
  split
  · exact told
  · exact told.setCustody _

theorem takeQueryTransfer (src : Addr) (seq : Byte) (t : Tid) : a.Obeys (Station.takeQueryTransfer src seq t b) := by
  unfold Station.takeQueryTransfer
  split <;> exact h.reply _ _ _ _ _ _

end Station.Obeys
end Sys2Proof
end

section
/-! SUPPORT. The laws of `Station.Obeys` through the hatch unit, the slot table's events, the fire state, the door,
the messages and the starts; with them through every command and every step (O58, O19). -/

namespace Sys2Proof

namespace Station.Obeys

variable {a b : Station} (h : a.Obeys b)
include h

/-! #### The motion channel and the hatch unit -/

theorem onSession (f : Session → Session) : a.Obeys (b.onSession f) := h.onHatch _

/-- An operation of the channel changes the channel alone. -/
theorem of_motion {c : Station} (e : c = { b with motion := c.motion }) : a.Obeys c := by
  rw [e]
  exact h.onMotion fun _ => c.motion

theorem command (e : MotionEnd) : a.Obeys (b.command e).1 := h.of_motion (b.command_motion e)

theorem handover (n : Nat) (r : Option AbortReason) : a.Obeys (b.handover n r) := h.hand _ _ _

theorem settleSession : a.Obeys b.settleSession := by
  unfold Station.settleSession
  split
  · exact h.onlyIf fun h => h.onSession _
  · exact h.onlyIf fun h => h.onSession _
  · exact h

theorem endSession (s : SessionState) (r : Option AbortReason) : a.Obeys (b.endSession s r) := h.onSession _

theorem bringIn : a.Obeys b.bringIn := ((h.onSession _).command .b).settleSession

theorem abortSession (r : AbortReason) : a.Obeys (b.abortSession r) :=
  h.onlyIf fun h => (((h.endSession _ _).setCustody _).handover _ _).bringIn

theorem handOutbound : a.Obeys b.handOutbound := (((h.endSession _ _).setCustody _).handover _ _).bringIn

theorem setExpected (es : List ExpectedEntry) : a.Obeys (b.setExpected es) := h.onHatch _

theorem fileInbound (j : Job) (x : Cart) : a.Obeys (b.fileInbound j x) := (h.setCustody _).setExpected _

theorem handInbound : a.Obeys b.handInbound :=
  ((((h.endSession _ _).foldl (fun _ m h => h.fileInbound _ m.cart) _).handover _ _).onSession _).settleSession

theorem hatchReport (r : Report) : a.Obeys (b.hatchReport r) := by
  unfold Station.hatchReport
  split
  · exact h.onlyIf fun h => h.onSession _
  · exact h.ite (fun h => h.handInbound) fun h => h.settleSession
  · exact h.abortSession _

omit h in
/-- The owner acts on what an operation of the channel reports (R37). -/
theorem reported {p : Station × Option Report} (h : a.Obeys p.1) : a.Obeys (Station.reported p) := by
  unfold Station.reported
  split
  · exact h.hatchReport _
  · exact h
  · exact h

theorem sessionExpired : a.Obeys b.sessionExpired := h.onlyIf fun h => (h.onSession _).abortSession _

theorem retry : a.Obeys b.retry := (h.command _).reported

theorem arrivalComes (e : MotionEnd) : a.Obeys (Station.reported (b.arrivalComes e)) :=
  (h.of_motion (b.arrivalComes_motion e)).reported

theorem loadLeaves (e : MotionEnd) : a.Obeys (Station.reported (b.loadLeaves e)) :=
  (h.of_motion (b.loadLeaves_motion e)).reported

theorem stopEvent (s : StallCause) : a.Obeys (Station.reported (b.stopEvent s)) :=
  (h.of_motion (b.stopEvent_motion s)).reported

theorem travelExpired : a.Obeys (Station.reported b.travelExpired) :=
  (h.of_motion b.travelExpired_motion).reported

theorem deadExpired : a.Obeys (Station.reported b.deadExpired) := (h.of_motion b.deadExpired_motion).reported

theorem positionMoved (n : Nat) : a.Obeys (b.positionMoved n) :=
  h.ite (fun h => h.arrivalComes .a) fun h => h.ite (fun h => h.loadLeaves .a) fun h => h

theorem setPosition (n : Nat) : a.Obeys (b.setPosition n) := (h.onHatch _).positionMoved _

theorem encoderChanged (x y : Bool) : a.Obeys (b.encoderChanged x y) := by
  have seen : a.Obeys (b.onHatch fun k => { k with refA := x, refB := y }) := h.onHatch _
  unfold Station.encoderChanged
  dsimp only
  split
  · exact seen.stopEvent .encoder
  · exact seen.setPosition _

theorem flapChanged (o : Bool) : a.Obeys (b.flapChanged o) :=
  h.ite (fun h => h.stopEvent .interlock) fun h => h.onlyIf fun h => h.retry

theorem innerEndClosed : a.Obeys b.innerEndClosed := (h.setPosition 0).arrivalComes .b

theorem sendPressed : a.Obeys b.sendPressed :=
  h.ite (fun h => h.retry) fun h => h.ite (fun h => (h.command .a).reported) fun h => h

theorem donePressed : a.Obeys b.donePressed :=
  h.ite (fun h => h.retry) fun h => h.ite (fun h => ((h.onSession _).command .b).reported) fun h => h

theorem hatchAlert (k : AlertKind) (x : Cart) : a.Obeys (b.hatchAlert k x) := h.hand _ _ _

theorem setCustodyState (x : Cart) (s : CustodyState) : a.Obeys (b.setCustodyState x s) := h.setCustody _

theorem beginSession (s : SessionState) (d : Direction) (j : Job) : a.Obeys (b.beginSession s d j) :=
  h.onSession _

theorem courierCard (n : Cart) : a.Obeys (b.courierCard n) :=
  h.ite (fun h => h) fun h => h.ite (fun h => h) fun h => h.ite (fun h => h) fun h =>
    h.ite (fun h => h.beginSession _ _ _) fun h =>
      h.ite (fun h => ((h.beginSession _ _ _).command .a).reported) fun h => h

theorem loadDrawer (x : Cart) : a.Obeys (b.loadDrawer x) :=
  h.onlyIf fun h => (h.setCustodyState _ _).onSession _

theorem fileScanned (e : ExpectedEntry) : a.Obeys (b.fileScanned e) :=
  h.ite (fun h => (h.setCustody _).setExpected _) fun h => h.hatchAlert _ _

theorem onward (e : CustodyEntry) (d : Addr) : a.Obeys (b.onward e d) := by
  have opened := h.openXfer .inbound e.cart e.job none (some e.cart) d
  unfold Station.onward
  split
  · next o => exact (opened.of_answer o).setCustodyState _ _
  · next o => exact opened.of_answer o

theorem returned (x : Cart) : a.Obeys (b.returned x) := by
  unfold Station.returned
  refine Station.Obeys.setCustodyState ?_ _ _
  split
  · exact h.withdrawSending _
  · exact h

theorem scanCustody (e : CustodyEntry) : a.Obeys (b.scanCustody e) := by
  unfold Station.scanCustody
  split
  · exact h.ite (fun h => h.loadDrawer _) fun h => h
  · split
    · exact h.onward _ _
    · exact h
  · exact h.returned _
  · exact h

theorem innerScan (x : Cart) : a.Obeys (b.innerScan x) := by
  unfold Station.innerScan
  split
  · exact h.arrival _
  · refine h.ite (fun h => h) fun h => ?_
    split
    · exact h.fileScanned _
    · split
      · exact h.scanCustody _
      · exact h.makeClaim _

theorem presentScan (x : Cart) : a.Obeys (b.presentScan x) :=
  h.ite (fun h => (h.onSession _).onlyIf fun h => h.handOutbound) fun h => h.hatchAlert _ _

theorem receiveScan (x : Cart) : a.Obeys (b.receiveScan x) :=
  h.ite (fun h => h) fun h => h.ite (fun h => h.hatchAlert _ _) fun h => h.ite (fun h => h) fun h =>
    h.ite (fun h => h.hatchAlert _ _) fun h => h.onSession _

theorem outerScan (x : Cart) : a.Obeys (b.outerScan x) := by
  unfold Station.outerScan
  split
  · exact h.presentScan x
  · exact h.onlyIf fun h => h.receiveScan x
  · exact h

theorem takeCheckin (src : Addr) (seq : Byte) (j : Job) (x : Cart) (d : Addr) :
    a.Obeys (Station.takeCheckin src seq j x d b) := by
  have answer {y : Station} (o : ReplyOutcome) (h : a.Obeys y) : a.Obeys (y.reply .hatch src kindCheckin seq o) :=
    h.reply _ _ _ _ _ _
  exact h.ite (answer _) fun h => h.ite (answer _) fun h => h.ite (answer _) fun h => h.ite (answer _) fun h =>
    h.ite (fun h => answer _ (h.setCustody _)) fun h => h.ite (answer _) fun h => h.ite (answer _) fun h =>
      answer _ (h.setExpected _)

theorem hatchQuery (src : Addr) (seq : Byte) (x : Cart) : a.Obeys (Station.hatchQuery src seq x b) := by
  unfold Station.hatchQuery
  dsimp only
  split
  · exact h.reply _ _ _ _ _ _
  · split <;> exact h.reply _ _ _ _ _ _

/-! #### The slot table -/

theorem pullInserted (n : Nat) (x : Cart) : a.Obeys (b.pullInserted n x) :=
  h.ite (fun h => h.ite (fun h => h.cancelPulls _) fun h => (h.setPullState _ _).pullsChanged) fun h => h

theorem removal (n : Nat) : a.Obeys (b.removal n) := by
  unfold Station.removal
  dsimp only
  split
  · exact (h.noticeDamage n).ite (fun h => ((h.writeRecord _ _).setPullState _ _).pullsChanged) fun h =>
      h.ite (fun h => (h.writeRecord _ _).auditLifted _ _) fun h => (h.writeRecord _ _).handAlert _ _
  · exact ((h.noticeDamage n).writeRecord _ _).auditLifted _ _
  · exact ((h.noticeDamage n).writeRecord _ _).auditLifted _ _
  · exact h.noticeDamage n

theorem strayInserted (n : Nat) : a.Obeys (b.strayInserted n) := by
  have read := ((h.writeRecord n .stray).handAlert .slotTable (alertBody .strayInsert (some n) none)).readAll
  unfold Station.strayInserted
  dsimp only
  split
  · exact read.handAlert _ _
  · exact read

theorem insertionAt (n : Nat) : a.Obeys (b.insertionAt n) := by
  unfold Station.insertionAt
  split
  · exact (h.writeRecord _ _).pullInserted _ _
  · exact (h.writeRecord _ _).xferReturned _
  · exact (h.writeRecord _ _).xferInserted _ _ _
  · exact (h.writeRecord _ _).xferInserted _ _ _
  · exact h.strayInserted _
  · exact h.strayInserted _
  · exact h
  · exact h
  · exact h

theorem insertion (n : Nat) : a.Obeys (b.insertion n) := ((h.noticeDamage n).insertionAt n).auditInserted n

theorem setDebounced (n : Nat) (r : Bool) : a.Obeys (b.setDebounced n r) := h.modifySlot _ _

theorem settleSlot (n : Nat) (r : Bool) : a.Obeys (b.settleSlot n r) :=
  (h.setDebounced n r).ite (fun h => h.putRecord _ _) fun h => h

theorem readSlot (n : Nat) (r : Bool) : a.Obeys (b.readSlot n r) := by
  unfold Station.readSlot
  refine (h.modifySlot n _).ite (fun h => h) fun h => ?_
  split
  · exact h.settleSlot _ _
  · exact (h.setDebounced _ _).ite (fun h => h.insertion _) fun h => h.removal _

theorem presenceScanned (r : BitVec 256) : a.Obeys (b.presenceScanned r) :=
  h.foldl (fun _ _ h => h.readSlot _ _) _

theorem minuteExpired : a.Obeys b.minuteExpired := h.onlyIf fun h => (h.onTable _).readAll.onTable _

theorem markDischarge : a.Obeys b.markDischarge := h.readAll.onTable _

theorem takeHoldSet (src : Addr) (seq e d x m : Byte) : a.Obeys (Station.takeHoldSet src seq e d x m b) := by
  have answer {y : Station} (o : ReplyOutcome) (h : a.Obeys y) :
      a.Obeys (y.reply .slotTable src kindHoldSet seq o) := h.reply _ _ _ _ _ _
  refine h.ite (answer _) fun h => h.ite (answer _) fun h => h.ite (answer _) fun h => ?_
  split
  · exact answer _ h
  · exact h.ite (answer _) fun h => h.ite (answer _) fun h => answer _ (h.onTable _).cancelHeld

theorem takeInspectClear (src : Addr) (seq : Byte) (n : Option Nat) :
    a.Obeys (Station.takeInspectClear src seq n b) := by
  have answer {y : Station} (o : ReplyOutcome) (d : Option Detail) (h : a.Obeys y) :
      a.Obeys (y.reply .slotTable src kindInspectClear seq o d) := h.reply _ _ _ _ _ _
  refine h.ite (answer _ _) fun h => h.ite (answer _ _) fun h => h.ite (answer _ _) fun h => ?_
  split
  · refine h.ite (answer _ _) fun h => ?_
    dsimp only
    split
    · exact answer _ _ (h.noticeDamage _)
    · exact answer _ _ ((h.noticeDamage _).putRecord _ _)
  · exact answer _ _ (h.readAll.onTable _)

theorem answerRecord (src : Addr) (seq : Byte) (n : Nat) : a.Obeys (b.answerRecord src seq n) :=
  (h.noticeDamage n).reply _ _ _ _ _ _

theorem takeQuerySlot (src : Addr) (seq : Byte) (n : Nat) : a.Obeys (Station.takeQuerySlot src seq n b) :=
  h.ite (fun h => h.reply _ _ _ _ _ _) fun h => h.ite (fun h => h.reply _ _ _ _ _ _) fun h =>
    h.answerRecord _ _ _

theorem bayQuery (src : Addr) (seq : Byte) (x : Cart) : a.Obeys (Station.bayQuery src seq x b) := by
  unfold Station.bayQuery
  dsimp only
  split
  · exact h.readAll.reply _ _ _ _ _ _
  · exact h.readAll.answerRecord _ _ _
  · exact h.readAll.answerRecord _ _ _

theorem takeQueryCartridge (src : Addr) (seq : Byte) (x : Cart) :
    a.Obeys (Station.takeQueryCartridge src seq x b) := by
  unfold Station.takeQueryCartridge
  split
  · exact h.bayQuery _ _ _
  · exact h.hatchQuery _ _ _

theorem takeQuery (src : Addr) (seq : Byte) (q : QuerySel) : a.Obeys (Station.takeQuery src seq q b) := by
  unfold Station.takeQuery
  split
  · exact h.takeQuerySlot _ _ _
  · exact h.takeQueryCartridge _ _ _
  · exact h.takeQueryTransfer _ _ _
  · exact h.takeQuerySlot _ _ _

/-! #### Check-out and the check station -/

/-- R107: an entry joins the pull queue where it holds fewer than 16. -/
theorem queuePull (e : PullEntry) (room : b.pulls.entries.length < 16) : a.Obeys (b.queuePull e) :=
  ((h.setPulls _ fun _ => by simp; omega).reply _ _ _ _ _ _).pullsChanged

theorem checkoutLookup (src : Addr) (seq : Byte) (x : Cart) (j : Job) (d : Addr) :
    a.Obeys (b.checkoutLookup src seq x j d) := by
  have refuse (o : ReplyOutcome) (h : a.Obeys b) : a.Obeys (b.reply .pulls src kindCheckout seq o) :=
    h.reply _ _ _ _ _ _
  unfold Station.checkoutLookup
  dsimp only
  split
  · exact refuse _ h
  · exact h.ite (refuse _) (refuse _)
  · refine h.ite (refuse _) fun h => ?_
    split
    · exact refuse _ h
    · refine h.ite (refuse _) fun h => ?_
      split
      · exact refuse _ h
      · next free => exact h.queuePull _ (Nat.not_le.mp free)

theorem checkoutTests (src : Addr) (seq : Byte) (x : Cart) (j : Job) (d : Addr) :
    a.Obeys (b.checkoutTests src seq x j d) := by
  have refuse (o : ReplyOutcome) (h : a.Obeys b) : a.Obeys (b.reply .pulls src kindCheckout seq o) :=
    h.reply _ _ _ _ _ _
  exact h.ite (refuse _) fun h => h.ite (refuse _) fun h => h.ite (refuse _) fun h => h.ite (refuse _) fun h =>
    h.readAll.checkoutLookup _ _ _ _ _

theorem takeCheckout (src : Addr) (seq : Byte) (all : Bool) (x : Cart) (j : Job) (d : Addr) :
    a.Obeys (Station.takeCheckout src seq all x j d b) :=
  h.ite (fun h => h.ite (fun h => h) fun h => h.readAll.onlyIf fun h => h.checkoutTests _ _ _ _ _) fun h =>
    h.checkoutTests _ _ _ _ _

theorem takeCancel (src : Addr) (seq : Byte) (x : Cart) : a.Obeys (Station.takeCancel src seq x b) := by
  have answer {y : Station} (o : ReplyOutcome) (h : a.Obeys y) : a.Obeys (y.reply .pulls src kindCancel seq o) :=
    h.reply _ _ _ _ _ _
  refine h.ite (answer _) fun h => h.ite (answer _) fun h => h.ite (answer _) fun h => ?_
  split
  · exact answer _ h
  · exact h.ite (answer _) fun h => answer _ (h.cancelPulls _)

theorem departure (e : PullEntry) : a.Obeys (b.departure e) := by
  have lost := (h.noticeDamage e.slot).cancelPulls fun x => decide (x.cart = e.cart)
  have opened := (h.noticeDamage e.slot).openXfer .outbound e.cart e.job (some e.slot) none e.hatch
  unfold Station.departure
  dsimp only
  split
  · split
    · split
      · next o => exact ((opened.of_answer o).putRecord _ _).filterPulls _
      · next o => exact opened.of_answer o
    · exact lost
  · exact lost

theorem wrongCartridge (n : Nat) (x : Cart) : a.Obeys (b.wrongCartridge n x) := h.hand _ _ _

theorem strangeScan (x : Cart) : a.Obeys (b.strangeScan x) := by
  unfold Station.strangeScan
  dsimp only
  split
  · exact h.readAll.makeClaim _
  · exact h.readAll
  · exact h.readAll.wrongCartridge _ _
  · exact h.readAll.wrongCartridge _ _
  · exact h.readAll

theorem checkStation (x : Cart) : a.Obeys (b.checkStation x) := by
  refine h.ite (fun h => h.auditScan _) fun h => ?_
  split
  · exact h.departure _
  · split
    · exact h.arrival _
    · exact h.strangeScan _

/-! #### The dry-air unit -/

theorem evalForcedSafe : a.Obeys b.evalForcedSafe := by
  unfold Station.evalForcedSafe
  split
  · exact h
  · split
    · exact (h.onAir _).command _
    · exact (h.onAir _).command _

theorem followAir : a.Obeys b.followAir := h.onlyIf fun h => h.evalForcedSafe

/-! #### The fire state -/

theorem onTransits (f : Transit → Transit) : a.Obeys (b.onTransits f) := h.setXfers _

theorem abandonRestart : a.Obeys b.abandonRestart := h.onLoader _

theorem followConfirmed : a.Obeys b.followConfirmed :=
  ((h.followAir.pullsChanged.auditAbort.onTransits _).abortSession .fire).abandonRestart

theorem followUnconfirmed : a.Obeys b.followUnconfirmed := h.followAir.pullsChanged.onTransits _

omit h in
/-- A change of fire state keeps the laws where its four outputs do. -/
theorem setFire_of_take {f : FireState} (h : a.Obeys (b.onSupp (·.take f))) : a.Obeys (b.setFire f) := by
  unfold Station.setFire
  exact (h.ite (fun h => h) fun h => h.ite (fun h => h.followConfirmed) fun h => h.followUnconfirmed).handFireReport

theorem setFire {f : FireState} (hf : f ≠ .release) : a.Obeys (b.setFire f) :=
  setFire_of_take (h.onSupp _ (.take _ hf))

/-- The timers and flags of the suppression controller beside the lock and the release output. -/
theorem onSupp_beside (f : Suppression → Suppression) (lock : (f b.supp).lock = b.supp.lock)
    (release : (f b.supp).release = b.supp.release) : a.Obeys (b.onSupp f) :=
  h.onSupp f (.of_same lock release)

omit h in
/-- Timers and flags set, and a fire state other than RELEASE taken. -/
theorem setFire_after {g : Suppression → Suppression} {f : FireState} (h : a.Obeys b)
    (lock : (g b.supp).lock = b.supp.lock) (release : (g b.supp).release = b.supp.release) (hf : f ≠ .release) :
    a.Obeys ((b.onSupp g).setFire f) :=
  (h.onSupp_beside g lock release).setFire hf

theorem enterCountdown : a.Obeys b.enterCountdown := by
  unfold Station.enterCountdown
  exact onlyIf (setFire_after h rfl rfl (by decide)) fun h => setFire_after h rfl rfl (by decide)

theorem confirm : a.Obeys b.confirm := by
  unfold Station.confirm
  exact h.ite (fun h => setFire_after h rfl rfl (by decide)) fun h => h.enterCountdown

theorem takeLatch : a.Obeys b.takeLatch :=
  h.ite (fun h => h) fun h => h.ite (fun h => h.confirm) fun h => h.onlyIf fun h => h.setFire (by decide)

theorem takeManualLatch : a.Obeys b.takeManualLatch :=
  h.ite (fun h => h) fun h => enterCountdown (onSupp_beside h _ rfl rfl)

theorem latched (k : LoopKind) : a.Obeys (b.latched k) := by
  cases k
  · exact h
  · exact h.takeLatch
  · exact h.takeLatch
  · exact h.takeManualLatch

theorem loopSampled (n : Fin 4) (code : BitVec 10) : a.Obeys (b.loopSampled n code) :=
  h.ite (fun h => h) fun h => (h.onDet _).ite (fun h => (h.onDet _).latched _) fun h => h

theorem neighbourTest : a.Obeys b.neighbourTest := h.onlyIf fun h => h.confirm

theorem holdSwitch (x : Bool) : a.Obeys (b.holdSwitch x) := by
  have read : a.Obeys ((b.onPins fun p => { p with holdInput := x }).onSupp fun s =>
      { s with holdClosed := x, holdFilter := none }) 
    := (h.onPins _).onSupp_beside _ rfl rfl
  unfold Station.holdSwitch
  dsimp only
  split
  · exact setFire_after read rfl rfl (by decide)
  · exact read.enterCountdown
  · exact read

theorem evacuationExpired : a.Obeys b.evacuationExpired := h.onlyIf fun h => h.enterCountdown

/-- R65: the countdown's end drives the release with the lock clear alone. -/
theorem countdownExpired : a.Obeys b.countdownExpired := by
  refine h.onlyIf fun h => ?_
  have stopped : a.Obeys (b.onSupp fun s => { s with countdown := none }) := h.onSupp_beside _ rfl rfl
  dsimp only
  split
  · exact stopped.setFire (by decide)
  · next free =>
    have clear : b.supp.lock = false := by simpa using free
    exact setFire_of_take (onSupp (onSupp_beside stopped _ rfl rfl) _ ⟨id, fun _ _ => clear⟩)

/-- R66: the pulse's end sets the lock and puts the output off. -/
theorem pulseExpired : a.Obeys b.pulseExpired := by
  refine h.onlyIf fun h => ?_
  have ended : a.Obeys (b.onSupp fun s => { s with pulse := none, release := false, lock := true }) :=
    h.onSupp _ (.of_off (fun _ => rfl) rfl)
  exact setFire_after ((ended.handFire _).onlyIf fun h => h.markDischarge) rfl rfl (by decide)

theorem soakExpired : a.Obeys b.soakExpired :=
  h.onlyIf fun h => setFire_after h rfl rfl (by decide)

theorem takeRestore (src : Addr) (seq : Byte) : a.Obeys (Station.takeRestore src seq b) := by
  have answer {y : Station} (o : ReplyOutcome) (h : a.Obeys y) :
      a.Obeys (y.reply .suppression src kindRestore seq o) := h.reply _ _ _ _ _ _
  exact h.ite (answer _) fun h => h.ite (answer _) fun h => h.ite (answer _) fun h => h.ite (answer _) fun h =>
    answer _ (setFire_after (h.onDet _) rfl rfl (by decide))

/-! #### The door -/

theorem emptyBayCheck (n : Nat) : a.Obeys (b.emptyBayCheck n) := by
  unfold Station.emptyBayCheck
  dsimp only
  split
  · exact (h.noticeDamage n).onlyIf fun h => h.handAlert _ _
  · exact h.noticeDamage n

theorem bayEmptied : a.Obeys b.bayEmptied :=
  Station.Obeys.foldl (h.onlyIf fun h => h.enterCountdown) (fun _ n h => h.emptyBayCheck n) _

theorem unlockPulse : a.Obeys b.unlockPulse := h.of_same rfl rfl rfl rfl

/-- R78: an attendant leaves the list, or one not on it joins where it holds fewer than 8. -/
theorem badgeRead (id : Cart) : a.Obeys (b.badgeRead id) := by
  unfold Station.badgeRead
  split
  · have left : a.Obeys (b.setOccupancy (b.door.occupancy.erase id)) :=
      h.setOccupancy _ fun ⟨room, distinct⟩ =>
        ⟨(List.length_erase_le ..).trans room, distinct.erase id⟩
    exact left.unlockPulse.onlyIf fun h => h.bayEmptied
  · next absent =>
    have new : id ∉ b.door.occupancy := by simpa using absent
    refine h.ite (fun h => h) fun h => ?_
    split
    · exact h
    · next room =>
      exact (h.setOccupancy _ fun ⟨_, distinct⟩ =>
        ⟨by simp; omega, by simpa [List.nodup_append] using ⟨distinct, fun x hx e => new (e ▸ hx)⟩⟩).unlockPulse

/-- An empty list keeps its law. -/
theorem clearOccupancy : a.Obeys (b.setOccupancy []) := h.setOccupancy _ fun _ => ⟨Nat.zero_le _, .nil⟩

theorem takeOccupancyClear (src : Addr) (seq : Byte) : a.Obeys (Station.takeOccupancyClear src seq b) := by
  have answer {y : Station} (o : ReplyOutcome) (h : a.Obeys y) :
      a.Obeys (y.reply .door src kindOccupancyClear seq o) := h.reply _ _ _ _ _ _
  exact h.ite (answer _) fun h => h.ite (answer _) fun h => h.ite (answer _) fun h => h.ite (answer _) fun h =>
    answer _ h.clearOccupancy.bayEmptied

/-! #### Messages -/

theorem modifyPeer (src : Addr) (f : Peer → Peer) : a.Obeys (b.modifyPeer src f) := h.onPeers _

theorem takeStatus (src : Addr) (x : StatusBody) : a.Obeys (Station.takeStatus src x b) := by
  unfold Station.takeStatus
  split
  · exact h.modifyPeer _ _
  · exact (h.modifyPeer _ _).onlyIf fun h => h.neighbourTest

theorem takeFireReport (src : Addr) (x : FireReportBody) : a.Obeys (Station.takeFireReport src x b) := by
  unfold Station.takeFireReport
  split
  · exact h.modifyPeer _ _
  · exact (h.modifyPeer _ _).onlyIf fun h => h.neighbourTest

theorem takeDischarge (src : Addr) (x : Byte) : a.Obeys (Station.takeDischarge src x b) :=
  (h.modifyPeer _ _).onlyIf fun h => (h.onAir _).evalForcedSafe

/-- A message of another station: its record is refreshed, then its block acts (R168). -/
theorem refreshed (src : Addr) {f : Station → Station} (hf : ∀ {s : Station}, a.Obeys s → a.Obeys (f s)) :
    a.Obeys (Station.refreshed src f b) := hf (h.modifyPeer src _)

/-- R177: a clash empties the queue. -/
theorem enterClash : a.Obeys b.enterClash :=
  h.ite (fun h => h) fun h => ((h.onLoader _).onLine _ fun _ => Nat.zero_le _).pullsChanged

theorem fromPeer (src : Addr) {f : Station → Station} (hf : a.Obeys b → a.Obeys (f b)) :
    a.Obeys (Station.fromPeer src f b) :=
  h.onlyIf fun h => h.ite (fun h => h.enterClash) fun h => h.onlyIf hf

theorem fromConsole (src : Addr) {f : Station → Station} (hf : a.Obeys b → a.Obeys (f b)) :
    a.Obeys (Station.fromConsole src f b) :=
  h.onlyIf fun h => h.ite (fun h => h.enterClash) fun h => h.onlyIf hf

theorem takeRestart (src : Addr) (seq : Byte) : a.Obeys (Station.takeRestart src seq b) :=
  h.ite (fun h => h) fun h => h.ite (fun h => h.reply _ _ _ _ _ _) fun h =>
    h.ite (fun h => h.reply _ _ _ _ _ _) fun h => (h.onLoader _).reply _ _ _ _ _ _

theorem deliver (m : RxMsg) : a.Obeys (b.deliver m) := by
  unfold Station.deliver
  split
  · exact h.takeStatus _ _
  · exact h.takeFireReport _ _
  · exact h.takeDischarge _ _
  · exact h.refreshed _ id
  · exact h.refreshed _ fun h => h.takeOffer _ _ _ _ _
  · exact h.refreshed _ fun h => h.takeAccept _ _ _
  · exact h.refreshed _ fun h => h.takeRefuse _ _ _
  · exact h.refreshed _ fun h => h.takeArrive _ _
  · exact h.refreshed _ fun h => h.takeClaim _ _
  · exact h.refreshed _ fun h => h.takeClose _ _ _ _
  · exact h.refreshed _ fun h => h.takeWithdraw _ _
  · exact h.refreshed _ id
  · exact h.refreshed _ id
  · exact h.takeCheckout _ _ _ _ _ _
  · exact h.takeCheckin _ _ _ _ _
  · exact h.takeCancel _ _ _
  · exact h.takeHoldSet _ _ _ _ _ _
  · exact h.takeInspectClear _ _ _
  · exact h.takeAudit _ _ _ _
  · exact h.takeRestore _ _
  · exact h.takeOccupancyClear _ _
  · exact h.takeQuery _ _ _
  · exact h.takeRestart _ _

theorem hear (m : RxMsg) : a.Obeys (b.hear m) := h.onLine_beside _ rfl

theorem receive (bs : List Byte) : a.Obeys (b.receive bs) := by
  refine h.ite (fun h => h) fun h => h.ite (fun h => h.onLine_beside _ rfl) fun h => ?_
  split
  · exact h
  · exact h.ite (fun h => h.enterClash) fun h => h.ite (fun h => h) fun h =>
      (h.hear _).ite (fun h => h) fun h => h.deliver _

/-! #### Access to the line -/

theorem sendStatus : a.Obeys b.sendStatus :=
  ((h.onlyIf fun h => h.readAll).onLine _ (Line.offerStatus_bounded _)).select

theorem loadBeacon : a.Obeys b.loadBeacon := h.onLine_beside _ rfl

theorem beaconExpired : a.Obeys b.beaconExpired := h.onlyIf fun h => h.loadBeacon.sendStatus

theorem lineFaultExpired : a.Obeys b.lineFaultExpired := h.onlyIf fun h => (h.onLine_beside _ rfl).select

theorem lineBecomesIdle : a.Obeys b.lineBecomesIdle := (h.onLine_beside _ rfl).select

/-! #### Starts -/

/-- A start of the reset line's kind keeps the lock, sets it where it cuts a pulse short, and empties the queue
(R75, R184, R189). -/
theorem restartNow : a.Obeys b.restartNow where
  supp := h.supp.trans (.of_off (fun lock => by
    change (b.supp.lock || b.supp.release) = true
    rw [lock, Bool.true_or]) rfl)
  queue _ := Nat.zero_le _
  occupancy := h.occupancy
  pulls := h.pulls

/-- Every output off, the lock set where that ends a pulse (R75, R189). -/
theorem outputsOff : a.Obeys b.outputsOff where
  supp := h.supp.trans (.of_off (fun lock => by
    change (b.supp.lock || b.supp.release) = true
    rw [lock, Bool.true_or]) rfl)
  queue := h.queue
  occupancy := h.occupancy
  pulls := h.pulls

theorem transmitted : a.Obeys b.transmitted := by
  unfold Station.transmitted
  split
  · exact h.ite (fun h => h.restartNow) fun h =>
      (h.onLine _ fun x => (Line.remove_length_le _ _).trans x).offerPlaces
  · exact h
  · exact h

theorem fault (n : Nat) : a.Obeys (b.fault n) := h.onLoader _

theorem imageRead (straps : BitVec 5) (r : ImageRead) : a.Obeys (b.imageRead straps r) := by
  refine h.ite (fun h => h.fault _) fun h => h.ite (fun h => h.fault _) fun h => ?_
  split
  · exact h.fault _
  · exact h.ite (fun h => h.fault _) fun h => (h.onLoader _).onPeers _

theorem emptyRetained : a.Obeys b.emptyRetained :=
  Station.Obeys.onRetention
    (((((((h.setPulls [] fun _ => Nat.zero_le _).setXfers []).onXfer _).setCustody []).onHatch
      _).clearOccupancy).onTable _) _

theorem markUnplanned (n : Nat) : a.Obeys (b.markUnplanned n) := by
  unfold Station.markUnplanned
  split
  · exact h.ite (fun h => h) fun h => h.setUnplanned _
  · exact h

theorem startBay : a.Obeys b.startBay :=
  Station.Obeys.foldl (((h.onTable _).readAll).onTable _).cancelHeld (fun _ n h => h.markUnplanned n) _

theorem startLists : a.Obeys b.startLists := by
  have lists : a.Obeys ((b.onTable fun t => { t with hold := b.cfg.hold, mode := b.cfg.holdMode }).setPulls
      (relit true b.pulls.entries)) :=
    (h.onTable _).setPulls _ fun x => (relit_length _ _).trans_le x
  exact lists.setCustody _

theorem settleRetention : a.Obeys b.settleRetention := by
  unfold Station.settleRetention
  exact ((h.ite (fun h => h.emptyRetained) fun h => h).startLists).onlyIf fun h => h.startBay

theorem listenLamp (e : XferEntry) : a.Obeys (b.listenLamp e) := by
  unfold Station.listenLamp
  split
  · exact h.ite (fun h => h.askLamp _ _) fun h => h.ite (fun h => h.askLamp _ _) fun h => h
  · exact h
  · exact h

theorem listenXfers : a.Obeys b.listenXfers :=
  (h.setXfers _).foldl (fun _ e h => h.listenLamp e) _

theorem listenMotion : a.Obeys b.listenMotion := ((h.onMotion _).command _).reported

theorem listenBay : a.Obeys b.listenBay := ((h.onMoist _).onAir _).onTable _

theorem enterListen : a.Obeys b.enterListen :=
  (onlyIf (onSupp_beside ((h.onLoader _).onDet _) _ rfl rfl) fun h => h.listenBay).listenXfers.listenMotion

theorem selftested (ok : Bool) : a.Obeys (b.selftested ok) :=
  h.ite (fun h => h.settleRetention.enterListen) fun h => h.fault 4

theorem rejoinXfer (e : XferEntry) : a.Obeys (b.rejoinXfer e) := by
  unfold Station.rejoinXfer
  split
  · exact (h.modifyXfer _ _).resend _
  · exact (h.modifyXfer _ _).resend _
  · exact h

theorem enterJoined : a.Obeys b.enterJoined :=
  ((h.onLoader _).loadBeacon.sendStatus.pullsChanged.foldl (fun _ e h => h.rejoinXfer e) _).offerPlaces

end Station.Obeys

end Sys2Proof
end

section
/-! SUPPORT. Every command by the laws of `Station.Obeys`: the bounds and the release output (O58) and the release
lock (O19). -/

namespace Sys2Proof

/-! ### Every command -/

/-- Every command but a power-up answers a next state that obeys the laws and keeps the lock. -/
theorem exec_obeys (c : Instr) (s : Machine.State) (hc : ∀ decay, c ≠ .powerUp decay) :
    ∃ st : Station, Machine.exec c s = .next (s.put st) ∧ s.station.Obeys st := by
  have h := Station.Obeys.refl s.station
  cases c with
  | powerUp decay => exact absurd rfl (hc decay)
  | resetLineAssert => exact ⟨_, rfl, h.outputsOff.onLoader _⟩
  | resetLineRelease => exact ⟨_, rfl, (h.onLoader _).onlyIf fun h => h.restartNow⟩
  | powerLoss => exact ⟨_, rfl, h.outputsOff.onLoader _⟩
  | imageReadComplete straps read => exact ⟨_, rfl, h.onlyIf fun h => h.imageRead straps read⟩
  | selftestComplete ok => exact ⟨_, rfl, h.onlyIf fun h => h.selftested ok⟩
  | listenEnd => exact ⟨_, rfl, h.onlyIf fun h => h.enterJoined⟩
  | restart src seq => exact ⟨_, rfl, h.fromConsole src fun h => h.takeRestart src seq⟩
  | restartTimerExpiry => exact ⟨_, rfl, h.onlyIf fun h => h.restartNow⟩
  | restartStart => exact ⟨_, rfl, h.onlyIf fun h => h.restartNow⟩
  | measurementSlot => exact ⟨_, rfl, h.onlyIf fun h => h.onMoist _⟩
  | captureComplete event =>
    cases event with
    | level count => exact ⟨_, rfl, h.onPins _⟩
    | complete count => exact ⟨_, rfl, h.onlyIf fun h => h.of_same rfl rfl rfl rfl⟩
  | excursionDelayExpiry => exact ⟨_, rfl, h.onlyIf fun h => h.onMoist _⟩
  | adcScan => exact ⟨_, rfl, h.onlyIf fun h => h.onDet _⟩
  | loopSample n event =>
    cases event with
    | level code => exact ⟨_, rfl, h.onPins _⟩
    | sample code => exact ⟨_, rfl, h.onlyIf fun h => (h.onDet _).loopSampled n code⟩
  | temperatureCode event =>
    cases event with
    | level code => exact ⟨_, rfl, h.onPins _⟩
    | sample code => exact ⟨_, rfl, h.onlyIf fun h => (h.onDet _).onlyIf fun h => h.onMoist _⟩
  | batteryCode event =>
    cases event with
    | level code => exact ⟨_, rfl, h.onPins _⟩
    | sample code => exact ⟨_, rfl, h.onlyIf fun h => h.onDet _⟩
  | valvePeriodExpiry => exact ⟨_, rfl, h.onlyIf fun h => h.onAir _⟩
  | onTimeExpiry => exact ⟨_, rfl, h.onlyIf fun h => h.onAir _⟩
  | neighbourSealExpiry => exact ⟨_, rfl, h.onlyIf fun h => h.onlyIf fun h => (h.onAir _).evalForcedSafe⟩
  | deadTimeExpiry => exact ⟨_, rfl, h.onlyIf fun h => h.deadExpired⟩
  | travelExpiry => exact ⟨_, rfl, h.onlyIf fun h => h.travelExpired⟩
  | endSwitchClose sw =>
    refine ⟨_, rfl, (h.onPins _).onlyIf fun h => ?_⟩
    split
    · exact h.arrivalComes .a
    · exact h.arrivalComes .b
    · exact h.innerEndClosed
    · exact h
  | endSwitchOpen sw =>
    refine ⟨_, rfl, (h.onPins _).onlyIf fun h => ?_⟩
    split
    · exact h.loadLeaves _
    · exact h
  | holdSwitchChange event =>
    cases event with
    | level closed => exact ⟨_, rfl, (h.onPins _).onlyIf fun h => h.onSupp _ (.of_same rfl rfl)⟩
    | filtered closed => exact ⟨_, rfl, h.onlyIf fun h => h.holdSwitch closed⟩
  | evacuationExpiry => exact ⟨_, rfl, h.onlyIf fun h => h.evacuationExpired⟩
  | countdownExpiry => exact ⟨_, rfl, h.onlyIf fun h => h.countdownExpired⟩
  | releasePulseExpiry => exact ⟨_, rfl, h.onlyIf fun h => h.pulseExpired⟩
  | soakExpiry => exact ⟨_, rfl, h.onlyIf fun h => h.soakExpired⟩
  | restore src seq => exact ⟨_, rfl, h.fromConsole src fun h => h.takeRestore src seq⟩
  | attendantRead cls number => exact ⟨_, rfl, h.onlyIf fun h => h.badgeRead number⟩
  | doorUnlockExpiry =>
    refine ⟨_, rfl, h.onlyIf fun h => h.of_same rfl rfl ?_ rfl⟩
    unfold Station.onDoor Door.unlockExpired
    dsimp only
    split <;> rfl
  | occupancyClear src seq => exact ⟨_, rfl, h.fromConsole src fun h => h.takeOccupancyClear src seq⟩
  | presenceScan event =>
    cases event with
    | level readings => exact ⟨_, rfl, h.onPins _⟩
    | scan readings => exact ⟨_, rfl, h.onlyIf fun h => ((h.onPins _).onTable _).presenceScanned readings⟩
  | minuteTimerExpiry => exact ⟨_, rfl, h.onlyIf fun h => h.minuteExpired⟩
  | keySwitchChange event =>
    cases event with
    | level on => exact ⟨_, rfl, (h.onPins _).onlyIf fun h => h.onTable _⟩
    | filtered on => exact ⟨_, rfl, h.onlyIf fun h => (h.onPins _).onTable _⟩
  | holdSet src seq e d c m => exact ⟨_, rfl, h.fromConsole src fun h => h.takeHoldSet src seq e d c m⟩
  | inspectClear src seq n => exact ⟨_, rfl, h.fromConsole src fun h => h.takeInspectClear src seq n⟩
  | querySlot src seq n => exact ⟨_, rfl, h.fromConsole src fun h => h.takeQuerySlot src seq n⟩
  | queryCartridge src seq c => exact ⟨_, rfl, h.fromConsole src fun h => h.takeQueryCartridge src seq c⟩
  | queryTransfer src seq t => exact ⟨_, rfl, h.fromConsole src fun h => h.takeQueryTransfer src seq t⟩
  | checkout src seq all c j d => exact ⟨_, rfl, h.fromConsole src fun h => h.takeCheckout src seq all c j d⟩
  | cancel src seq c => exact ⟨_, rfl, h.fromConsole src fun h => h.takeCancel src seq c⟩
  | checkStationScan cls n => exact ⟨_, rfl, h.onlyIf fun h => h.checkStation n⟩
  | audit src seq f l => exact ⟨_, rfl, h.fromConsole src fun h => h.takeAudit src seq f l⟩
  | auditStepExpiry => exact ⟨_, rfl, h.onlyIf fun h => h.auditAbort⟩
  | offer src t c j d =>
    exact ⟨_, rfl, h.fromPeer src fun h => h.refreshed src fun h => h.takeOffer src t c j d⟩
  | accept src t n => exact ⟨_, rfl, h.fromPeer src fun h => h.refreshed src fun h => h.takeAccept src t n⟩
  | refuse src t r => exact ⟨_, rfl, h.fromPeer src fun h => h.refreshed src fun h => h.takeRefuse src t r⟩
  | arrive src t => exact ⟨_, rfl, h.fromPeer src fun h => h.refreshed src fun h => h.takeArrive src t⟩
  | close src t c j =>
    exact ⟨_, rfl, h.fromPeer src fun h => h.refreshed src fun h => h.takeClose src t c j⟩
  | withdraw src t => exact ⟨_, rfl, h.fromPeer src fun h => h.refreshed src fun h => h.takeWithdraw src t⟩
  | claim src c => exact ⟨_, rfl, h.fromPeer src fun h => h.refreshed src fun h => h.takeClaim src c⟩
  | replyTimerExpiry t => exact ⟨_, rfl, h.onlyIf fun h => h.replyExpired t⟩
  | transitExpiry t => exact ⟨_, rfl, h.onlyIf fun h => h.transitExpired t⟩
  | claimTimerExpiry c => exact ⟨_, rfl, h.onlyIf fun h => h.claimExpired c⟩
  | checkin src seq j c d => exact ⟨_, rfl, h.fromConsole src fun h => h.takeCheckin src seq j c d⟩
  | innerRead cls n => exact ⟨_, rfl, h.onlyIf fun h => h.innerScan n⟩
  | courierRead n => exact ⟨_, rfl, h.onlyIf fun h => h.courierCard n⟩
  | outerCartridgeRead c => exact ⟨_, rfl, h.onlyIf fun h => h.outerScan c⟩
  | sendPress event =>
    cases event with
    | level down => exact ⟨_, rfl, (h.onPins _).onlyIf fun h => h.onHatch _⟩
    | press => exact ⟨_, rfl, h.onlyIf fun h => ((h.onPins _).onHatch _).sendPressed⟩
  | donePress event =>
    cases event with
    | level down => exact ⟨_, rfl, (h.onPins _).onlyIf fun h => h.onHatch _⟩
    | press => exact ⟨_, rfl, h.onlyIf fun h => ((h.onPins _).onHatch _).donePressed⟩
  | sessionTimerExpiry => exact ⟨_, rfl, h.onlyIf fun h => h.sessionExpired⟩
  | encoderTransition x y => exact ⟨_, rfl, (h.onPins _).onlyIf fun h => h.encoderChanged x y⟩
  | flapChange f o => exact ⟨_, rfl, (h.onPins _).onlyIf fun h => h.flapChanged o⟩
  | status src b => exact ⟨_, rfl, h.fromPeer src fun h => h.takeStatus src b⟩
  | fireReport src b => exact ⟨_, rfl, h.fromPeer src fun h => h.takeFireReport src b⟩
  | discharge src x => exact ⟨_, rfl, h.fromPeer src fun h => h.takeDischarge src x⟩
  | custodyAlert src b => exact ⟨_, rfl, h.fromPeer src fun h => h.refreshed src id⟩
  | handover src b => exact ⟨_, rfl, h.fromPeer src fun h => h.refreshed src id⟩
  | peerSilent a => exact ⟨_, rfl, h.onlyIf fun h => h.modifyPeer _ _⟩
  | peerLost a => exact ⟨_, rfl, h.onlyIf fun h => h.modifyPeer _ _⟩
  | frameReceive bs => exact ⟨_, rfl, h.onlyIf fun h => h.receive bs⟩
  | beaconExpiry => exact ⟨_, rfl, h.onlyIf fun h => h.beaconExpired⟩
  | lineFaultExpiry => exact ⟨_, rfl, h.onlyIf fun h => h.lineFaultExpired⟩
  | lineIdle => exact ⟨_, rfl, h.onlyIf fun h => h.lineBecomesIdle⟩
  | accessDelayExpiry => exact ⟨_, rfl, h.onlyIf fun h => h.onLine_beside _ (Line.startSending_queue ..)⟩
  | characterDuringWait => exact ⟨_, rfl, h.onlyIf fun h => h.onLine_beside _ rfl⟩
  | transmitSuccess => exact ⟨_, rfl, h.onlyIf fun h => h.transmitted⟩
  | readbackFailure => exact ⟨_, rfl, h.onlyIf fun h => h.onLine_beside _ (Line.readbackFails_queue _)⟩

/-! ### A power-up -/

/-- The supply's return leaves retained memory as it has decayed, and a start clears the release lock (R75, R186). -/
theorem Station.powerUp_lock (st : Station) (decay : List Decay) : (st.powerUp decay).supp.lock = false := rfl

/-- What decay alone touches is no part of the laws. -/
theorem Station.Obeys.decay {a b : Station} (h : a.Obeys b) (d : Decay) : a.Obeys (b.decay d) := by
  unfold Station.decay
  split
  · exact h.onRetention _
  · exact h.of_same rfl rfl rfl rfl
  · exact h.onXfer _
  · exact h.onHatch _
  · exact h.onHatch _
  · exact h.of_same rfl rfl rfl rfl
  · exact h.modifySlot _ _

/-- A power-up keeps the bounds, with the queue empty and the release output off. -/
theorem Station.powerUp_laws (st : Station) (decay : List Decay) :
    (st.powerUp decay).releaseLawful ∧ (st.powerUp decay).queueBounded ∧
    (st.occupancyLawful → (st.powerUp decay).occupancyLawful) ∧
    (st.pullsBounded → (st.powerUp decay).pullsBounded) := by
  have decayed := (Station.Obeys.refl st).foldl (fun _ d h => h.decay d) decay
  exact ⟨fun h => absurd h Bool.false_ne_true, Nat.zero_le _, decayed.occupancy, decayed.pulls⟩

/-! ### The statements -/

/-- The passing of time moves timers and ages alone. -/
theorem Station.tick_obeys (st : Station) : st.Obeys st.tick :=
  ⟨.of_same rfl rfl, id, id, id⟩

/-- What a step can do to the laws: each command keeps them, and so does the passing of time. -/
theorem step_laws {s t : Machine.State} (h : Machine.step s = .next t) :
    s.station.Obeys t.station ∨ ∃ decay, t.station = s.station.powerUp decay := by
  unfold Machine.step at h
  split at h
  · next c rest _ =>
    by_cases up : ∃ decay, c = .powerUp decay
    · obtain ⟨decay, rfl⟩ := up
      cases h
      exact .inr ⟨decay, rfl⟩
    · obtain ⟨st, next, obeys⟩ := exec_obeys c { s with pending := rest } fun d e => up ⟨d, e⟩
      rw [next] at h
      cases h
      exact .inl obeys
  · cases h
    refine .inl ?_
    unfold Machine.State.idle
    split
    · split
      · exact .refl _
      · exact s.station.tick_obeys
    · exact .refl _

/-- Settles O58: `step_laws`, with a power-up by itself. -/
theorem releaseAndBoundsKept : Obligations.ReleaseAndBoundsKept := by
  intro s t h
  rcases step_laws h with obeys | ⟨decay, up⟩
  · exact ⟨obeys.supp.release, obeys.queue, obeys.occupancy, obeys.pulls⟩
  · obtain ⟨release, queue, occupancy, pulls⟩ := s.station.powerUp_laws decay
    rw [up]
    exact ⟨fun _ => release, fun _ => queue, occupancy, pulls⟩

/-- Settles O19: `exec_obeys` for every command but a power-up, which clears the lock. -/
theorem releaseLockKept : Obligations.ReleaseLockKept := by
  refine ⟨fun c s t hc h lock => ?_, fun s decay => ⟨_, rfl, s.station.powerUp_lock decay⟩, fun _ => rfl⟩
  obtain ⟨st, next, obeys⟩ := exec_obeys c s hc
  rw [next] at h
  cases h
  exact obeys.supp.lock lock

end Sys2Proof
end

section
/-! SUPPORT. The confirmation condition (R56) and a confirmation (R60, R63). -/

namespace Sys2Proof

section
variable {st : Station}

/-! ### The condition (R56) -/

/-- The fire fields of a record are those of an ALIVE or SILENT one (R171). -/
theorem Peer.fireFields_eq_some {p : Peer} {x : FireState × Ticks} :
    p.fireFields = some x ↔ ∃ d, (p = .alive d ∨ p = .silent d) ∧ d.fire = some x := by
  cases p <;> simp [Peer.fireFields]

/-- The record of an address beyond the table is that of a station never heard. -/
theorem Station.record_alive_or_silent {records : List Peer} {n : Nat} {d : PeerData} :
    (records.getD n .unheard = .alive d ∨ records.getD n .unheard = .silent d) ↔
      (records[n]? = some (.alive d) ∨ records[n]? = some (.silent d)) := by
  rw [List.getD_eq_getElem?_getD]
  cases records[n]? <;> simp

/-- A neighbour counts by a fire state other than NORMAL, no older than CONF_WIN. -/
theorem Station.neighbourInFire_iff (a : Addr) :
    st.neighbourInFire a = true ↔ ∃ (d : PeerData) (f : FireState) (age : Ticks),
      (st.peers.records[a.toNat]? = some (.alive d) ∨ st.peers.records[a.toNat]? = some (.silent d)) ∧
      d.fire = some (f, age) ∧ f ≠ .normal ∧ age ≤ 125000 * st.cfg.confWin := by
  simp only [← Station.record_alive_or_silent]
  unfold Station.neighbourInFire
  constructor
  · intro counts
    split at counts
    · next f age fields =>
      obtain ⟨d, known, fire⟩ := Peer.fireFields_eq_some.mp fields
      obtain ⟨other, young⟩ := Bool.and_eq_true_iff.mp counts
      exact ⟨d, f, age, known, fire, of_decide_eq_true other, of_decide_eq_true young⟩
    · cases counts
  · rintro ⟨d, f, age, known, fire, other, young⟩
    rw [Peer.fireFields_eq_some.mpr ⟨d, known, fire⟩]
    exact Bool.and_eq_true_iff.mpr ⟨decide_eq_true other, decide_eq_true young⟩

theorem Station.anyLatched_iff :
    st.anyLatched = true ↔ ∃ n : Fin 4, (st.cfg.loop n).kind ≠ .unused ∧ (st.det.loop n).latched = true :=
  st.anyUsedLoop_iff _

/-! ### A confirmation (R60, R63) -/

/-- With attendants in the bay: EVACUATE. -/
theorem Station.confirm_evacuates (unconfirmed : st.confirmed = false) (attended : 0 < st.occupancyCount) :
    st.confirm = ({ st with
      supp := { st.supp.inState .evacuate true false false false with
        evacuation := some (ticksOfSec st.cfg.evacLimit) } } : Station).followConfirmed.handFireReport := by
  unfold Station.confirm
  rw [if_pos attended]
  exact Station.setFire_enters unconfirmed rfl

/-- With none: COUNTDOWN, and HELD at once where the hold switch reads CLOSED. -/
theorem Station.confirm_counts (unconfirmed : st.confirmed = false) (empty : st.occupancyCount = 0) :
    st.confirm = st.counted.onlyIf st.supp.holdClosed Station.heldBack := by
  unfold Station.confirm
  rw [if_neg (by omega)]
  exact Station.enterCountdown_eq unconfirmed

end

/-- Settles O14: the condition by its two halves, then the confirmation by the occupancy and the hold switch. -/
theorem confirmationTested : Obligations.ConfirmationTested := by
  refine ⟨fun st => ?_, fun st unconfirmed => ⟨?_, fun empty opened => ?_, fun empty closed => ?_, fun hatch => ?_⟩⟩
  · simp only [Station.confirmationHolds, Bool.or_eq_true, Bool.and_eq_true, List.any_eq_true,
      Station.anyLatched_iff, Station.neighbourInFire_iff]
  · exact Station.confirm_evacuates unconfirmed
  · exact (Station.confirm_counts unconfirmed empty).trans (Station.onlyIf_of_false _ opened)
  · exact (Station.confirm_counts unconfirmed empty).trans (Station.onlyIf_of_true _ closed)
  · simp [Station.occupancyCount, hatch]

end Sys2Proof
end

section
/-! SUPPORT. The suppression sequence (R62 to R68): its timers' expiries and the hold switch. -/

namespace Sys2Proof

section
variable {st : Station}

/-! ### COUNTDOWN and HELD entered from a confirmed state (R62 to R64) -/

/-- COUNTDOWN entered in a confirmed state: the blocks have acted already (R71). -/
def Station.countedWithin (st : Station) : Station :=
  ({ st with
    supp := { st.supp.inState .countdown true true false false with
      evacuation := none, countdown := some (ticksOfSec st.cfg.predischarge) } } : Station).handFireReport

theorem Station.enterCountdown_within (confirmed : st.confirmed = true) :
    st.enterCountdown = st.countedWithin.onlyIf st.supp.holdClosed Station.heldBack := by
  have counts : (st.onSupp fun x =>
      { x with evacuation := none, countdown := some (ticksOfSec st.cfg.predischarge) }).setFire .countdown
        = st.countedWithin := Station.setFire_within .countdown confirmed
  have supp : st.countedWithin.supp = { st.supp.inState .countdown true true false false with
      evacuation := none, countdown := some (ticksOfSec st.cfg.predischarge) } := by
    rw [← counts, Station.setFire_supp]
    rfl
  have held : (st.countedWithin.onSupp fun x => { x with countdown := none }).setFire .held
      = st.countedWithin.heldBack :=
    Station.setFire_within .held (by simp [Station.confirmed, supp, Suppression.inState, FireState.confirmed])
  have holds : st.countedWithin.supp.holdClosed = st.supp.holdClosed := by rw [supp]; rfl
  unfold Station.enterCountdown
  simp only [counts, holds, Station.onlyIf, held]

/-- A change from one confirmed state to another: no block acts (R71). -/
theorem Station.setFire_onward {f g : FireState} (h : st.supp.fire = g) (same : g.confirmed = f.confirmed) :
    st.setFire f = (st.onSupp (·.take f)).handFireReport :=
  Station.setFire_within f ((congrArg FireState.confirmed h).trans same)

/-! ### The hold switch (R64) -/

/-- The filtered reading taken: the input has held the level, and the filter rests. -/
def Station.holdRead (st : Station) (closed : Bool) : Station :=
  { st with
    pins := { st.pins with holdInput := closed }
    supp := { st.supp with holdClosed := closed, holdFilter := none } }

theorem Station.holdSwitch_holds {closed : Bool} (h : st.supp.fire = .countdown) (shut : closed = true) :
    st.holdSwitch closed = (st.holdRead closed).heldBack := by
  subst shut
  unfold Station.holdSwitch
  simp only [Station.onSupp_supp, Station.onPins_supp, h]
  exact Station.setFire_onward (g := .countdown) h rfl

theorem Station.holdSwitch_frees {closed : Bool} (h : st.supp.fire = .held) (opened : closed = false) :
    st.holdSwitch closed = (st.holdRead closed).countedWithin := by
  subst opened
  have confirmed : (st.holdRead false).confirmed = true := congrArg FireState.confirmed h
  unfold Station.holdSwitch
  simp only [Station.onSupp_supp, Station.onPins_supp, h]
  exact Station.enterCountdown_within confirmed

/-- In any other state the reading alone changes. -/
theorem Station.holdSwitch_reads {closed : Bool} (opens : st.supp.fire = .countdown → closed = false)
    (closes : st.supp.fire = .held → closed = true) : st.holdSwitch closed = st.holdRead closed := by
  unfold Station.holdSwitch
  dsimp only
  split
  · next fire => exact absurd (opens fire) (by decide)
  · next fire => exact absurd (closes fire) (by decide)
  · rfl

/-- The filter of an input that takes a level (R64). -/
theorem filterSwitch_same {t : Timer} {reading level : Bool} (h : level = reading) :
    filterSwitch t reading level = none := if_pos h

theorem filterSwitch_other {t : Timer} {reading level : Bool} (h : level ≠ reading) :
    filterSwitch t reading level = some (t.getD 12500) := if_neg h

/-! ### The countdown, the pulse and the soak (R65, R66, R68) -/

section
variable (counting : st.supp.countdown.isSome) (fire : st.supp.fire = .countdown)
include counting fire

theorem Station.countdownExpired_free (free : st.supp.lock = false) :
    st.countdownExpired = ({ st with
      supp := { ({ st.supp with countdown := none } : Suppression).inState .release true true true false with
        pulse := some (ticksOfSec st.cfg.releasePulse) } } : Station).handFireReport := by
  unfold Station.countdownExpired
  rw [Station.onlyIf_of_true _ counting]
  dsimp only
  rw [if_neg (by simp [free])]
  exact Station.setFire_onward (g := .countdown) fire rfl

theorem Station.countdownExpired_locked (locked : st.supp.lock = true) :
    st.countdownExpired = ({ st with
      supp := ({ st.supp with countdown := none } : Suppression).inState .blocked true false false false
      } : Station).handFireReport := by
  unfold Station.countdownExpired
  rw [Station.onlyIf_of_true _ counting]
  dsimp only
  rw [if_pos (by simp [locked])]
  exact Station.setFire_onward (g := .countdown) fire rfl

end

/-- R66, steps 1 and 2: the output off and the lock set, the DISCHARGE handed on. -/
def Station.dischargeTold (st : Station) : Station :=
  ({ st with supp := { st.supp with pulse := none, release := false, lock := true } } : Station).handFire
    (.discharge (BitVec.ofNat 8 st.cfg.soakTime))

/-- R66, step 3: in a BAY the discharge marking. -/
def Station.pulseEnded (st : Station) : Station :=
  if st.cfg.role = .bay then st.dischargeTold.markDischarge else st.dischargeTold

/-- The DISCHARGE and the marking leave the suppression controller and the record alone. -/
theorem Station.pulseEnded_outer (st : Station) :
    st.pulseEnded.outer
      = { st.outer with supp := { st.supp with pulse := none, release := false, lock := true } } := by
  unfold Station.pulseEnded
  split
  · exact (Station.markDischarge_outer _).trans (Station.handFire_outer _ _)
  · exact Station.handFire_outer _ _

theorem Station.pulseExpired_soaks (running : st.supp.pulse.isSome) (fire : st.supp.fire = .release) :
    st.pulseExpired = ({ st.pulseEnded with
      supp := { ({ st.supp with pulse := none, release := false, lock := true } : Suppression).inState .soak
          true true false false with
        soak := some (ticksOfMin st.cfg.soakTime) } } : Station).handFireReport := by
  have supp : st.pulseEnded.supp = { st.supp with pulse := none, release := false, lock := true } :=
    congrArg Outer.supp st.pulseEnded_outer
  have cfg : st.pulseEnded.cfg = st.cfg := congrArg (fun o => o.loader.cfg) st.pulseEnded_outer
  have soaks : st.pulseExpired = (st.pulseEnded.onSupp fun x =>
      { x with soak := some (ticksOfMin st.pulseEnded.cfg.soakTime) }).setFire .soak := by
    have role : st.dischargeTold.cfg = st.cfg :=
      congrArg (fun o => o.loader.cfg) (Station.handFire_outer _ _)
    have marked : st.dischargeTold.onlyIf (decide (st.dischargeTold.cfg.role = .bay)) Station.markDischarge
        = st.pulseEnded := by
      rw [role]
      simp only [Station.onlyIf, decide_eq_true_eq, Station.pulseEnded]
    rw [← marked]
    exact Station.onlyIf_of_true _ running
  rw [soaks, Station.setFire_onward (f := .soak) (g := .release) (by rw [Station.onSupp_supp, supp]; exact fire) rfl]
  simp only [Station.onSupp, supp, cfg]
  rfl

theorem Station.soakExpired_vents (soaking : st.supp.soak.isSome) (fire : st.supp.fire = .soak) :
    st.soakExpired = ({ st with
      supp := { st.supp.inState .vent false false false true with soak := none } } : Station).handFireReport := by
  unfold Station.soakExpired
  rw [Station.onlyIf_of_true _ soaking]
  exact Station.setFire_onward (g := .soak) fire rfl

end

/-- Settles O17: COUNTDOWN entered from EVACUATE and HELD by `enterCountdown_within`, the filter by
`filterSwitch`, and each expiry by its lemma above. -/
theorem sequenceTimersAndHold : Obligations.SequenceTimersAndHold := by
  refine ⟨fun s running => ?_, fun s closed => ?_, fun s running => ?_, fun s running => ?_, fun s running => ?_⟩
  · intro counting counted
    have acts : Machine.exec .evacuationExpiry s = .next (s.put s.station.evacuationExpired) :=
      s.next_put (Station.onlyIf_of_true _ running)
    have enters (due : s.station.supp.evacuation.isSome = true) (fire : s.station.supp.fire = .evacuate) :
        s.station.evacuationExpired = counted.onlyIf s.station.supp.holdClosed Station.heldBack :=
      (Station.onlyIf_of_true _ due).trans (Station.enterCountdown_within (congrArg FireState.confirmed fire))
    have supp : counted.supp = counting := Station.supp_of_outer (Station.handFireReport_outer _)
    rw [acts]
    refine ⟨fun stopped => s.next_put (Station.onlyIf_of_false _ (by simp [stopped])), fun due fire =>
      ⟨fun opened => s.next_put ?_, fun shut => s.next_put ?_⟩⟩
    · rw [enters due fire, Station.onlyIf_of_false _ opened]
    · rw [enters due fire, Station.onlyIf_of_true _ shut, ← supp]
      rfl
  · intro st pins read level run filter
    have follows (on : st.running = true) {t : Timer}
        (h : filterSwitch st.supp.holdFilter st.supp.holdClosed closed = t) : level = filter t := by
      rw [← h]
      exact s.next_put (Station.onlyIf_of_true _ on)
    have acts (on : st.running = true) : run = .next (s.put (st.holdSwitch closed)) :=
      s.next_put (Station.onlyIf_of_true _ on)
    refine ⟨fun off => ⟨s.next_put (Station.onlyIf_of_false _ off), s.next_put (Station.onlyIf_of_false _ off)⟩,
      fun on => ⟨fun same => follows on (filterSwitch_same same), fun other rests => ?_,
        fun n other runs => ?_, fun fire shut => ?_, fun fire opened => ?_, fun opens closes => ?_⟩⟩
    · exact follows on (by rw [filterSwitch_other other, rests]; rfl)
    · exact follows on (by rw [filterSwitch_other other, runs]; rfl)
    · exact (acts on).trans (s.next_put (Station.holdSwitch_holds fire shut))
    · exact (acts on).trans (s.next_put (Station.holdSwitch_frees fire opened))
    · exact (acts on).trans (s.next_put (Station.holdSwitch_reads opens closes))
  · intro stopped
    rw [exec_countdownExpiry_of_running running]
    exact ⟨fun rests => s.next_put (Station.onlyIf_of_false _ (by simp [rests])), fun counting fire =>
      ⟨fun free => s.next_put (Station.countdownExpired_free counting fire free),
        fun locked => s.next_put (Station.countdownExpired_locked counting fire locked)⟩⟩
  · intro ended told marked
    have acts : Machine.exec .releasePulseExpiry s = .next (s.put s.station.pulseExpired) :=
      s.next_put (Station.onlyIf_of_true _ running)
    rw [acts]
    exact ⟨fun rests => s.next_put (Station.onlyIf_of_false _ (by simp [rests])),
      fun pulsing fire => s.next_put (Station.pulseExpired_soaks pulsing fire)⟩
  · have acts : Machine.exec .soakExpiry s = .next (s.put s.station.soakExpired) :=
      s.next_put (Station.onlyIf_of_true _ running)
    rw [acts]
    exact ⟨fun rests => s.next_put (Station.onlyIf_of_false _ (by simp [rests])),
      fun soaking fire => s.next_put (Station.soakExpired_vents soaking fire)⟩

end Sys2Proof
end

section
/-! SUPPORT. The sweeps over the records: the minute sweep (R100) and the discharge marking (R101). -/

namespace Sys2Proof

/-- One minute of a cartridge, in band or out of it (R100). -/
theorem CartData.minute_eq (limit : Nat) (s : Excursion) (c : CartData) :
    c.minute limit s =
      if s = .inBand then
        { c with acclim := match c.acclim with
            | some n => if n ≤ 1 then none else some (n - 1)
            | none => none }
      else
        { c with
          exposure := min 65535 (c.exposure + 1)
          inspect := c.inspect || decide (limit ≤ min 65535 (c.exposure + 1)) } := by
  cases s with
  | inBand =>
    rcases h : c.acclim with _ | _ | _ | k <;> simp [CartData.minute, h]
  | high | low | sensorFault => rfl

/-- A sweep over the FILED and OUT records, slot by slot. -/
theorem SlotTable.mapRecords_swept (t : SlotTable) (f : CartData → CartData) :
    t.mapRecords Rec.swept f = { t with
      slots := t.slots.map fun sl =>
        match sl.record, decide (sl.difference = 0) with
        | .filed d, true => { sl with record := .filed (f d) }
        | .out d u, true => { sl with record := .out (f d) u }
        | _, _ => sl } := by
  refine congrArg (fun l => { t with slots := l }) (List.map_congr_left fun sl _ => ?_)
  obtain ⟨r, difference, debounced, last, damage⟩ := sl
  by_cases sound : difference = 0#16 <;> cases r <;> simp [Slot.sound, Rec.swept, Rec.mapCart, sound]

/-- A sweep over the FILED records, slot by slot. -/
theorem SlotTable.mapRecords_filed (t : SlotTable) (f : CartData → CartData) :
    t.mapRecords Rec.isFiled f = { t with
      slots := t.slots.map fun sl =>
        match sl.record, decide (sl.difference = 0) with
        | .filed d, true => { sl with record := .filed (f d) }
        | _, _ => sl } := by
  refine congrArg (fun l => { t with slots := l }) (List.map_congr_left fun sl _ => ?_)
  obtain ⟨r, difference, debounced, last, damage⟩ := sl
  by_cases sound : difference = 0#16 <;> cases r <;> simp [Slot.sound, Rec.isFiled, Rec.mapCart, sound]

/-- The expiry of a running minute timer: the timer again, then the sweep. -/
theorem Station.minuteExpired_sweeps {st : Station} (runs : st.table.minute.isSome) (reported : st.damageReported) :
    st.minuteExpired = { st with
      table := { st.table with minute := some (ticksOfSec 60) }.mapRecords Rec.swept
        (CartData.minute st.cfg.expoLimit st.moist.status) } := by
  have read : (st.onTable fun t => { t with minute := some (ticksOfSec 60) }).readAll
      = st.onTable fun t => { t with minute := some (ticksOfSec 60) } := Station.readAll_of_reported reported
  unfold Station.minuteExpired
  rw [Station.onlyIf_of_true _ runs]
  dsimp only
  rw [read]
  rfl

/-- Settles O27: each sweep slot by slot, where no read finds new damage. -/
theorem minuteSweepAndDischargeMarks : Obligations.MinuteSweepAndDischargeMarks := by
  refine ⟨fun s bay => ?_, fun st reported => ?_⟩
  · intro c minute
    have acts : Machine.exec .minuteTimerExpiry s = .next (s.put s.station.minuteExpired) :=
      s.next_put (Station.onlyIf_of_true _ bay)
    have one : CartData.minute c.expoLimit s.station.moist.status = minute :=
      funext fun d => d.minute_eq c.expoLimit s.station.moist.status
    rw [acts]
    refine ⟨fun stopped => s.next_put (Station.onlyIf_of_false _ (by simp [stopped])), fun runs reported =>
      s.next_put ?_⟩
    rw [Station.minuteExpired_sweeps runs reported, ← one]
    exact congrArg (fun t => ({ s.station with table := t } : Station)) (SlotTable.mapRecords_swept _ _)
  · unfold Station.markDischarge
    rw [Station.readAll_of_reported reported]
    exact congrArg (fun t => { st with table := t }) (st.table.mapRecords_filed _)

end Sys2Proof
end

section
/-! SUPPORT. The peer view (Chapter 10): a peer's message on its record (R165 to R168), a neighbour's tested for the
confirmation (R57), and the silence of a peer (R169). -/

namespace Sys2Proof

/-! ### Messages (R166 to R168) -/

theorem FireState.ofCode_code (f : FireState) : FireState.ofCode f.code = some f := by cases f <;> rfl

/-- A code beyond BLOCKED names no fire state. -/
theorem FireState.ofCode_unknown {c : BitVec 4} (h : 9 ≤ c.toNat) : FireState.ofCode c = none := by
  unfold FireState.ofCode
  split <;> simp_all

theorem intervalOfByte_eq (b : Byte) :
    intervalOfByte b = if b.toNat < 1 then 1 else if 10 < b.toNat then 10 else b.toNat := by
  unfold intervalOfByte
  split_ifs <;> omega

/-- The fire fields that a FIRE-REPORT writes, over what the record holds (R167). -/
theorem Peer.takeFire_eq (f : FireState) (p : Peer) :
    p.takeFire f = match p with
      | .alive d => .alive { d with age := 0, fire := some (f, 0) }
      | .silent d => .alive { d with age := 0, fire := some (f, 0) }
      | .unheard | .lost =>
        .alive { age := 0, interval := 10, roleDemand := none, fire := some (f, 0) } := by
  cases p <;> rfl

/-- A neighbour's message tested for the confirmation (R57). -/
theorem Station.neighbourTest_eq {st x : Station} (src : Addr) (same : x.peers.neighbours = st.peers.neighbours) :
    x.onlyIf (x.isNeighbour src) Station.neighbourTest
      = if src ∈ st.peers.neighbours ∧ x.confirmed = false ∧ x.confirmationHolds = true then x.confirm else x := by
  unfold Station.isNeighbour Station.neighbourTest Station.onlyIf
  rw [same]
  by_cases h : src ∈ st.peers.neighbours <;> simp [h]

section
variable {st : Station} {src : Addr}

theorem Station.takeStatus_unknown {body : StatusBody} (h : 9 ≤ body.fire.toNat) :
    Station.takeStatus src body st = st.modifyPeer src Peer.refresh := by
  unfold Station.takeStatus
  rw [FireState.ofCode_unknown h]

theorem Station.takeStatus_known {body : StatusBody} {f : FireState} (h : f.code = body.fire) :
    Station.takeStatus src body st =
      (st.modifyPeer src fun _ => Peer.ofStatus body f).onlyIf (st.isNeighbour src) Station.neighbourTest := by
  unfold Station.takeStatus
  rw [← h, FireState.ofCode_code]

theorem Station.takeFireReport_unknown {body : FireReportBody} (h : 9 ≤ body.fire.toNat) :
    Station.takeFireReport src body st = st.modifyPeer src Peer.refresh := by
  unfold Station.takeFireReport
  rw [FireState.ofCode_unknown h]

theorem Station.takeFireReport_known {body : FireReportBody} {f : FireState} (h : f.code = body.fire) :
    Station.takeFireReport src body st =
      (st.modifyPeer src (·.takeFire f)).onlyIf (st.isNeighbour src) Station.neighbourTest := by
  unfold Station.takeFireReport
  rw [← h, FireState.ofCode_code]

/-! ### Silence (R169) -/

/-- A record rewritten where the table has one. -/
theorem Station.modifyPeer_record {a : Addr} {p q : Peer} {f : Peer → Peer}
    (record : st.peers.records[a.toNat]? = some p) (becomes : f p = q) :
    st.modifyPeer a f = { st with
      peers := { st.peers with records := st.peers.records.set a.toNat q } } := by
  have modified : st.peers.records.modify a.toNat f = st.peers.records.set a.toNat q := by
    rw [List.modify_eq_set_getElem?, record]
    simp [becomes]
  simp only [Station.modifyPeer, Station.onPeers, modified]

theorem Station.modifyPeer_stays {a : Addr} {p : Peer} {f : Peer → Peer}
    (record : st.peers.records[a.toNat]? = some p) (stays : f p = p) : st.modifyPeer a f = st := by
  obtain ⟨inTable, rfl⟩ := List.getElem?_eq_some_iff.mp record
  rw [Station.modifyPeer_record record stays, List.set_getElem_self inTable]

theorem PeerData.silentFor_iff (d : PeerData) (n : Nat) :
    d.silentFor n = true ↔ n * d.interval * 125000 ≤ d.age := by
  unfold PeerData.silentFor ticksOfSec
  rw [decide_eq_true_iff, Nat.mul_comm]

end

/-- Settles O48: each message by the fire code it carries, and each threshold by the heard age. -/
theorem peerMessages : Obligations.PeerMessages := by
  refine ⟨fun s src heard => ?_, fun d p => ?_, fun s a p running record => ?_⟩
  · intro st told tested
    have acts (f : Station → Station) : Host.Outcome.next (s.put (Station.fromPeer src f st))
        = (Host.Outcome.next (s.put (f st)) : Host.Outcome _ Machine.Fault Machine.Refusal) :=
      s.next_put (Station.fromPeer_heard f heard)
    refine ⟨fun body f => ⟨fun unknown => ?_, fun known => ?_⟩, fun body f => ⟨fun unknown => ?_, fun known => ?_⟩,
      fun _ => acts _, fun _ => acts _⟩
    · exact (acts _).trans (s.next_put (Station.takeStatus_unknown unknown))
    · refine ((acts _).trans (s.next_put (Station.takeStatus_known known))).trans (s.next_put ?_)
      unfold Peer.ofStatus
      rw [intervalOfByte_eq]
      exact Station.neighbourTest_eq src rfl
    · exact (acts _).trans (s.next_put (Station.takeFireReport_unknown unknown))
    · refine ((acts _).trans (s.next_put (Station.takeFireReport_known known))).trans (s.next_put ?_)
      rw [funext (Peer.takeFire_eq f)]
      exact Station.neighbourTest_eq src rfl
  · exact ⟨by rintro (rfl | rfl) <;> rfl, by rintro (rfl | rfl) <;> rfl⟩
  · intro becomes silent lost
    have turns {f : Peer → Peer} {q : Peer} (h : f p = q) :
        Host.Outcome.next (s.put (s.station.onlyIf s.station.running (·.modifyPeer a f))) = becomes q :=
      s.next_put ((Station.onlyIf_of_true _ running).trans (Station.modifyPeer_record record h))
    have stays {f : Peer → Peer} (h : f p = p) :
        (Host.Outcome.next (s.put (s.station.onlyIf s.station.running (·.modifyPeer a f))) :
          Host.Outcome _ Machine.Fault Machine.Refusal) = .next s :=
      s.next_put ((Station.onlyIf_of_true _ running).trans (Station.modifyPeer_stays record h))
    refine ⟨fun d alive => ⟨fun reached => turns ?_, fun before => stays ?_⟩, fun d sil => stays ?_,
      fun d known => ⟨fun reached => turns ?_, fun before => stays ?_⟩, fun away => ⟨stays ?_, stays ?_⟩⟩
    · rw [alive, Peer.fallSilent, if_pos ((d.silentFor_iff 3).mpr reached)]
    · rw [alive, Peer.fallSilent, if_neg (mt (d.silentFor_iff 3).mp (Nat.not_le.mpr before))]
    · rw [sil, Peer.fallSilent]
    · have far := (d.silentFor_iff 10).mpr reached
      rcases known with rfl | rfl <;> rw [Peer.fallLost, if_pos far]
    · have near := mt (d.silentFor_iff 10).mp (Nat.not_le.mpr before)
      rcases known with rfl | rfl <;> rw [Peer.fallLost, if_neg near]
    · rcases away with rfl | rfl <;> rfl
    · rcases away with rfl | rfl <;> rfl

end Sys2Proof
end

section
/-! SUPPORT. The start rules of a BAY's slot table and pull queue (R88 to R90, R105, R124). Outside JOINED
every message is discarded as it is made, so each rule rewrites the slots and the pull entries, and beside
them at most the audit and the count of the messages made. -/

namespace Sys2Proof

/-! ### What stays silent outside JOINED -/

section
variable {st : Station} (h : st.joined = false)
include h

theorem Station.offerPlaces_not_joined : st.offerPlaces = st := by
  have none : st.placeOffer = none := by simp [Station.placeOffer, h]
  simp [Station.offerPlaces, Station.offerUpTo, none]

theorem Station.hand_not_joined (k : Blk) (d : Addr) (b : Body) : st.hand k d b = st :=
  Station.onlyIf_of_false _ h

theorem Station.auditComplete_not_joined : st.auditComplete = st.onAudit fun _ => .start := by
  unfold Station.auditComplete Station.auditReply Station.reply
  rw [Station.hand_not_joined h]

theorem Station.suspensionTest_not_joined : ∃ audit, st.suspensionTest = { st with audit := audit } := by
  unfold Station.suspensionTest Station.onlyIf
  split
  · split
    · exact ⟨_, rfl⟩
    · exact ⟨_, rfl⟩
  · split
    · dsimp only
      split
      · exact ⟨_, rfl⟩
      · exact ⟨_, Station.auditComplete_not_joined h⟩
    · exact ⟨_, rfl⟩

theorem Station.replyCancelled_not_joined (es : List PullEntry) :
    es.foldl Station.replyCancelled st = st := by
  induction es with
  | nil => rfl
  | cons e es ih =>
    have told : st.replyCancelled e = st := Station.hand_not_joined h _ _ _
    rw [List.foldl_cons, told, ih]

end

/-- The relighting of a frozen queue in which nothing is LIT changes no entry (R110). -/
theorem relit_of_unlit {es : List PullEntry} (h : ∀ e ∈ es, e.state ≠ .lit) : relit true es = es := by
  rw [relit_frozen]
  refine (List.map_congr_left fun e he => ?_).trans (List.map_id es)
  have unlit := h e he
  obtain ⟨cart, slot, job, hatch, requester, reqSeq, state⟩ := e
  cases state <;> simp_all

/-! ### A station rewritten by a start rule -/

/-- `b` is `a` with other slots and other pull entries, and beside them at most another lamp request of the
pull queue, another audit and another line interface. -/
def Station.Rewritten (a b : Station) (slots : List Slot) (entries : List PullEntry) : Prop :=
  ∃ pulls audit line, b = { a with table := { a.table with slots := slots }, pulls, audit, line } ∧
    pulls.entries = entries

namespace Station.Rewritten

variable {a b c : Station} {slots slots' : List Slot} {entries entries' : List PullEntry}

theorem refl (a : Station) : a.Rewritten a a.table.slots a.pulls.entries := ⟨_, _, _, rfl, rfl⟩

theorem trans (h : a.Rewritten b slots entries) (k : b.Rewritten c slots' entries') :
    a.Rewritten c slots' entries' := by
  obtain ⟨_, _, _, rfl, -⟩ := h
  obtain ⟨pulls, audit, line, rfl, held⟩ := k
  exact ⟨pulls, audit, line, rfl, held⟩

section
variable (h : a.Rewritten b slots entries)
include h

theorem slots_eq : b.table.slots = slots := by
  obtain ⟨_, _, _, rfl, -⟩ := h
  rfl

theorem entries_eq : b.pulls.entries = entries := by
  obtain ⟨_, _, _, rfl, held⟩ := h
  exact held

theorem joined_eq : b.joined = a.joined := by
  obtain ⟨_, _, _, rfl, -⟩ := h
  rfl

theorem hold_eq : b.table.hold = a.table.hold := by
  obtain ⟨_, _, _, rfl, -⟩ := h
  rfl

end

/-- Entries removed outside JOINED, where none is LIT: those that remain stand as they stood (R111). -/
theorem cancelPulls (p : PullEntry → Bool) (silent : a.joined = false)
    (unlit : ∀ e ∈ a.pulls.entries, e.state ≠ .lit) :
    a.Rewritten (a.cancelPulls p) a.table.slots (a.pulls.entries.filter fun e => !p e) := by
  have frozen : ∀ es, (a.setPulls es).frozen = true := fun es => by
    have : (a.setPulls es).joined = false := silent
    simp [Station.frozen, this]
  have kept : relit true (a.pulls.entries.filter fun e => !p e) = a.pulls.entries.filter fun e => !p e :=
    relit_of_unlit fun e he => unlit e (List.mem_of_mem_filter he)
  unfold Station.cancelPulls
  dsimp only
  split
  case isTrue none =>
    have same : a.pulls.entries.filter (fun e => !p e) = a.pulls.entries := by
      rw [List.filter_eq_self]
      rw [List.isEmpty_iff, List.filter_eq_nil_iff] at none
      exact fun e he => by simpa using none e he
    rw [same]
    exact refl a
  case isFalse =>
    rw [Station.replyCancelled_not_joined (st := a.setPulls _) silent]
    obtain ⟨audit, tested⟩ := Station.suspensionTest_not_joined
      (st := (a.setPulls (a.pulls.entries.filter fun e => !p e)).relight) silent
    refine ⟨_, audit, a.line, tested, ?_⟩
    simp only [Station.relight, frozen]
    exact kept

end Station.Rewritten

/-! ### The first reads (R88 to R90) -/

/-- A read would first find the record DAMAGED (R89). -/
def Slot.undiscovered (sl : Slot) : Bool := !sl.sound && decide (sl.damage = .none)

theorem Slot.undiscovered_iff {sl : Slot} : sl.undiscovered = true ↔ sl.difference ≠ 0 ∧ sl.damage = .none := by
  simp [Slot.undiscovered, Slot.sound]

/-- A slot after a read that numbers the report it owes (R90). -/
def Slot.read (number : Nat) (sl : Slot) : Slot :=
  if sl.undiscovered then { sl with damage := .pending number } else sl

theorem Slot.read_record (number : Nat) (sl : Slot) : (sl.read number).record = sl.record := by
  unfold Slot.read
  split <;> rfl

/-- A pull entry stays when the records of its cartridge are taken away: only one in OUT does (R89, R105). -/
def PullEntry.outlasts (e : PullEntry) (taken : Bool) : Bool := decide (e.state = .out) || !taken

theorem PullEntry.outlasts_or (e : PullEntry) (x y : Bool) :
    e.outlasts (x || y) = (e.outlasts x && e.outlasts y) := by
  by_cases out : e.state = .out <;> simp [PullEntry.outlasts, out]

theorem Station.slots_at_unreported {st : Station} {n : Nat} (h : n ∈ st.unreported) :
    ∃ sl, st.table.slots[n]? = some sl ∧ sl.undiscovered = true := by
  unfold Station.unreported at h
  obtain ⟨⟨sl, m⟩, found, rfl⟩ := List.mem_map.mp h
  obtain ⟨here, new⟩ := List.mem_filter.mp found
  exact ⟨sl, List.mk_mem_zipIdx_iff_getElem?.mp here, new⟩

theorem Station.mem_unreported {st : Station} {n : Nat} {sl : Slot} (h : st.table.slots[n]? = some sl) :
    n ∈ st.unreported ↔ sl.undiscovered = true := by
  constructor
  · intro listed
    obtain ⟨sl', here, new⟩ := Station.slots_at_unreported listed
    cases h.symm.trans here
    exact new
  · intro new
    exact List.mem_map.mpr ⟨(sl, n), List.mem_filter.mpr ⟨List.mk_mem_zipIdx_iff_getElem?.mpr h, new⟩, rfl⟩

theorem Station.unreported_nodup (st : Station) : st.unreported.Nodup := by
  have numbers : (st.table.slots.zipIdx.map (·.2)).Nodup := by
    rw [List.zipIdx_map_snd]
    exact List.nodup_range'
  exact numbers.sublist (List.filter_sublist.map _)

namespace Station.Rewritten

variable {a b : Station}

/-- A record first found DAMAGED outside JOINED: its report is numbered and its cartridge's entry not in OUT
goes (R89, R90). -/
theorem noticeDamage {n : Nat} {sl : Slot} (silent : a.joined = false)
    (unlit : ∀ e ∈ a.pulls.entries, e.state ≠ .lit) (here : a.table.slots[n]? = some sl)
    (new : sl.undiscovered = true) :
    a.Rewritten (a.noticeDamage n) (a.table.slots.modify n (Slot.read a.line.made))
      (a.pulls.entries.filter fun e => e.outlasts (sl.holds e.cart)) := by
  obtain ⟨damaged, unknown⟩ := Slot.undiscovered_iff.mp new
  have marked : a.table.slots.modify n (Slot.read a.line.made)
      = a.table.slots.modify n fun s => { s with damage := .pending a.line.made } := by
    apply List.ext_getElem?
    intro m
    by_cases hm : n = m
    · subst hm
      simp [here, Slot.read, new]
    · simp [hm]
  have numbered : a.Rewritten
      (a.modifySlot n fun s => { s with damage := .pending a.line.made }).numbered
      (a.table.slots.modify n (Slot.read a.line.made)) a.pulls.entries :=
    ⟨_, _, _, by rw [marked]; rfl, rfl⟩
  unfold Station.noticeDamage
  rw [Station.slot_eq here]
  dsimp only
  rw [if_pos ⟨by simpa [Slot.sound] using damaged, unknown⟩,
    Station.offerPlaces_not_joined (numbered.joined_eq.trans silent)]
  cases hc : sl.record.cart with
  | none =>
    have all : (a.pulls.entries.filter fun e => e.outlasts (sl.holds e.cart)) = a.pulls.entries := by
      simp [PullEntry.outlasts, Slot.holds, hc]
    rw [all]
    exact numbered
  | some c =>
    have gone := cancelPulls (fun e => decide (e.cart = c.id) && decide (e.state ≠ .out))
      (numbered.joined_eq.trans silent) (numbered.entries_eq.symm ▸ unlit)
    rw [numbered.slots_eq, numbered.entries_eq] at gone
    have same : (fun e : PullEntry => e.outlasts (sl.holds e.cart))
        = fun e => !(decide (e.cart = c.id) && decide (e.state ≠ .out)) := by
      funext e
      by_cases out : e.state = .out <;> simp [PullEntry.outlasts, Slot.holds, hc, out, eq_comm]
    rw [same]
    exact numbered.trans gone

/-- Records first found DAMAGED one after the other. -/
theorem noticeDamages (l : List Nat) (distinct : l.Nodup) (silent : a.joined = false)
    (unlit : ∀ e ∈ a.pulls.entries, e.state ≠ .lit)
    (new : ∀ n ∈ l, ∃ sl, a.table.slots[n]? = some sl ∧ sl.undiscovered = true) :
    ∃ number : Nat → Nat, a.Rewritten (l.foldl Station.noticeDamage a)
      (a.table.slots.mapIdx fun n sl => if n ∈ l then sl.read (number n) else sl)
      (a.pulls.entries.filter fun e => e.outlasts (l.any fun n => (a.table.slot n).holds e.cart)) := by
  induction l generalizing a with
  | nil => exact ⟨id, by simpa [PullEntry.outlasts, List.mapIdx_eq_zipIdx_map] using refl a⟩
  | cons n l ih =>
    obtain ⟨fresh, distinct⟩ := List.nodup_cons.mp distinct
    obtain ⟨sl, here, found⟩ := new n List.mem_cons_self
    have first := noticeDamage silent unlit here found
    have slots := first.slots_eq
    have elsewhere : ∀ m, n ≠ m → (a.noticeDamage n).table.slots[m]? = a.table.slots[m]? := by
      intro m hm
      rw [slots, List.getElem?_modify]
      simp [hm]
    have records : ∀ m, ((a.noticeDamage n).table.slot m).record = (a.table.slot m).record := by
      intro m
      simp only [SlotTable.slot, List.getD, slots, List.getElem?_modify]
      cases a.table.slots[m]? with
      | none => rfl
      | some s => by_cases hm : n = m <;> simp [hm, Slot.read_record]
    have rest : ∀ m ∈ l, n ≠ m := fun m hm same => fresh (same ▸ hm)
    obtain ⟨number, others⟩ := ih (a := a.noticeDamage n) distinct (first.joined_eq.trans silent)
      (by
        rw [first.entries_eq]
        exact fun e he => unlit e (List.mem_of_mem_filter he))
      (fun m hm => by
        obtain ⟨s, there, unseen⟩ := new m (List.mem_cons_of_mem _ hm)
        exact ⟨s, (elsewhere m (rest m hm)).trans there, unseen⟩)
    refine ⟨fun m => if m = n then a.line.made else number m, ?_⟩
    have both := first.trans others
    rw [List.foldl_cons]
    convert both using 1
    · rw [slots]
      apply List.ext_getElem?
      intro m
      simp only [List.getElem?_mapIdx, List.getElem?_modify, List.mem_cons]
      cases a.table.slots[m]? with
      | none => rfl
      | some s =>
        by_cases hm : m = n
        · subst hm
          simp [fresh]
        · simp [hm, Ne.symm hm]
    · rw [first.entries_eq, List.filter_filter]
      refine List.filter_congr fun e _ => ?_
      simp only [PullEntry.outlasts, List.any_cons, Slot.holds, records, Station.slot_eq here]
      by_cases out : e.state = .out <;> simp [out, Bool.and_comm]

/-- The first read of every record outside JOINED (R88 to R90). -/
theorem readAll (silent : a.joined = false) (unlit : ∀ e ∈ a.pulls.entries, e.state ≠ .lit) :
    ∃ number : Nat → Nat, a.Rewritten a.readAll (a.table.slots.mapIdx fun n sl => sl.read (number n))
      (a.pulls.entries.filter fun e =>
        e.outlasts (a.table.slots.any fun sl => sl.undiscovered && sl.holds e.cart)) := by
  obtain ⟨number, read⟩ := noticeDamages a.unreported a.unreported_nodup silent unlit
    fun n hn => Station.slots_at_unreported hn
  have slots : a.table.slots.mapIdx (fun n sl => sl.read (number n))
      = a.table.slots.mapIdx fun n sl => if n ∈ a.unreported then sl.read (number n) else sl := by
    apply List.ext_getElem?
    intro n
    simp only [List.getElem?_mapIdx]
    cases here : a.table.slots[n]? with
    | none => rfl
    | some sl =>
      simp only [Option.map_some, Station.mem_unreported here]
      by_cases new : sl.undiscovered <;> simp [Slot.read, new]
  have taken : ∀ e : PullEntry, (a.table.slots.any fun sl => sl.undiscovered && sl.holds e.cart)
      = a.unreported.any fun n => (a.table.slot n).holds e.cart := by
    intro e
    rw [Bool.eq_iff_iff]
    simp only [List.any_eq_true, Bool.and_eq_true]
    constructor
    · rintro ⟨sl, listed, new, held⟩
      obtain ⟨n, here⟩ := List.mem_iff_getElem?.mp listed
      exact ⟨n, (Station.mem_unreported here).mpr new, by rwa [Station.slot_eq here]⟩
    · rintro ⟨n, listed, held⟩
      obtain ⟨sl, here, new⟩ := Station.slots_at_unreported listed
      rw [Station.slot_eq here] at held
      exact ⟨sl, List.mem_of_getElem? here, new, held⟩
  refine ⟨number, ?_⟩
  simp only [slots, taken]
  exact read

end Station.Rewritten

/-! ### Unplanned cartridges (R124) -/

/-- A slot after the start rule of R124, beside the pull entries given. -/
def Slot.unplanned (es : List PullEntry) (sl : Slot) : Slot :=
  match sl.view with
  | .out c false =>
    if es.any fun e => decide (e.cart = c.id) then sl
    else { sl with record := .out c true, difference := 0, damage := .none }
  | _ => sl

/-- The rule of R124 in the two cases of a record. -/
theorem Slot.unplanned_cases (es : List PullEntry) (sl : Slot) :
    sl.unplanned es = sl ∨ ∃ c, sl.view = .out c false ∧ (∀ e ∈ es, e.cart ≠ c.id) ∧
      sl.unplanned es = { sl with record := .out c true, difference := 0, damage := .none } := by
  unfold Slot.unplanned
  split
  case h_1 c out =>
    split
    · exact .inl rfl
    · next alone => exact .inr ⟨c, out, by simpa using alone, rfl⟩
  case h_2 => exact .inl rfl

theorem Slot.unplanned_holds (es : List PullEntry) (sl : Slot) (x : Cart) :
    (sl.unplanned es).holds x = sl.holds x := by
  obtain same | ⟨c, out, -, written⟩ := sl.unplanned_cases es
  · rw [same]
  · rw [written]
    simp [Slot.holds, Rec.cart, (Slot.view_out_iff.mp out).2]

/-- The transfer a slot's record is PLACING under, as the blocks read it. -/
def Slot.placingTid (sl : Slot) : Option Tid :=
  match sl.view with
  | .placing _ t => some t
  | _ => none

theorem Slot.unplanned_placingTid (es : List PullEntry) (sl : Slot) :
    (sl.unplanned es).placingTid = sl.placingTid := by
  obtain same | ⟨c, out, -, written⟩ := sl.unplanned_cases es
  · rw [same]
  · simp only [written, Slot.placingTid, out]
    simp [Slot.view, Slot.sound]

/-- The slot of a pull entry holds its cartridge. -/
def PullEntry.FiledIn (slots : List Slot) (e : PullEntry) : Prop :=
  ∃ sl, slots[e.slot]? = some sl ∧ sl.holds e.cart = true

theorem PullEntry.FiledIn.mapIdx {slots : List Slot} {e : PullEntry} {f : Nat → Slot → Slot}
    (h : e.FiledIn slots) (hf : ∀ n sl x, (f n sl).holds x = sl.holds x) : e.FiledIn (slots.mapIdx f) := by
  obtain ⟨sl, here, held⟩ := h
  exact ⟨f e.slot sl, by simp [here], by rw [hf, held]⟩

theorem List.modify_eq_mapIdx {α : Type} (l : List α) (n : Nat) (f : α → α) :
    l.modify n f = l.mapIdx fun m x => if m = n then f x else x := by
  apply List.ext_getElem?
  intro m
  simp only [List.getElem?_modify, List.getElem?_mapIdx, eq_comm (a := n)]
  cases l[m]? with
  | none => rfl
  | some x => by_cases hm : m = n <;> simp [hm]

theorem List.map_mapIdx_of_same {α β : Type} (l : List α) {f : Nat → α → α} {g : α → β}
    (h : ∀ n x, g (f n x) = g x) : (l.mapIdx f).map g = l.map g := by
  apply List.ext_getElem?
  intro m
  simp only [List.getElem?_map, List.getElem?_mapIdx]
  cases l[m]? with
  | none => rfl
  | some x => simp [h]

/-- The rule of R124 at one slot: no record is touched, or the record is written (R94). -/
theorem Station.markUnplanned_cases (st : Station) (n : Nat) :
    (st.markUnplanned n = st ∧
      st.table.slots.modify n (Slot.unplanned st.pulls.entries) = st.table.slots) ∨
    ∃ sl c, st.table.slots[n]? = some sl ∧ sl.view = .out c false ∧
      st.markUnplanned n = st.writeRecord n (.out c true) ∧
      st.table.slots.modify n (Slot.unplanned st.pulls.entries) = (st.withRecord n (.out c true)).table.slots := by
  cases here : st.table.slots[n]? with
  | none =>
    have blank : st.table.slot n = .blank := by simp [SlotTable.slot, List.getD, here]
    refine .inl ⟨?_, List.modify_eq_self (List.getElem?_eq_none_iff.mp here)⟩
    unfold Station.markUnplanned
    rw [blank]
    rfl
  | some sl =>
    have at_slot : ∀ f g : Slot → Slot, f sl = g sl → st.table.slots.modify n f = st.table.slots.modify n g := by
      intro f g same
      apply List.ext_getElem?
      intro m
      by_cases hm : n = m
      · subst hm
        simp [here, same]
      · simp [hm]
    by_cases out : ∃ c, sl.view = .out c false
    · obtain ⟨c, out⟩ := out
      have marked : st.markUnplanned n
          = if st.pulls.entries.any fun e => decide (e.cart = c.id) then st
            else st.writeRecord n (.out c true) := by
        simp [Station.markUnplanned, Station.setUnplanned, Station.slot_eq here, out, Station.pullFor]
      by_cases planned : st.pulls.entries.any fun e => decide (e.cart = c.id)
      · exact .inl ⟨by rw [marked, if_pos planned],
          (at_slot _ id (by simp only [Slot.unplanned, out, planned]; rfl)).trans (List.modify_id _ _)⟩
      · exact .inr ⟨sl, c, rfl, out, by rw [marked, if_neg planned],
          at_slot _ _ (by simp only [Slot.unplanned, out, planned]; rfl)⟩
    · have unmarked : sl.unplanned st.pulls.entries = sl := by
        obtain same | ⟨c, planned, -⟩ := sl.unplanned_cases st.pulls.entries
        · exact same
        · exact absurd ⟨c, planned⟩ out
      refine .inl ⟨?_, (at_slot _ id unmarked).trans (List.modify_id _ _)⟩
      unfold Station.markUnplanned
      rw [Station.slot_eq here]
      split
      · next c planned => exact absurd ⟨c, planned⟩ out
      · rfl

namespace Station.Rewritten

variable {a b : Station}

/-- The rule of R124 at one slot outside JOINED: pull entries go only where a slot does not hold their
cartridge. -/
theorem markUnplanned (n : Nat) (silent : a.joined = false) (unlit : ∀ e ∈ a.pulls.entries, e.state ≠ .lit) :
    ∃ es, a.Rewritten (a.markUnplanned n)
        (a.table.slots.modify n (Slot.unplanned a.pulls.entries)) es ∧
      es ⊆ a.pulls.entries ∧
      ((∀ e ∈ a.pulls.entries, e.FiledIn a.table.slots) → es = a.pulls.entries) := by
  obtain ⟨same, slots⟩ | ⟨sl, c, here, out, written, slots⟩ := a.markUnplanned_cases n
  · rw [same, slots]
    exact ⟨_, refl a, List.Subset.refl _, fun _ => rfl⟩
  · rw [written, slots]
    refine ⟨_, cancelPulls (a := a.withRecord n (.out c true)) _ silent unlit, List.filter_subset_self _,
      fun filed => List.filter_eq_self.mpr fun e he => ?_⟩
    obtain ⟨sl', there, held⟩ := filed e he
    by_cases hn : e.slot = n
    · subst hn
      cases here.symm.trans there
      simpa [Slot.holds, Rec.cart, (Slot.view_out_iff.mp out).2] using held
    · simp [hn]

/-- The rule of R124 at slots one after the other. -/
theorem markUnplanneds (l : List Nat) (distinct : l.Nodup) (silent : a.joined = false)
    (unlit : ∀ e ∈ a.pulls.entries, e.state ≠ .lit) :
    ∃ slots es, a.Rewritten (l.foldl Station.markUnplanned a) slots es ∧ es ⊆ a.pulls.entries ∧
      slots.map Slot.placingTid = a.table.slots.map Slot.placingTid ∧
      ((∀ e ∈ a.pulls.entries, e.FiledIn a.table.slots) → es = a.pulls.entries ∧
        slots = a.table.slots.mapIdx fun n sl => if n ∈ l then sl.unplanned a.pulls.entries else sl) := by
  induction l generalizing a with
  | nil => exact ⟨_, _, refl a, List.Subset.refl _, rfl, fun _ => ⟨rfl, by simp [List.mapIdx_eq_zipIdx_map]⟩⟩
  | cons n l ih =>
    obtain ⟨fresh, distinct⟩ := List.nodup_cons.mp distinct
    obtain ⟨es, first, fewer, all⟩ := markUnplanned n silent unlit
    rw [List.modify_eq_mapIdx] at first
    have entries := first.entries_eq
    have slots := first.slots_eq
    obtain ⟨slots', es', others, fewer', placing, whole⟩ := ih (a := a.markUnplanned n) distinct
      (first.joined_eq.trans silent) (by
        rw [entries]
        exact fun e he => unlit e (fewer he))
    refine ⟨slots', es', first.trans others, fun e he => fewer (entries ▸ fewer' he), ?_, fun filed => ?_⟩
    · rw [placing, slots]
      refine List.map_mapIdx_of_same _ fun m sl => ?_
      split
      · exact sl.unplanned_placingTid _
      · rfl
    · have kept := all filed
      rw [entries, kept, slots] at whole
      obtain ⟨rfl, rfl⟩ := whole fun e he => (filed e he).mapIdx fun m sl x => by
        split
        · exact sl.unplanned_holds _ x
        · rfl
      refine ⟨rfl, ?_⟩
      apply List.ext_getElem?
      intro m
      simp only [List.getElem?_mapIdx, List.mem_cons]
      cases a.table.slots[m]? with
      | none => rfl
      | some sl =>
        by_cases hm : m = n
        · subst hm
          simp [fresh]
        · simp [hm]

end Station.Rewritten

/-! ### All of a BAY's start rules -/

theorem Slot.fromRecord_holds (sl : Slot) (x : Cart) : sl.fromRecord.holds x = sl.holds x := rfl

/-- A slot after the inspect flag's restoring (R105). -/
def Slot.limited (limit : Nat) (sl : Slot) : Slot :=
  if sl.sound then { sl with record := sl.record.mapCart (CartData.limit limit) } else sl

theorem Rec.mapCart_cart (r : Rec) (f : CartData → CartData) : (r.mapCart f).cart = r.cart.map f := by
  cases r <;> rfl

theorem Slot.limited_holds (limit : Nat) (sl : Slot) (x : Cart) : (sl.limited limit).holds x = sl.holds x := by
  unfold Slot.limited
  split
  · simp only [Slot.holds, Rec.mapCart_cart, Option.map_map]
    rfl
  · rfl

theorem Slot.read_holds (number : Nat) (sl : Slot) (x : Cart) : (sl.read number).holds x = sl.holds x := by
  simp [Slot.holds, Slot.read_record]

/-- A slot after the start rules that look at it alone: the copies, the first read, the inspect flag. -/
def Slot.started (limit number : Nat) (sl : Slot) : Slot := (sl.fromRecord.read number).limited limit

theorem Slot.started_holds (limit number : Nat) (sl : Slot) (x : Cart) :
    (sl.started limit number).holds x = sl.holds x := by
  simp only [Slot.started, Slot.limited_holds, Slot.read_holds, Slot.fromRecord_holds]

theorem Slot.placingTid_eq_some {sl : Slot} {t : Tid} :
    sl.placingTid = some t ↔ sl.difference = 0 ∧ ∃ c, sl.record = .placing c t := by
  by_cases sound : sl.difference = 0
  · cases hr : sl.record <;> simp [Slot.placingTid, Slot.view, Slot.sound, sound, hr]
  · simp [Slot.placingTid, Slot.view_of_damaged sound, show ¬sl.difference = 0#16 from sound]

/-- The record and the difference that the start rules of a slot leave, its state kept. -/
theorem Slot.started_eq (limit number : Nat) (sl : Slot) :
    (sl.started limit number).difference = sl.difference ∧
    (sl.started limit number).record
      = if sl.sound then sl.record.mapCart (CartData.limit limit) else sl.record := by
  have read : (sl.fromRecord.read number).difference = sl.difference := by
    unfold Slot.read
    split <;> rfl
  have record : (sl.fromRecord.read number).record = sl.record := Slot.read_record _ _
  have sound : (sl.fromRecord.read number).sound = sl.sound := by simp only [Slot.sound, read]
  unfold Slot.started Slot.limited
  rw [sound, record]
  split
  · exact ⟨read, rfl⟩
  · exact ⟨read, record⟩

theorem Slot.started_placingTid (limit number : Nat) (sl : Slot) :
    (sl.started limit number).placingTid = sl.placingTid := by
  obtain ⟨difference, record⟩ := sl.started_eq limit number
  apply Option.ext
  intro t
  rw [Slot.placingTid_eq_some, Slot.placingTid_eq_some, difference, record]
  refine and_congr_right fun sound => ?_
  rw [if_pos (by simpa [Slot.sound] using sound)]
  cases sl.record <;> simp [Rec.mapCart]

namespace Station.Rewritten

variable {a b : Station} {slots : List Slot} {entries : List PullEntry} (h : a.Rewritten b slots entries)
include h

theorem limitRecords (limit : Nat) :
    a.Rewritten (b.onTable (·.mapRecords (fun _ => true) (CartData.limit limit)))
      (slots.map (Slot.limited limit)) entries := by
  obtain ⟨pulls, audit, line, rfl, held⟩ := h
  refine ⟨pulls, audit, line, ?_, held⟩
  simp [Station.onTable, SlotTable.mapRecords, Slot.limited]

/-- The held set handed on outside JOINED (R105). -/
theorem cancelHeld (silent : a.joined = false) (unlit : ∀ e ∈ entries, e.state ≠ .lit) :
    a.Rewritten b.cancelHeld slots (entries.filter fun e => e.outlasts (a.isHeld e.slot)) := by
  have gone := cancelPulls (fun e => decide (e.state ≠ .out) && b.isHeld e.slot)
    (h.joined_eq.trans silent) (h.entries_eq.symm ▸ unlit)
  rw [h.slots_eq, h.entries_eq] at gone
  have same : (fun e : PullEntry => e.outlasts (a.isHeld e.slot))
      = fun e => !(decide (e.state ≠ .out) && b.isHeld e.slot) := by
    funext e
    simp only [PullEntry.outlasts, Station.isHeld, h.hold_eq]
    by_cases out : e.state = .out <;> simp [out]
  rw [same]
  exact h.trans gone

end Station.Rewritten

/-- The start rules of a BAY outside JOINED: the pull entries that stay, and every slot. -/
theorem Station.startBay_rewrites {st : Station} (silent : st.joined = false)
    (unlit : ∀ e ∈ st.pulls.entries, e.state ≠ .lit) :
    ∃ slots es, st.Rewritten st.startBay slots es ∧ es ⊆ st.pulls.entries ∧
      slots.map Slot.placingTid = st.table.slots.map Slot.placingTid ∧
      ((∀ e ∈ st.pulls.entries, e.FiledIn st.table.slots) → ∃ number : Nat → Nat,
        es = st.pulls.entries.filter (fun e => e.outlasts (st.isHeld e.slot ||
          st.table.slots.any fun sl => sl.undiscovered && sl.holds e.cart)) ∧
        slots = st.table.slots.mapIdx fun n sl =>
          if n < 256 then (sl.started st.cfg.expoLimit (number n)).unplanned es
          else sl.started st.cfg.expoLimit (number n)) := by
  have copied : st.Rewritten (st.onTable fun t => { t with slots := t.slots.map Slot.fromRecord })
      (st.table.slots.map Slot.fromRecord) st.pulls.entries := ⟨_, _, _, rfl, rfl⟩
  obtain ⟨number, read⟩ := Station.Rewritten.readAll (copied.joined_eq.trans silent)
    (copied.entries_eq.symm ▸ unlit)
  have limited := (copied.trans read).limitRecords st.cfg.expoLimit
  have started : ((st.table.slots.map Slot.fromRecord).mapIdx fun n sl => sl.read (number n)).map
      (Slot.limited st.cfg.expoLimit)
      = st.table.slots.mapIdx fun n sl => sl.started st.cfg.expoLimit (number n) := by
    apply List.ext_getElem?
    intro n
    simp [Slot.started, Function.comp_def]
  rw [copied.entries_eq, copied.slots_eq, started] at limited
  have held := limited.cancelHeld silent fun e he => unlit e (List.mem_of_mem_filter he)
  obtain ⟨slots, es, marked, fewer, placing, whole⟩ := Station.Rewritten.markUnplanneds (List.range 256)
    List.nodup_range (held.joined_eq.trans silent) (by
      rw [held.entries_eq]
      exact fun e he => unlit e (List.mem_of_mem_filter (List.mem_of_mem_filter he)))
  rw [held.entries_eq] at fewer whole
  rw [held.slots_eq] at placing whole
  refine ⟨slots, es, held.trans marked, fun e he => List.mem_of_mem_filter (List.mem_of_mem_filter (fewer he)),
    placing.trans (List.map_mapIdx_of_same _ fun n sl => sl.started_placingTid _ _), fun filed => ?_⟩
  obtain ⟨rfl, rfl⟩ := whole fun e he =>
    (filed e (List.mem_of_mem_filter (List.mem_of_mem_filter he))).mapIdx fun n sl x => sl.started_holds _ _ x
  refine ⟨number, ?_, ?_⟩
  · rw [List.filter_filter]
    refine List.filter_congr fun e _ => ?_
    rw [PullEntry.outlasts_or, List.any_map]
    exact rfl
  · apply List.ext_getElem?
    intro n
    simp only [List.getElem?_mapIdx, List.mem_range]
    cases st.table.slots[n]? <;> simp

end Sys2Proof
end

section
/-! SUPPORT. SELFTEST's end (R186) and the entry into LISTEN (R187), block by block. -/

namespace Sys2Proof

/-! ### Retention (R186) -/

/-- The collections as SELFTEST finds them: emptied where retention is lost, then the start rules that both
roles share. -/
def Station.retained (st : Station) : Station :=
  (if st.retentionLost then st.emptyRetained else st).startLists

/-- Retention lost: every collection empty with a fresh check, every slot marked, the marker written (R186). -/
theorem Station.emptyRetained_eq (st : Station) : st.emptyRetained = { st with
    pulls := { st.pulls with entries := [], check := 0 }
    xfer := { st.xfer with entries := [], check := 0, counter := 0 }
    hatch := { st.hatch with custody := [], custodyCheck := 0, expected := [], expectedCheck := 0 }
    door := { st.door with occupancy := [], check := 0 }
    table := { st.table with slots := st.table.slots.map Slot.mark }
    retention := { markerGood := true, role := some st.cfg.role } } := by
  simp only [Station.emptyRetained, Station.setPulls, Station.setXfers, Station.setCustody, Station.setExpected,
    Station.setOccupancy, Station.onPulls, Station.onXfer, Station.onHatch, Station.onDoor, Station.onTable,
    Station.onRetention, Station.cfg]

/-- The start rules of both roles: the hold setting, no entry LIT, none IN-DRAWER (R105, R124, R164). -/
theorem Station.startLists_eq (st : Station) : st.startLists = { st with
    table := { st.table with hold := st.cfg.hold, mode := st.cfg.holdMode }
    pulls := { st.pulls with entries := relit true st.pulls.entries, check := 0 }
    hatch := { st.hatch with
      custody := st.hatch.custody.map fun e =>
        if e.state = .inDrawer then { e with state := .heldOutbound } else e
      custodyCheck := 0 } } := by
  simp only [Station.startLists, Station.setPulls, Station.setCustody, Station.onPulls, Station.onHatch,
    Station.onTable]

section
variable {st : Station}

theorem Station.retentionLost_iff : st.retentionLost = true ↔
    (st.loader.startKind = .powerUp ∧ (st.retention.markerGood = false ∨
      st.pulls.check ≠ 0 ∨ st.xfer.check ≠ 0 ∨ st.hatch.custodyCheck ≠ 0 ∨
      st.hatch.expectedCheck ≠ 0 ∨ st.door.check ≠ 0))
    ∨ st.retention.role ≠ some st.cfg.role := by
  simp only [Station.retentionLost, Station.checksAgree, Bool.or_eq_true, Bool.and_eq_true, Bool.not_eq_true',
    Bool.and_eq_false_iff, decide_eq_true_eq, decide_eq_false_iff_not, ne_eq]
  tauto

theorem Station.retained_lost (lost : st.retentionLost = true) : st.retained = st.emptyRetained.startLists := by
  rw [Station.retained, if_pos lost]

theorem Station.retained_kept (kept : ¬st.retentionLost = true) : st.retained = st.startLists := by
  rw [Station.retained, if_neg kept]

theorem Station.retained_cfg : st.retained.cfg = st.cfg := by
  have listed : ∀ x : Station, x.startLists.cfg = x.cfg := fun x => by
    rw [x.startLists_eq]
    rfl
  rw [Station.retained, listed]
  split
  · rw [st.emptyRetained_eq]
    rfl
  · rfl

theorem Station.settleRetention_hatch (hatch : st.cfg.role = .hatch) : st.settleRetention = st.retained :=
  Station.onlyIf_of_false (st := st.retained) _ (decide_eq_false fun bay => by
    cases (hatch.symm.trans (congrArg ConfigRecord.role Station.retained_cfg.symm)).trans bay)

theorem Station.settleRetention_bay (bay : st.cfg.role = .bay) :
    st.settleRetention = st.retained.startBay :=
  Station.onlyIf_of_true (st := st.retained) _
    (decide_eq_true ((congrArg ConfigRecord.role Station.retained_cfg).trans bay))

end

/-! ### Transfers (R146) -/

theorem XferEntry.listen_eq (limit : Ticks) (e : XferEntry) :
    e.listen limit false = { e with
      transit := if e.state = .offered ∨ e.state = .accepted ∨ e.state = .unanswered
        then .running limit else .stopped } := by
  unfold XferEntry.listen
  cases e.state <;> rfl

/-- The lamp request of an entry at entry into LISTEN (R146). -/
def Station.lampFor (st : Station) (e : XferEntry) : Option (Nat × Lamp) :=
  match e.slot with
  | some n =>
    if e.state = .refused then some (n, .flashing)
    else if e.state.receiving && st.placingFor n e.tid then some (n, .on) else none
  | none => none

section
variable {st : Station}

theorem Station.listenLamp_bay (bay : st.cfg.role = .bay) (e : XferEntry) :
    st.listenLamp e = match st.lampFor e with
      | some p => st.askLamp p.1 p.2
      | none => st := by
  unfold Station.listenLamp Station.lampFor
  rw [bay]
  cases e.slot with
  | none => rfl
  | some n =>
    dsimp only
    split
    · rfl
    · split <;> rfl

theorem Station.listenLamp_hatch (hatch : st.cfg.role = .hatch) (e : XferEntry) : st.listenLamp e = st := by
  unfold Station.listenLamp
  rw [hatch]

/-- The lamp requests of the transfer engine alone written. -/
def Station.withLamps (st : Station) (lamps : List (Nat × Lamp)) : Station :=
  { st with xfer := { st.xfer with lamps := lamps } }

theorem Station.listenLamps_frame (l : List XferEntry) (st : Station) :
    ∃ lamps, l.foldl Station.listenLamp st = st.withLamps lamps ∧
      (st.cfg.role = .hatch → lamps = st.xfer.lamps) := by
  induction l generalizing st with
  | nil => exact ⟨_, rfl, fun _ => rfl⟩
  | cons e l ih =>
    have one : ∃ lamps, st.listenLamp e = st.withLamps lamps ∧
        (st.cfg.role = .hatch → lamps = st.xfer.lamps) := by
      cases role : st.cfg.role with
      | hatch => exact ⟨_, Station.listenLamp_hatch role e, fun _ => rfl⟩
      | bay =>
        rw [Station.listenLamp_bay role e]
        split
        · exact ⟨_, rfl, fun hatch => nomatch hatch⟩
        · exact ⟨_, rfl, fun hatch => nomatch hatch⟩
    obtain ⟨first, asked, same⟩ := one
    obtain ⟨lamps, others, rest⟩ := ih (st.listenLamp e)
    rw [List.foldl_cons, others, asked]
    rw [asked] at rest
    exact ⟨lamps, rfl, fun hatch => (rest hatch).trans (same hatch)⟩

theorem Station.lampFor_slot {e : XferEntry} {p : Nat × Lamp} (h : st.lampFor e = some p) :
    e.slot = some p.1 ∧ p.2 ≠ .off := by
  unfold Station.lampFor at h
  split at h
  · next n slot =>
    split at h
    · cases h
      exact ⟨slot, Lamp.noConfusion⟩
    · split at h
      · cases h
        exact ⟨slot, Lamp.noConfusion⟩
      · cases h
  · cases h

/-- Where no two entries name one slot, each entry's request stands beside those before it (R146). -/
theorem Station.listenLamps_distinct (l : List XferEntry) (bay : st.cfg.role = .bay)
    (distinct : (l.filterMap XferEntry.slot).Nodup)
    (apart : ∀ p ∈ st.xfer.lamps, p.1 ∉ l.filterMap XferEntry.slot) :
    (l.foldl Station.listenLamp st).xfer.lamps = st.xfer.lamps ++ l.filterMap st.lampFor := by
  induction l generalizing st with
  | nil => simp
  | cons e l ih =>
    rw [List.foldl_cons, Station.listenLamp_bay bay e]
    cases asked : st.lampFor e with
    | none =>
      have fewer : l.filterMap XferEntry.slot ⊆ (e :: l).filterMap XferEntry.slot :=
        fun n hn => by
          rw [List.filterMap_cons]
          split
          · exact hn
          · exact List.mem_cons_of_mem _ hn
      rw [List.filterMap_cons, asked]
      refine ih bay ?_ fun p hp here => apart p hp (fewer here)
      rw [List.filterMap_cons] at distinct
      split at distinct
      · exact distinct
      · exact distinct.of_cons
    | some p =>
      obtain ⟨slot, lit⟩ := Station.lampFor_slot asked
      rw [List.filterMap_cons, slot] at distinct apart
      obtain ⟨fresh, distinct⟩ := List.nodup_cons.mp distinct
      have others : st.xfer.lamps.filter (fun q => decide (q.1 ≠ p.1)) = st.xfer.lamps :=
        List.filter_eq_self.mpr fun q hq =>
          decide_eq_true fun same => apart q hq (same ▸ List.mem_cons_self)
      have lamps : (st.askLamp p.1 p.2).xfer.lamps = st.xfer.lamps ++ [p] := by
        simp only [Station.askLamp, Station.onXfer, others, if_neg lit]
      have same : (st.askLamp p.1 p.2).lampFor = st.lampFor := rfl
      have rest := ih (st := st.askLamp p.1 p.2) bay distinct (by
        rw [lamps]
        intro q hq
        obtain old | new := List.mem_append.mp hq
        · exact fun here => apart q old (List.mem_cons_of_mem _ here)
        · rw [List.mem_singleton.mp new]
          exact fresh)
      rw [List.filterMap_cons, asked]
      dsimp only
      rw [rest, lamps, same, List.append_assoc]
      rfl

/-- The transfer engine at entry into LISTEN, outside a confirmed fire state (R146). -/
theorem Station.listenXfers_frame (unconfirmed : st.confirmed = false) : ∃ lamps,
    st.listenXfers = { st with
      xfer := { st.xfer with
        entries := st.xfer.entries.map (XferEntry.listen (ticksOfSec st.cfg.transitLimit) false)
        check := 0
        lamps := lamps } } ∧
    (st.cfg.role = .hatch → lamps = st.xfer.lamps) ∧
    (st.cfg.role = .bay → st.xfer.lamps = [] → (st.xfer.entries.filterMap XferEntry.slot).Nodup →
      lamps = st.xfer.entries.filterMap st.lampFor) := by
  let limit := ticksOfSec st.cfg.transitLimit
  have written : st.listenXfers = (st.xfer.entries.map (XferEntry.listen limit false)).foldl Station.listenLamp
      (st.setXfers (st.xfer.entries.map (XferEntry.listen limit false))) := by
    unfold Station.listenXfers
    rw [unconfirmed]
    rfl
  obtain ⟨lamps, asked, hatch⟩ := Station.listenLamps_frame
    (st.xfer.entries.map (XferEntry.listen limit false))
    (st.setXfers (st.xfer.entries.map (XferEntry.listen limit false)))
  refine ⟨lamps, written.trans asked, hatch, fun bay dark distinct => ?_⟩
  have slots : (st.xfer.entries.map (XferEntry.listen limit false)).filterMap XferEntry.slot
      = st.xfer.entries.filterMap XferEntry.slot := by
    rw [List.filterMap_map]
    exact List.filterMap_congr fun e _ => by simp [XferEntry.listen_eq]
  have requests : (st.xfer.entries.map (XferEntry.listen limit false)).filterMap st.lampFor
      = st.xfer.entries.filterMap st.lampFor := by
    rw [List.filterMap_map]
    exact List.filterMap_congr fun e _ => by simp [XferEntry.listen_eq, Station.lampFor]
  have lit := Station.listenLamps_distinct
    (st := st.setXfers (st.xfer.entries.map (XferEntry.listen limit false))) _ bay
    (slots ▸ distinct) (by
      intro p hp
      rw [show (st.setXfers _).xfer.lamps = st.xfer.lamps from rfl, dark] at hp
      cases hp)
  rw [asked] at lit
  calc lamps = st.xfer.lamps ++ (st.xfer.entries.map (XferEntry.listen limit false)).filterMap st.lampFor := lit
    _ = st.xfer.entries.filterMap st.lampFor := by rw [dark, requests, List.nil_append]

end

/-! ### The motion channel (R39) -/

section
variable {st : Station}

/-- The end that the channel's owner commands first (R26, R164). -/
def Station.firstEnd (st : Station) : MotionEnd :=
  match st.cfg.role with
  | .bay => if st.air.forcedSafe then .b else .a
  | .hatch => .b

/-- Outside JOINED, with nothing in the drawer, breaking the session off touches the session and the channel
alone (R156). -/
theorem Station.abortSession_not_joined (r : AbortReason) (silent : st.joined = false)
    (emptied : ∀ e ∈ st.hatch.custody, e.state ≠ .inDrawer) : ∃ motion session check,
    st.abortSession r = { st with
      motion := motion
      hatch := { st.hatch with session := session, custodyCheck := check } } := by
  have custody : st.hatch.custody.map (fun e =>
      if e.state = .inDrawer then { e with state := .heldOutbound } else e) = st.hatch.custody :=
    (List.map_congr_left fun e he => if_neg (emptied e he)).trans (List.map_id _)
  cases active : st.hatch.session.state.active with
  | false => exact ⟨_, _, _, Station.abortSession_quiet r active⟩
  | true =>
    have steps : st.abortSession r = ((st.brokenOff r).handover 0 (some r)).bringIn :=
      Station.onlyIf_of_true _ active
    have unsaid : (st.brokenOff r).handover 0 (some r) = st.brokenOff r :=
      Station.hand_not_joined (st := st.brokenOff r) silent _ _ _
    have driven : (st.brokenOff r).broughtIn = { st with
        motion := (st.brokenOff r).broughtIn.motion
        hatch := { st.hatch with
          session := { (st.brokenOff r).hatch.session with manifest := [] }
          custodyCheck := 0 } } := by
      unfold Station.broughtIn
      rw [Station.command_motion]
      simp only [Station.brokenOff, Station.onSession, Station.onHatch, custody]
    rw [steps, unsaid, Station.bringIn_ended (.inr rfl), driven]
    split
    · exact ⟨_, _, _, rfl⟩
    · exact ⟨_, _, _, rfl⟩

theorem Station.startDrive_report {e : MotionEnd} {r : Report} (h : (st.startDrive e).2 = some r) :
    r = .stalled .interlock := by
  unfold Station.startDrive Station.driveDue at h
  dsimp only at h
  split at h
  · cases h
  · split at h
    · cases h
      rfl
    · cases h

/-- The first command of a HATCH finds the drawer IN, or drives it there, which an open flap stops (R161). -/
theorem Station.command_in_report {r : Report} (hatch : st.cfg.role = .hatch)
    (read : st.motion.state = st.motionFromSwitches) (h : (st.command .b).2 = some r) :
    r = .stalled .interlock := by
  have switches : st.motionFromSwitches = if st.pins.innerEnd then .resting .b else .stalled := by
    unfold Station.motionFromSwitches
    rw [hatch]
  have holds : st.arrivalHolds .b = st.pins.innerEnd := by
    unfold Station.arrivalHolds
    rw [hatch]
  rw [switches] at read
  cases shut : st.pins.innerEnd with
  | true =>
    rw [Station.command_there (.inl (by simpa [shut] using read))] at h
    cases h
  | false =>
    have stalled : st.motion.state = .stalled := by simpa [shut] using read
    rw [Station.command_drives (by simp [stalled]) (by simp [stalled]) (.inr (holds.trans shut))] at h
    exact Station.startDrive_report h

theorem Station.listenMotion_frame (silent : st.joined = false)
    (emptied : ∀ e ∈ st.hatch.custody, e.state ≠ .inDrawer) : ∃ motion session check,
    st.listenMotion = { st with
      motion := motion
      hatch := { st.hatch with session := session, custodyCheck := check } } ∧
    motion.last = some st.firstEnd := by
  obtain ⟨x, hx⟩ : ∃ x, x = st.onMotion fun m => { m with state := st.motionFromSwitches } := ⟨_, rfl⟩
  have begun : st.listenMotion = Station.reported (x.command st.firstEnd) := by
    rw [hx]
    rfl
  have driven : (x.command st.firstEnd).1 = { st with motion := (x.command st.firstEnd).1.motion } := by
    rw [Station.command_motion, hx]
    rfl
  have last : (x.command st.firstEnd).1.motion.last = some st.firstEnd := Station.command_last _ _
  rw [begun]
  cases role : st.cfg.role with
  | bay =>
    have bay : (x.command st.firstEnd).1.cfg.role = .bay := by
      rw [driven]
      exact role
    rw [Station.reported_bay bay]
    exact ⟨_, _, _, driven, last⟩
  | hatch =>
    cases report : (x.command st.firstEnd).2 with
    | none =>
      have quiet : Station.reported (x.command st.firstEnd) = (x.command st.firstEnd).1 := by
        rw [← Station.reported_silent (x.command st.firstEnd).1, ← report]
      rw [quiet]
      exact ⟨_, _, _, driven, last⟩
    | some r =>
      have inward : st.firstEnd = .b := by
        unfold Station.firstEnd
        rw [role]
      have stalls : r = .stalled .interlock := by
        refine Station.command_in_report (st := x) ?_ ?_ (inward ▸ report)
        · rw [hx]
          exact role
        · rw [hx]
          rfl
      have told : Station.reported (x.command st.firstEnd)
          = (x.command st.firstEnd).1.abortSession StallCause.interlock.abortReason := by
        have hatch : (x.command st.firstEnd).1.cfg.role = .hatch := by
          rw [driven]
          exact role
        have pair : x.command st.firstEnd = ((x.command st.firstEnd).1, some r) := by rw [← report]
        rw [pair, Station.reported_hatch hatch, stalls]
        rfl
      have stays : (Station.reported (x.command st.firstEnd)).motion.last = some .b := by
        rw [told]
        exact Station.abortSession_last _ (last.trans (congrArg some inward))
      obtain ⟨motion, session, check, broken⟩ := Station.abortSession_not_joined
        (st := (x.command st.firstEnd).1) StallCause.interlock.abortReason (by rw [driven]; exact silent)
        (by rw [driven]; exact emptied)
      rw [told, broken] at stays
      rw [told, broken]
      refine ⟨motion, session, check, ?_, stays.trans (congrArg some inward.symm)⟩
      rw [driven]

end

/-! ### Entry into LISTEN (R187) -/

theorem Station.listenBay_eq (st : Station) : st.listenBay = { st with
    moist := st.moist.beginSlot
    air := st.periodStart.air
    table := { st.table with
      minute := some (ticksOfSec 60), keyFilter := filterSwitch none st.table.keyOn st.pins.keyInput,
      scanTimer := some 0 } } := rfl

/-- What the units of a station have begun at entry into LISTEN, before the transfer engine and the motion
channel. -/
def Station.fieldBegun (st : Station) : Station :=
  { st with
    loader := { st.loader with state := .listen, listenTimer := some (ticksOfSec (3 * st.cfg.beacon)) }
    det := st.det.beginScan
    supp := { st.supp with holdFilter := filterSwitch none st.supp.holdClosed st.pins.holdInput } }

theorem Station.unitsBegun_bay {st : Station} (bay : st.cfg.role = .bay) :
    st.unitsBegun = st.fieldBegun.listenBay.listenXfers :=
  congrArg Station.listenXfers (Station.onlyIf_of_true (st := st.fieldBegun) _ (decide_eq_true bay))

theorem Station.unitsBegun_hatch {st : Station} (hatch : st.cfg.role = .hatch) :
    st.unitsBegun = st.fieldBegun.listenXfers :=
  congrArg Station.listenXfers (Station.onlyIf_of_false (st := st.fieldBegun) _
    (decide_eq_false fun bay => nomatch hatch.symm.trans bay))

theorem Station.placingFor_iff {st : Station} (n : Nat) (t : Tid) :
    st.placingFor n t = true ↔ (st.table.slots.map Slot.placingTid)[n]? = some (some t) := by
  have read : st.placingFor n t = decide ((st.table.slot n).placingTid = some t) := by
    unfold Station.placingFor Slot.placingTid
    cases (st.table.slot n).view <;> simp
  rw [read, decide_eq_true_iff, List.getElem?_map, SlotTable.slot, List.getD_eq_getElem?_getD]
  cases st.table.slots[n]? with
  | none => simp [Slot.placingTid, Slot.view, Slot.blank, Slot.sound]
  | some sl => simp

/-- The lamp requests look at the table's PLACING records alone (R146). -/
theorem Station.lampFor_congr {a b : Station}
    (h : a.table.slots.map Slot.placingTid = b.table.slots.map Slot.placingTid) : a.lampFor = b.lampFor := by
  have placing : ∀ n t, a.placingFor n t = b.placingFor n t := fun n t => by
    rw [Bool.eq_iff_iff, Station.placingFor_iff, Station.placingFor_iff, h]
  funext e
  unfold Station.lampFor
  simp only [placing]

theorem Station.lampFor_flashing {st : Station} {e : XferEntry} {n : Nat} :
    st.lampFor e = some (n, .flashing) ↔ e.state = .refused ∧ e.slot = some n := by
  unfold Station.lampFor
  cases e.slot with
  | none => simp
  | some m =>
    dsimp only
    split
    · next refused => simp [refused]
    · next other => split <;> simp [other]

theorem Station.lampFor_on {st : Station} {e : XferEntry} {n : Nat} :
    st.lampFor e = some (n, .on) ↔ e.state.receiving = true ∧ e.slot = some n ∧
      ∃ sl c, st.table.slots[n]? = some sl ∧ sl.difference = 0 ∧ sl.record = .placing c e.tid := by
  have placing : ∀ m, st.placingFor m e.tid = true ↔ ∃ sl c, st.table.slots[m]? = some sl ∧
      sl.difference = 0 ∧ sl.record = .placing c e.tid := by
    intro m
    rw [Station.placingFor_iff, List.getElem?_map]
    cases st.table.slots[m]? with
    | none => simp
    | some sl => simpa using Slot.placingTid_eq_some
  unfold Station.lampFor
  cases e.slot with
  | none => simp
  | some m =>
    dsimp only
    split
    · next refused => simp [refused, XferState.receiving]
    · split
      · next asked =>
        obtain ⟨receiving, there⟩ := Bool.and_eq_true_iff.mp asked
        have record := (placing m).mp there
        constructor
        · intro same
          cases same
          exact ⟨receiving, rfl, record⟩
        · rintro ⟨-, same, -⟩
          cases same
          rfl
      · next quiet =>
        constructor
        · intro same
          cases same
        · rintro ⟨receiving, same, record⟩
          cases same
          exact absurd (Bool.and_eq_true_iff.mpr ⟨receiving, (placing n).mpr record⟩) quiet

/-- A station at entry into LISTEN: what each unit of a BAY begins, what the first command leaves of the motion
channel and the session, and what the transfer engine asks for. -/
structure Station.Listening (z t : Station) : Prop where
  frame : ∃ moist air table lamps motion session check, t = { z.fieldBegun with
    moist := moist
    air := air
    table := table
    xfer := { z.xfer with
      entries := z.xfer.entries.map (XferEntry.listen (ticksOfSec z.cfg.transitLimit) false)
      check := 0
      lamps := lamps }
    motion := motion
    hatch := { z.hatch with session := session, custodyCheck := check } }
  slots : t.table.slots = z.table.slots
  hold : t.table.hold = z.table.hold
  mode : t.table.mode = z.table.mode
  bay : z.cfg.role = .bay → t.moist.slotTimer = some (ticksOfSec 2) ∧
    t.air.period = some (ticksOfSec z.cfg.valvePeriod) ∧ t.table.minute = some (ticksOfSec 60) ∧
    t.table.scanTimer = some 0 ∧ t.motion.last = some (if z.air.forcedSafe then .b else .a)
  key : z.cfg.role = .bay → t.table.keyFilter = filterSwitch none z.table.keyOn z.pins.keyInput
  hatch : z.cfg.role = .hatch → t.motion.last = some .b ∧ t.xfer.lamps = z.xfer.lamps
  lamps : z.cfg.role = .bay → z.xfer.lamps = [] → (z.xfer.entries.filterMap XferEntry.slot).Nodup →
    t.xfer.lamps = z.xfer.entries.filterMap z.lampFor

theorem Station.enterListen_listening {z : Station} (unconfirmed : z.confirmed = false)
    (emptied : ∀ e ∈ z.hatch.custody, e.state ≠ .inDrawer) : z.Listening z.enterListen := by
  have mute : z.fieldBegun.joined = false := by simp [Station.joined, Station.fieldBegun]
  rw [Station.enterListen_eq]
  cases role : z.cfg.role with
  | bay =>
    obtain ⟨lamps, listens, -, asked⟩ := Station.listenXfers_frame (st := z.fieldBegun.listenBay) unconfirmed
    obtain ⟨motion, session, check, moved, last⟩ := Station.listenMotion_frame (st := z.unitsBegun)
      (by rw [Station.unitsBegun_bay role, listens]; exact mute)
      (by rw [Station.unitsBegun_bay role, listens]; exact emptied)
    have air := Station.periodStart_eq z.fieldBegun
    have shut : z.unitsBegun.air.forcedSafe = z.air.forcedSafe := by
      rw [Station.unitsBegun_bay role, listens, Station.listenBay_eq, air]
      rfl
    have first : z.unitsBegun.firstEnd = if z.air.forcedSafe then .b else .a := by
      have bay : z.unitsBegun.cfg.role = .bay := by
        rw [Station.unitsBegun_bay role, listens]
        exact role
      unfold Station.firstEnd
      rw [bay, shut]
    rw [moved, Station.unitsBegun_bay role, listens]
    exact {
      frame := ⟨_, _, _, _, _, _, _, rfl⟩
      slots := rfl
      hold := rfl
      mode := rfl
      bay := fun _ => ⟨rfl, by rw [Station.listenBay_eq, air]; rfl, rfl, rfl, last.trans (congrArg some first)⟩
      key := fun _ => rfl
      hatch := fun hatch => nomatch role.symm.trans hatch
      lamps := fun _ => asked role }
  | hatch =>
    obtain ⟨lamps, listens, kept, -⟩ := Station.listenXfers_frame (st := z.fieldBegun) unconfirmed
    obtain ⟨motion, session, check, moved, last⟩ := Station.listenMotion_frame (st := z.unitsBegun)
      (by rw [Station.unitsBegun_hatch role, listens]; exact mute)
      (by rw [Station.unitsBegun_hatch role, listens]; exact emptied)
    have first : z.unitsBegun.firstEnd = .b := by
      have hatch : z.unitsBegun.cfg.role = .hatch := by
        rw [Station.unitsBegun_hatch role, listens]
        exact role
      unfold Station.firstEnd
      rw [hatch]
    rw [moved, Station.unitsBegun_hatch role, listens]
    exact {
      frame := ⟨_, _, _, _, _, _, _, rfl⟩
      slots := rfl
      hold := rfl
      mode := rfl
      bay := fun bay => nomatch role.symm.trans bay
      key := fun bay => nomatch role.symm.trans bay
      hatch := fun _ => ⟨last.trans (congrArg some first), kept role⟩
      lamps := fun bay => nomatch role.symm.trans bay }

end Sys2Proof
end

section
/-! SUPPORT. SELFTEST's end over a whole station: retention settled, the start rules, LISTEN (R105, R124, R186,
R187). -/

namespace Sys2Proof

/-! ### One slot -/

theorem Slot.fromRecord_of_damaged {sl : Slot} (damaged : sl.difference ≠ 0) :
    sl.fromRecord = { sl with debounced := none, last := none } := by
  simp [Slot.fromRecord, Slot.sound, show ¬sl.difference = 0#16 from damaged]

/-- A record found DAMAGED at a start is left, and its report is owed (R89, R90, R105). -/
theorem Slot.started_damaged (limit number : Nat) {sl : Slot} (damaged : sl.difference ≠ 0)
    (unknown : sl.damage = .none) : sl.started limit number
      = { sl with debounced := none, last := none, damage := .pending number } := by
  have new : sl.fromRecord.undiscovered = true := Slot.undiscovered_iff.mpr ⟨damaged, unknown⟩
  unfold Slot.started Slot.read
  rw [if_pos new, Slot.fromRecord_of_damaged damaged]
  simp [Slot.limited, Slot.sound, show ¬sl.difference = 0#16 from damaged]

/-- The debounced copy of a sound slot at a start (R105, R106). -/
def Slot.startCopy (sl : Slot) : Option Bool :=
  if sl.record = .unsettled then none else some sl.record.presence

/-- A sound record at a start: its copies from its presence, its inspect flag restored (R105). -/
theorem Slot.started_sound (limit number : Nat) {sl : Slot} (sound : sl.difference = 0) :
    sl.started limit number = { sl with
      record := sl.record.mapCart (CartData.limit limit), debounced := sl.startCopy, last := sl.startCopy } := by
  have copied : sl.fromRecord = { sl with debounced := sl.startCopy, last := sl.startCopy } := by
    unfold Slot.fromRecord Slot.startCopy Slot.sound
    by_cases fresh : sl.record = .unsettled <;> simp [sound, fresh]
  have known : ¬sl.fromRecord.undiscovered = true := fun new => (Slot.undiscovered_iff.mp new).1 sound
  unfold Slot.started Slot.read
  rw [if_neg known, copied]
  simp [Slot.limited, Slot.sound, sound]

theorem Slot.unplanned_of_not_out (es : List PullEntry) {sl : Slot} (h : ∀ c, sl.view ≠ .out c false) :
    sl.unplanned es = sl :=
  (sl.unplanned_cases es).resolve_right fun ⟨c, out, _⟩ => h c out

/-- A sound OUT record beside the pull entries (R124). -/
theorem Slot.unplanned_of_out (es : List PullEntry) {sl : Slot} {c : CartData} {u : Bool}
    (sound : sl.difference = 0) (known : sl.damage = .none) (out : sl.record = .out c u) :
    sl.unplanned es = { sl with record := .out c (u || es.all fun e => decide (e.cart ≠ c.id)) } := by
  have view : sl.view = .out c u := Slot.view_out_iff.mpr ⟨sound, out⟩
  have same : ({ sl with record := .out c u } : Slot) = sl := by rw [← out]
  cases u with
  | true =>
    rw [Slot.unplanned_of_not_out es fun x planned => (nomatch view.symm.trans planned), Bool.true_or, same]
  | false =>
    unfold Slot.unplanned
    rw [view]
    by_cases pulled : es.any fun e => decide (e.cart = c.id)
    · have some : (es.all fun e => decide (e.cart ≠ c.id)) = false := by simpa using pulled
      simp only [if_pos pulled, some, Bool.or_false, same]
    · have none : (es.all fun e => decide (e.cart ≠ c.id)) = true := by simpa using pulled
      simp only [if_neg pulled, none, Bool.or_true, ← sound, ← known]

/-! ### The collections as SELFTEST finds them -/

section
variable {st : Station}

/-- SELFTEST leaves everything beside the collections and the marker. -/
theorem Station.retained_frame : ∃ slots pulls xfer hatch door retention,
    st.retained = { st with
      table := { st.table with slots := slots, hold := st.cfg.hold, mode := st.cfg.holdMode }
      pulls := pulls, xfer := xfer, hatch := hatch, door := door, retention := retention } ∧
    slots.length = st.table.slots.length ∧ xfer.lamps = st.xfer.lamps ∧
    (∀ e ∈ pulls.entries, e.state ≠ .lit) ∧ (∀ e ∈ hatch.custody, e.state ≠ .inDrawer) := by
  by_cases lost : st.retentionLost = true
  · rw [Station.retained_lost lost, Station.startLists_eq, Station.emptyRetained_eq]
    exact ⟨_, _, _, _, _, _, rfl, List.length_map _, rfl, relit_frozen_unlit _, fun e he => nomatch he⟩
  · rw [Station.retained_kept lost, Station.startLists_eq]
    refine ⟨_, _, _, _, _, _, rfl, rfl, rfl, relit_frozen_unlit _, fun e he => ?_⟩
    obtain ⟨x, -, rfl⟩ := List.mem_map.mp he
    split
    · exact CustodyState.noConfusion
    · next other => exact other

/-- What the start rules make of the collections: `z` has the slots and the pull entries given. -/
structure Station.Settled (st z : Station) (slots : List Slot) (es : List PullEntry) : Prop where
  rewritten : st.retained.Rewritten z slots es
  fewer : es ⊆ st.retained.pulls.entries
  placing : slots.map Slot.placingTid = st.retained.table.slots.map Slot.placingTid
  hatch : st.cfg.role = .hatch → es = st.retained.pulls.entries ∧ slots = st.retained.table.slots
  bay : st.cfg.role = .bay →
    (∀ e ∈ st.retained.pulls.entries, e.FiledIn st.retained.table.slots) → ∃ number : Nat → Nat,
      es = st.retained.pulls.entries.filter (fun e => e.outlasts (st.cfg.hold.held e.slot ||
        st.retained.table.slots.any fun sl => sl.undiscovered && sl.holds e.cart)) ∧
      slots = st.retained.table.slots.mapIdx fun n sl =>
        if n < 256 then (sl.started st.cfg.expoLimit (number n)).unplanned es
        else sl.started st.cfg.expoLimit (number n)

theorem Station.settleRetention_settled (silent : st.joined = false) :
    ∃ slots es, st.Settled st.settleRetention slots es := by
  obtain ⟨slots, pulls, xfer, hatch, door, retention, frame, -, -, unlit, -⟩ := st.retained_frame
  cases role : st.cfg.role with
  | hatch =>
    rw [Station.settleRetention_hatch role]
    exact ⟨_, _, .refl _, List.Subset.refl _, rfl, fun _ => ⟨rfl, rfl⟩, fun bay => nomatch role.symm.trans bay⟩
  | bay =>
    obtain ⟨slots', es, rewritten, fewer, placing, whole⟩ := Station.startBay_rewrites (st := st.retained)
      (by rw [frame]; exact silent) (by rw [frame]; exact unlit)
    rw [Station.settleRetention_bay role]
    refine ⟨slots', es, rewritten, fewer, placing, fun hatch => (nomatch role.symm.trans hatch), fun _ filed => ?_⟩
    have held : ∀ n, st.retained.isHeld n = st.cfg.hold.held n := fun n => by
      rw [frame]
      rfl
    have limit : st.retained.cfg.expoLimit = st.cfg.expoLimit := by rw [Station.retained_cfg]
    simp only [held, limit] at whole
    exact whole filed

end

/-! ### Entry into LISTEN from SELFTEST -/

section
variable {st z t : Station} {slots : List Slot} {es : List PullEntry}

theorem Station.Settled.length (h : st.Settled z slots es) : slots.length = st.retained.table.slots.length := by
  simpa using congrArg List.length h.placing

/-- What every start keeps and begins. -/
theorem Station.selftest_begins (settled : st.Settled z slots es) (listening : z.Listening t) :
    t.loader.state = .listen ∧ t.loader.listenTimer = some (ticksOfSec (3 * st.cfg.beacon)) ∧
    t.cfg = st.cfg ∧ t.loader.own = st.loader.own ∧ t.det.scanTimer = some (ticksOfMs 250) ∧
    t.det.channel = some (.loop 0) ∧
    t.table.hold = st.cfg.hold ∧ t.table.mode = st.cfg.holdMode ∧
    t.table.slots.length = st.table.slots.length ∧
    (st.cfg.role = .bay → t.moist.slotTimer = some (ticksOfSec 2) ∧
      t.air.period = some (ticksOfSec st.cfg.valvePeriod) ∧
      t.table.minute = some (ticksOfSec 60) ∧ t.table.scanTimer = some 0 ∧
      t.motion.last = some (if st.air.forcedSafe then .b else .a)) ∧
    (st.cfg.role = .hatch → t.motion.last = some .b ∧ t.xfer.lamps = st.xfer.lamps) ∧
    t.supp = { st.supp with
      holdFilter := if st.pins.holdInput = st.supp.holdClosed then none else some 12500 } ∧
    (st.cfg.role = .bay → t.table.keyFilter
      = (if st.pins.keyInput = st.table.keyOn then none else some 12500)) ∧
    (∀ e ∈ t.pulls.entries, e.state ≠ .lit) ∧
    (∀ e ∈ t.hatch.custody, e.state ≠ .inDrawer) := by
  obtain ⟨kept, pulls, xfer, hatch, door, retention, frame, same, lamps, unlit, emptied⟩ := st.retained_frame
  have rewritten := settled.rewritten
  have fewer := settled.fewer
  have length := settled.length
  have entries := rewritten.entries_eq
  rw [frame] at rewritten fewer length
  obtain ⟨_, _, _, rfl, -⟩ := rewritten
  have filter : ∀ reading level : Bool,
      filterSwitch none reading level = if level = reading then none else some 12500 := fun _ _ => rfl
  have key := listening.key
  have rows := listening.slots
  have hold := listening.hold
  have mode := listening.mode
  have bay := listening.bay
  have hatches := listening.hatch
  obtain ⟨moist, air, table, lamps', motion, session, check, rfl⟩ := listening.frame
  refine ⟨rfl, rfl, rfl, rfl, rfl, rfl, hold, mode, ?_, bay, ?_, rfl, key, ?_, emptied⟩
  · exact (congrArg List.length rows).trans (length.trans same)
  · exact fun role => ⟨(hatches role).1, (hatches role).2.trans lamps⟩
  · exact fun e he => unlit e (fewer (entries ▸ he))

/-- With retention lost a start keeps nothing (R186). -/
theorem Station.selftest_loses (lost : st.retentionLost = true) (settled : st.Settled z slots es)
    (listening : z.Listening t) :
    t.pulls.entries = [] ∧ t.xfer.entries = [] ∧ t.xfer.counter = 0 ∧
    t.hatch.custody = [] ∧ t.hatch.expected = [] ∧ t.door.occupancy = [] ∧
    t.retention = { markerGood := true, role := some st.cfg.role } ∧
    ∀ sl ∈ t.table.slots, sl.record = .unsettled ∧ sl.difference = 0 := by
  have frame : st.retained = { st with
      pulls := { st.pulls with entries := [], check := 0 }
      xfer := { st.xfer with entries := [], check := 0, counter := 0 }
      hatch := { st.hatch with custody := [], custodyCheck := 0, expected := [], expectedCheck := 0 }
      door := { st.door with occupancy := [], check := 0 }
      table := { st.table with
        slots := st.table.slots.map Slot.mark, hold := st.cfg.hold, mode := st.cfg.holdMode }
      retention := { markerGood := true, role := some st.cfg.role } } := by
    rw [Station.retained_lost lost, Station.startLists_eq, Station.emptyRetained_eq]
    rfl
  have none : st.retained.pulls.entries = [] := by rw [frame]
  have empty : es = [] := List.subset_nil.mp (none ▸ settled.fewer)
  have mark : ∀ sl ∈ st.retained.table.slots, sl.record = .unsettled ∧ sl.difference = 0 := by
    rw [frame]
    rintro sl listed
    obtain ⟨x, -, rfl⟩ := List.mem_map.mp listed
    exact ⟨rfl, rfl⟩
  have marked : ∀ sl ∈ slots, sl.record = .unsettled ∧ sl.difference = 0 := by
    cases role : st.cfg.role with
    | hatch =>
      rw [(settled.hatch role).2]
      exact mark
    | bay =>
      obtain ⟨number, -, rows⟩ := settled.bay role (none ▸ fun e he => nomatch he)
      rw [rows]
      intro sl listed
      obtain ⟨n, hn, rfl⟩ := List.mem_mapIdx.mp listed
      obtain ⟨fresh, sound⟩ := mark _ (List.getElem_mem hn)
      have started := Slot.started_sound st.cfg.expoLimit (number n) sound
      rw [fresh] at started
      have settles : ((st.retained.table.slots[n]).started st.cfg.expoLimit (number n)).unplanned es
          = (st.retained.table.slots[n]).started st.cfg.expoLimit (number n) :=
        Slot.unplanned_of_not_out es fun c out => by
          have record := (Slot.view_out_iff.mp out).2
          rw [started] at record
          cases record
      rw [settles, ite_self, started]
      exact ⟨rfl, sound⟩
  have entries := settled.rewritten.entries_eq
  have rewritten := settled.rewritten
  rw [frame] at rewritten
  obtain ⟨pulls, audit, line, rfl, -⟩ := rewritten
  have same := listening.slots
  obtain ⟨_, _, _, _, _, _, _, rfl⟩ := listening.frame
  exact ⟨entries.trans empty, rfl, rfl, rfl, rfl, rfl, rfl, same ▸ marked⟩

section
variable (kept : ¬st.retentionLost = true)
include kept

theorem Station.retained_entries : st.retained.pulls.entries = st.pulls.entries.map fun e =>
    if e.state = .lit then { e with state := .waiting } else e := by
  rw [Station.retained_kept kept, Station.startLists_eq]
  dsimp only
  rw [relit_frozen]
  refine List.map_congr_left fun e _ => ?_
  obtain ⟨cart, slot, job, hatch, requester, reqSeq, state⟩ := e
  cases state <;> rfl

theorem Station.retained_slots : st.retained.table.slots = st.table.slots := by
  rw [Station.retained_kept kept, Station.startLists_eq]

/-- With retention held a start keeps the collections beside the pull queue (R146, R164, R186). -/
theorem Station.selftest_keeps (settled : st.Settled z slots es) (listening : z.Listening t) :
    t.retention = st.retention ∧ t.door.occupancy = st.door.occupancy ∧
    t.hatch.expected = st.hatch.expected ∧ t.xfer.counter = st.xfer.counter ∧
    t.xfer.entries = st.xfer.entries.map (fun e =>
      { e with
        transit := if e.state = .offered ∨ e.state = .accepted ∨ e.state = .unanswered
          then .running (ticksOfSec st.cfg.transitLimit) else .stopped }) ∧
    (st.cfg.role = .bay → st.xfer.lamps = [] → (st.xfer.entries.filterMap XferEntry.slot).Nodup →
      t.xfer.lamps = st.xfer.entries.filterMap st.lampFor) ∧
    t.hatch.custody = st.hatch.custody.map (fun e =>
      if e.state = .inDrawer then { e with state := .heldOutbound } else e) := by
  have requests : z.lampFor = st.lampFor := Station.lampFor_congr (by
    rw [settled.rewritten.slots_eq, settled.placing, Station.retained_slots kept])
  have rewritten := settled.rewritten
  rw [Station.retained_kept kept, Station.startLists_eq] at rewritten
  obtain ⟨pulls, audit, line, rfl, -⟩ := rewritten
  have lamps := listening.lamps
  rw [requests] at lamps
  obtain ⟨_, _, _, _, _, _, _, rfl⟩ := listening.frame
  exact ⟨rfl, rfl, rfl, rfl, List.map_congr_left fun e _ => e.listen_eq _, lamps, rfl⟩

/-- A HATCH keeps its pull entries and slots as they were. -/
theorem Station.selftest_keeps_hatch (hatch : st.cfg.role = .hatch) (settled : st.Settled z slots es)
    (listening : z.Listening t) :
    t.pulls.entries = st.pulls.entries.map (fun e =>
      if e.state = .lit then { e with state := .waiting } else e) ∧ t.table.slots = st.table.slots := by
  obtain ⟨entries, rows⟩ := settled.hatch hatch
  have pulls : t.pulls = z.pulls := by
    obtain ⟨_, _, _, _, _, _, _, rfl⟩ := listening.frame
    rfl
  constructor
  · rw [pulls, settled.rewritten.entries_eq, entries, Station.retained_entries kept]
  · rw [listening.slots, settled.rewritten.slots_eq, rows, Station.retained_slots kept]

end

end

/-! ### A BAY's slots (R105, R124) -/

/-- A slot whose damage has not been reported, after the start rules, beside the pull entries kept. -/
theorem Slot.started_unplanned (limit number : Nat) (es : List PullEntry) {sl : Slot} (known : sl.damage = .none) :
    let limited (c : CartData) : CartData := { c with inspect := c.inspect || decide (limit ≤ c.exposure) }
    let sl' := (sl.started limit number).unplanned es
    sl'.difference = sl.difference ∧
    (sl.difference ≠ 0 → sl'.record = sl.record ∧ sl'.debounced = none ∧ sl'.last = none ∧
      ∃ m, sl'.damage = .pending m) ∧
    (sl.difference = 0 → sl'.damage = .none ∧ sl'.last = sl'.debounced ∧
      (sl.record = .unsettled → sl'.debounced = none) ∧
      (sl.record ≠ .unsettled → sl'.debounced = some sl.record.presence) ∧
      (∀ c u, sl.record = .out c u → sl'.record = .out (limited c)
        (u || es.all fun e => decide (e.cart ≠ c.id))) ∧
      ((∀ c u, sl.record ≠ .out c u) → sl'.record = sl.record.mapCart limited)) := by
  intro limited sl'
  by_cases sound : sl.difference = 0
  · have started := Slot.started_sound limit number sound
    have copy : sl.record = .unsettled → sl.startCopy = none := fun fresh => if_pos fresh
    have copies : sl.record ≠ .unsettled → sl.startCopy = some sl.record.presence := fun settled => if_neg settled
    by_cases out : ∃ c u, sl.record = .out c u
    · obtain ⟨c, u, out⟩ := out
      have written : sl' = { sl.started limit number with
          record := .out (limited c) (u || es.all fun e => decide (e.cart ≠ c.id)) } :=
        Slot.unplanned_of_out es (by rw [started]; exact sound) (by rw [started]; exact known)
          (by rw [started, out]; rfl)
      rw [written, started]
      refine ⟨rfl, fun damaged => absurd sound damaged, fun _ => ⟨known, rfl, copy, copies, ?_, ?_⟩⟩
      · intro c' u' same
        cases out.symm.trans same
        rfl
      · exact fun other => absurd out (other c u)
    · have same : sl' = sl.started limit number := Slot.unplanned_of_not_out es fun c planned => by
        have record := (Slot.view_out_iff.mp planned).2
        rw [started] at record
        cases hr : sl.record <;> rw [hr] at record <;> cases record
        exact out ⟨_, _, hr⟩
      rw [same, started]
      exact ⟨rfl, fun damaged => absurd sound damaged, fun _ => ⟨known, rfl, copy, copies,
        fun c u planned => absurd ⟨c, u, planned⟩ out, fun _ => rfl⟩⟩
  · have started := Slot.started_damaged limit number sound known
    have same : sl' = sl.started limit number := Slot.unplanned_of_not_out es fun c out => by
      have sound' := (Slot.view_out_iff.mp out).1
      rw [started] at sound'
      exact sound sound'
    rw [same, started]
    exact ⟨rfl, fun _ => ⟨rfl, rfl, rfl, _, rfl⟩, fun sound' => absurd sound' sound⟩

section
variable {st z t : Station} {slots : List Slot} {es : List PullEntry}

/-- A BAY keeps the pull entries that the held set and the damage found leave, and every slot (R89, R105,
R124). -/
theorem Station.selftest_keeps_bay (kept : ¬st.retentionLost = true) (bay : st.cfg.role = .bay)
    (settled : st.Settled z slots es) (listening : z.Listening t) (size : st.table.slots.length ≤ 256)
    (unknown : ∀ sl ∈ st.table.slots, sl.damage = .none)
    (filed : ∀ e ∈ st.pulls.entries, ∃ sl c, st.table.slots[e.slot]? = some sl ∧
      sl.record.cart = some c ∧ c.id = e.cart) :
    let waits := st.pulls.entries.map fun e => if e.state = .lit then { e with state := .waiting } else e
    t.pulls.entries = es ∧
    es = waits.filter (fun e => decide (e.state = .out) || !(st.cfg.hold.held e.slot ||
      st.table.slots.any fun sl =>
        decide (sl.difference ≠ 0) && decide (sl.record.cart.map CartData.id = some e.cart))) ∧
    ∀ (n : Nat) (sl : Slot), st.table.slots[n]? = some sl →
      ∃ number, t.table.slots[n]? = some ((sl.started st.cfg.expoLimit number).unplanned es) := by
  intro waits
  have entries := Station.retained_entries kept
  have rows := Station.retained_slots kept
  obtain ⟨number, left, slots_eq⟩ := settled.bay bay (by
    rw [entries, rows]
    intro e he
    obtain ⟨x, hx, rfl⟩ := List.mem_map.mp he
    obtain ⟨sl, c, here, cart, same⟩ := filed x hx
    have keys : (if x.state = .lit then { x with state := .waiting } else x).slot = x.slot ∧
        (if x.state = .lit then { x with state := .waiting } else x).cart = x.cart := by
      split <;> exact ⟨rfl, rfl⟩
    exact ⟨sl, by rw [keys.1, here], by simp [Slot.holds, keys.2, cart, same]⟩)
  have pulls : t.pulls = z.pulls := by
    obtain ⟨_, _, _, _, _, _, _, rfl⟩ := listening.frame
    rfl
  refine ⟨by rw [pulls, settled.rewritten.entries_eq], ?_, fun n sl here => ⟨number n, ?_⟩⟩
  · rw [left, entries, rows]
    refine List.filter_congr fun e _ => ?_
    have damaged : (st.table.slots.any fun sl => sl.undiscovered && sl.holds e.cart)
        = st.table.slots.any fun sl =>
          decide (sl.difference ≠ 0) && decide (sl.record.cart.map CartData.id = some e.cart) := by
      have one : ∀ sl ∈ st.table.slots, (sl.undiscovered && sl.holds e.cart)
          = (decide (sl.difference ≠ 0) && decide (sl.record.cart.map CartData.id = some e.cart)) := by
        intro sl hsl
        simp [Slot.undiscovered, Slot.sound, Slot.holds, unknown sl hsl]
      rw [Bool.eq_iff_iff, List.any_eq_true, List.any_eq_true]
      exact exists_congr fun sl => and_congr_right fun hsl => by rw [one sl hsl]
    rw [damaged]
    rfl
  · have small : n < 256 := by
      have := (List.getElem?_eq_some_iff.mp here).1
      omega
    rw [listening.slots, settled.rewritten.slots_eq, slots_eq, rows, List.getElem?_mapIdx, here]
    simp [small]

end

/-- SELFTEST ended outside a confirmed fire state: the collections settled, then LISTEN. -/
theorem Station.selftested_listens {st : Station} (silent : st.joined = false) (fire : st.supp.fire = .normal) :
    ∃ z slots es, st.Settled z slots es ∧ z.Listening (st.selftested true) := by
  obtain ⟨slots, es, settled⟩ := Station.settleRetention_settled silent
  obtain ⟨_, _, _, hatch, _, _, frame, -, -, -, emptied⟩ := st.retained_frame
  have rewritten := settled.rewritten
  rw [frame] at rewritten
  obtain ⟨_, _, _, same, -⟩ := rewritten
  refine ⟨_, slots, es, settled, Station.enterListen_listening ?_ ?_⟩
  · rw [same]
    exact congrArg FireState.confirmed fire
  · rw [same]
    exact emptied

end Sys2Proof
end

section
/-! SUPPORT. Entry into JOINED (R187): what the queue takes behind the first STATUS, and what the OFFERs and
ARRIVEs handed again come to. -/

namespace Sys2Proof

/-! ### The queue only grows -/

/-- The queue of `b` goes on from that of `a`, under the same beacon timer. -/
def Station.Lengthens (a b : Station) : Prop :=
  a.line.queue <+: b.line.queue ∧ b.line.beacon = a.line.beacon

theorem Line.select_beacon (l : Line) (own : Addr) (order : TxOrder) : (l.select own order).beacon = l.beacon := by
  unfold Line.select
  split
  · split <;> rfl
  · rfl

namespace Station.Lengthens

variable {a b c : Station}

theorem refl (a : Station) : a.Lengthens a := ⟨List.prefix_rfl, rfl⟩

section
variable (h : a.Lengthens b)
include h

theorem of_line (e : c.line = b.line) : a.Lengthens c := by
  unfold Lengthens
  rw [e]
  exact h

theorem of_grown (queue : b.line.queue <+: c.line.queue) (beacon : c.line.beacon = b.line.beacon) :
    a.Lengthens c := ⟨h.1.trans queue, beacon.trans h.2⟩

theorem select : a.Lengthens b.select :=
  Station.onlyIf_keeps (P := a.Lengthens) h fun h =>
    h.of_grown (by rw [Station.onLine_line, Line.select_queue]) (Line.select_beacon _ _ _)

theorem join (p : Pend) : a.Lengthens (b.join p) := by
  have appended : a.Lengthens (b.onLine (·.append p)) := h.of_grown (List.prefix_append _ _) rfl
  unfold Station.join
  cases p.body.timedTid with
  | none => exact appended.select
  | some t =>
    have loaded : a.Lengthens ((b.onLine (·.append p)).loadReply t) := appended.of_line rfl
    exact loaded.select

theorem takePend (p : Pend) (rest : List Pend) : a.Lengthens (b.takePend p rest) := by
  have left : a.Lengthens (b.onLine fun l => { l with pend := rest }) := h.of_grown List.prefix_rfl rfl
  exact left.join p

theorem takeDamage (d : Nat × Nat) : a.Lengthens (b.takeDamage d) := by
  have sent : a.Lengthens (b.modifySlot d.1 fun sl => { sl with damage := .sent }) := h.of_line rfl
  exact sent.join _

theorem placeOffer (e : b.placeOffer = some c) : a.Lengthens c := by
  unfold Station.placeOffer at e
  split at e
  · cases e
  · split at e
    · cases e
    · cases e; exact h.takePend _ _
    · cases e; exact h.takeDamage _
    · split at e
      · cases e; exact h.takePend _ _
      · cases e; exact h.takeDamage _

theorem offerUpTo (k : Nat) : a.Lengthens (Station.offerUpTo k b) := by
  induction k generalizing b with
  | zero => exact h
  | succ k ih =>
    unfold Station.offerUpTo
    split
    · next offered => exact ih (h.placeOffer offered)
    · exact h

theorem offerPlaces : a.Lengthens b.offerPlaces := h.offerUpTo 16

theorem hand (k : Blk) (d : Addr) (m : Body) : a.Lengthens (b.hand k d m) :=
  Station.onlyIf_keeps (P := a.Lengthens) h fun h => by
    have pending : a.Lengthens (b.onLine fun l =>
      { l with
        pend := l.pend ++ [{ made := l.made, blk := k, dest := d, body := m }]
        made := l.made + 1 }) := h.of_grown List.prefix_rfl rfl
    exact pending.offerPlaces

theorem auditComplete : a.Lengthens b.auditComplete := by
  have replied : a.Lengthens (b.auditReply .complete
    (.counts b.audit.checked b.audit.repaired b.audit.mismatched)) := h.hand _ _ _
  exact replied.of_line rfl

theorem suspensionTest : a.Lengthens b.suspensionTest := by
  unfold Station.suspensionTest
  split
  · exact Station.onlyIf_keeps (P := a.Lengthens) h fun h => h.of_line rfl
  · refine Station.onlyIf_keeps (P := a.Lengthens) h fun h => ?_
    split
    · exact h.of_line rfl
    · exact h.auditComplete

theorem pullsChanged : a.Lengthens b.pullsChanged := by
  have lit : a.Lengthens b.relight := h.of_line rfl
  exact lit.suspensionTest

theorem rejoinXfer (e : XferEntry) : a.Lengthens (b.rejoinXfer e) := by
  have fresh : a.Lengthens (b.modifyXfer e.tid fun x => { x with attempts := 0 }) := h.of_line rfl
  have again : a.Lengthens ((b.modifyXfer e.tid fun x => { x with attempts := 0 }).resend e) := by
    unfold Station.resend
    split
    · exact fresh.hand _ _ _
    · exact fresh.hand _ _ _
    · exact fresh
  unfold Station.rejoinXfer
  split
  · exact again
  · exact again
  · exact h

theorem rejoinXfers (es : List XferEntry) : a.Lengthens (es.foldl Station.rejoinXfer b) := by
  induction es generalizing b with
  | nil => exact h
  | cons e es ih => exact ih (h.rejoinXfer e)

end

end Station.Lengthens

/-! ### The first STATUS (R182) -/

/-- The station in JOINED with its beacon timer loaded and its first STATUS in an empty queue. -/
def Station.joinedTold (st : Station) : Station :=
  { st with
    loader := { st.loader with state := .joined, listenTimer := none, joinedFor := 0 }
    line := { st.line with
      beacon := some (ticksOfSec st.cfg.beacon), seq := st.line.seq + 1
      made := st.line.made + 1
      queue := [
        { made := st.line.made, blk := .line, dest := 255, seq := st.line.seq + 1
          body := .status st.statusBody }] } }

theorem Line.offerStatus_first {l : Line} (empty : l.queue = []) (b : Body) :
    l.offerStatus b = { l with
      seq := l.seq + 1
      made := l.made + 1
      queue := [{ made := l.made, blk := .line, dest := 255, seq := l.seq + 1, body := b }] } := by
  have none : l.queue.find? (fun q => q.body.isStatus) = none := by rw [empty]; rfl
  unfold Line.offerStatus
  rw [none]
  dsimp only
  rw [if_pos (by rw [empty]; decide)]
  simp only [Line.appendNew, Line.append, empty, List.nil_append]
  rfl

section
variable {st : Station}

theorem Station.first_status (reported : st.damageReported) (empty : st.line.queue = []) :
    (st.onLoader fun l => { l with state := .joined, listenTimer := none, joinedFor := 0 }).loadBeacon.sendStatus
      = st.joinedTold.select := by
  obtain ⟨x, hx⟩ : ∃ x, x = (st.onLoader fun l =>
    { l with state := .joined, listenTimer := none, joinedFor := 0 }).loadBeacon := ⟨_, rfl⟩
  have read : x.onlyIf (decide (x.cfg.role = .bay)) Station.readAll = x :=
    Station.onlyIf_keeps (P := fun y => y = x) rfl fun _ => Station.readAll_of_reported (by rw [hx]; exact reported)
  have items : x.statusBody = st.statusBody := by
    rw [hx]
    rfl
  have offered : x.onLine (·.offerStatus (.status x.statusBody)) = st.joinedTold := by
    have first := Line.offerStatus_first (l := x.line) (by rw [hx]; exact empty) (.status st.statusBody)
    rw [items]
    unfold Station.onLine
    dsimp only
    rw [first, hx]
    rfl
  unfold Station.sendStatus
  rw [← hx, read]
  dsimp only
  rw [offered]

/-- Entry into JOINED with an empty queue and all damage reported: the first STATUS, the lighting and the
suspension test, what is handed again, the places left. -/
theorem Station.enterJoined_eq (reported : st.damageReported) (empty : st.line.queue = []) :
    let x := st.joinedTold.select.pullsChanged
    st.enterJoined = (x.xfer.entries.foldl Station.rejoinXfer x).offerPlaces := by
  intro x
  have told : x = Station.pullsChanged (Station.sendStatus (Station.loadBeacon (st.onLoader fun l =>
      { l with state := .joined, listenTimer := none, joinedFor := 0 }))) :=
    congrArg Station.pullsChanged (Station.first_status reported empty).symm
  rw [told]
  rfl

/-- The first STATUS stands at the head of the queue. -/
theorem Station.enterJoined_queue (reported : st.damageReported) (empty : st.line.queue = []) :
    st.joinedTold.Lengthens st.enterJoined := by
  rw [Station.enterJoined_eq reported empty]
  exact ((Station.Lengthens.refl _).select.pullsChanged.rejoinXfers _).offerPlaces

theorem Station.enterJoined_loader (reported : st.damageReported) (empty : st.line.queue = []) :
    st.enterJoined.loader = { st.loader with state := .joined, listenTimer := none, joinedFor := 0 } := by
  have outer : st.enterJoined.outer = st.joinedTold.outer := by
    rw [Station.enterJoined_eq reported empty]
    rw [Station.offerPlaces_outer, Station.foldl_outer _ fun s e => s.rejoinXfer_outer e, Station.pullsChanged_outer,
      Station.select_outer]
  exact Station.loader_of_outer outer

/-! ### The transfer table stays -/

/-- Every pending message waits for no reply, so the queue's taking it loads no reply timer (R126). -/
def Line.Untimed (l : Line) : Prop := ∀ p ∈ l.pend, p.body.timedTid = none

theorem Line.select_pend (l : Line) (own : Addr) (order : TxOrder) : (l.select own order).pend = l.pend := by
  unfold Line.select
  split
  · split <;> rfl
  · rfl

theorem Station.select_frame : ∃ line, st.select = { st with line := line } ∧ line.pend = st.line.pend :=
  Station.onlyIf_keeps (P := fun s => ∃ line, s = { st with line := line } ∧ line.pend = st.line.pend)
    ⟨_, rfl, rfl⟩ fun _ => ⟨_, rfl, Line.select_pend _ _ _⟩

theorem Station.join_frame {p : Pend} (untimed : p.body.timedTid = none) :
    ∃ line, st.join p = { st with line := line } ∧ line.pend = st.line.pend := by
  unfold Station.join
  rw [untimed]
  obtain ⟨line, selected, pend⟩ := Station.select_frame (st := st.onLine (·.append p))
  exact ⟨line, selected, pend⟩

/-- A free place that goes to an untimed message leaves the transfer table (R126, R179). -/
theorem Station.placeOffer_xfer {x : Station} (untimed : st.line.Untimed) (h : st.placeOffer = some x) :
    x.xfer = st.xfer ∧ x.line.Untimed := by
  have pending (p : Pend) (rest : List Pend) (waits : st.line.pend = p :: rest) :
      (st.takePend p rest).xfer = st.xfer ∧ (st.takePend p rest).line.Untimed := by
    obtain ⟨line, taken, pend⟩ := Station.join_frame (st := st.onLine fun l => { l with pend := rest })
      (untimed p (waits ▸ List.mem_cons_self))
    unfold Station.takePend
    rw [taken]
    refine ⟨rfl, fun q hq => untimed q ?_⟩
    have there : q ∈ line.pend := hq
    rw [pend] at there
    rw [waits]
    exact List.mem_cons_of_mem _ there
  have damage (d : Nat × Nat) : (st.takeDamage d).xfer = st.xfer ∧ (st.takeDamage d).line.Untimed := by
    obtain ⟨line, taken, pend⟩ := Station.join_frame
      (st := st.modifySlot d.1 fun sl => { sl with damage := .sent })
      (p := { made := d.2, blk := .slotTable, dest := allAddr, body := st.damageAlert d.1 }) rfl
    unfold Station.takeDamage
    rw [taken]
    refine ⟨rfl, fun q hq => untimed q ?_⟩
    exact pend ▸ hq
  unfold Station.placeOffer at h
  split at h
  · cases h
  · split at h
    · cases h
    · next p rest waits _ => cases h; exact pending p rest waits
    · cases h; exact damage _
    · next p rest d waits _ =>
      split at h
      · cases h; exact pending p rest waits
      · cases h; exact damage d

theorem Station.offerUpTo_xfer (k : Nat) (untimed : st.line.Untimed) :
    (Station.offerUpTo k st).xfer = st.xfer := by
  induction k generalizing st with
  | zero => rfl
  | succ k ih =>
    unfold Station.offerUpTo
    split
    · next x offered =>
      obtain ⟨same, still⟩ := Station.placeOffer_xfer untimed offered
      rw [ih still, same]
    · rfl

theorem Station.hand_xfer {b : Body} (untimed : st.line.Untimed) (hb : b.timedTid = none) (k : Blk) (d : Addr) :
    (st.hand k d b).xfer = st.xfer := by
  refine Station.onlyIf_keeps (P := fun s => s.xfer = st.xfer) rfl fun _ => ?_
  refine (Station.offerUpTo_xfer 16 fun p hp => ?_).trans rfl
  obtain old | new := List.mem_append.mp hp
  · exact untimed p old
  · rw [List.mem_singleton.mp new]
    exact hb

theorem Station.suspensionTest_xfer (untimed : st.line.Untimed) : st.suspensionTest.xfer = st.xfer := by
  unfold Station.suspensionTest
  split
  · exact Station.onlyIf_keeps (P := fun s => s.xfer = st.xfer) rfl fun _ => rfl
  · refine Station.onlyIf_keeps (P := fun s => s.xfer = st.xfer) rfl fun _ => ?_
    split
    · rfl
    · exact Station.hand_xfer untimed rfl _ _

/-- With the line busy and nothing pending, entry into JOINED hands again what the table it began with held. -/
theorem Station.enterJoined_busy (reported : st.damageReported) (empty : st.line.queue = [])
    (pend : st.line.pend = []) (busy : st.line.idle = false) :
    st.enterJoined
      = (st.xfer.entries.foldl Station.rejoinXfer st.joinedTold.relight.suspensionTest).offerPlaces := by
  have waits : st.joinedTold.select = st.joinedTold := Station.select_busy busy
  have untimed : st.joinedTold.relight.line.Untimed := by
    intro p hp
    rw [show st.joinedTold.relight.line.pend = st.line.pend from rfl, pend] at hp
    cases hp
  have table : st.joinedTold.relight.suspensionTest.xfer = st.xfer := Station.suspensionTest_xfer untimed
  rw [Station.enterJoined_eq reported empty, waits]
  unfold Station.pullsChanged
  rw [table]

end

/-! ### The OFFERs and ARRIVEs handed again (R146) -/

/-- The message an entry hands again at entry into JOINED, with its receiver. -/
def XferEntry.again (e : XferEntry) : Option (Addr × Body) :=
  match e.state with
  | .offered => some (e.peer, Body.offer e.tid e.cart e.job (if e.direction = .outbound then 0 else 1))
  | .arrived => some (e.peer, Body.arrive e.tid)
  | _ => none

/-- An entry after its message has been handed again and taken by the queue (R126, R146). -/
def XferEntry.rejoined (e : XferEntry) : XferEntry :=
  if e.state = .offered ∨ e.state = .arrived then { e with attempts := 0, reply := some 125000 } else e

/-- An entry beside the transfer `t` whose attempts go back to 0 (R146). -/
def XferEntry.unattempted (t : Tid) (e : XferEntry) : XferEntry :=
  if e.tid = t then { e with attempts := 0 } else e

/-- An entry after the queue has taken the message that times the transfer `t` (R126). -/
def XferEntry.timed (t : Tid) (e : XferEntry) : XferEntry :=
  if e.tid = t ∧ (e.state = .offered ∨ e.state = .arrived) then { e with reply := some (ticksOfSec 1) } else e

theorem XferEntry.again_cases (e : XferEntry) :
    (e.again = none ∧ e.state ≠ .offered ∧ e.state ≠ .arrived) ∨
    ∃ d b, e.again = some (d, b) ∧ b.timedTid = some e.tid ∧ (e.state = .offered ∨ e.state = .arrived) := by
  unfold XferEntry.again
  cases e.state <;> simp [Body.timedTid]

section
variable {st : Station}

theorem Station.rejoinXfer_none {e : XferEntry} (h : e.again = none) : st.rejoinXfer e = st := by
  unfold Station.rejoinXfer
  unfold XferEntry.again at h
  cases hs : e.state <;> simp [hs] at h ⊢

theorem Direction.code_eq (d : Direction) : d.code = if d = .outbound then 0 else 1 := by
  cases d <;> rfl

theorem Station.rejoinXfer_some {e : XferEntry} {d : Addr} {b : Body} (h : e.again = some (d, b)) :
    st.rejoinXfer e = (st.modifyXfer e.tid fun x => { x with attempts := 0 }).hand .transfers d b := by
  unfold Station.rejoinXfer Station.resend Station.sendXfer
  unfold XferEntry.again at h
  cases hs : e.state <;> simp [hs] at h ⊢
  · obtain ⟨rfl, rfl⟩ := h
    exact congrArg (fun c => (st.modifyXfer e.tid fun x => { x with attempts := 0 }).hand .transfers e.peer
      (.offer e.tid e.cart e.job c)) e.direction.code_eq
  · obtain ⟨rfl, rfl⟩ := h
    rfl

/-- No damage report waits, so the free places go to pending messages alone. -/
theorem Station.firstDamage_of_told (told : ∀ sl ∈ st.table.slots, ∀ m, sl.damage ≠ .pending m) :
    st.firstDamage = none := by
  unfold Station.firstDamage
  rw [List.findSome?_eq_none_iff]
  intro p hp
  have quiet := told p.1 (List.fst_mem_of_mem_zipIdx hp)
  cases hd : p.1.damage with
  | pending m => exact absurd hd (quiet m)
  | none => rfl
  | sent => rfl

theorem Station.placeOffer_nothing (pend : st.line.pend = []) (told : st.firstDamage = none) :
    st.placeOffer = none := by
  unfold Station.placeOffer
  rw [pend, told]
  split <;> rfl

theorem Station.offerPlaces_nothing (pend : st.line.pend = []) (told : st.firstDamage = none) :
    st.offerPlaces = st := by
  simp [Station.offerPlaces, Station.offerUpTo, Station.placeOffer_nothing pend told]

theorem Station.offerPlaces_one {x : Station} (first : st.placeOffer = some x) (pend : x.line.pend = [])
    (told : x.firstDamage = none) : st.offerPlaces = x := by
  simp [Station.offerPlaces, Station.offerUpTo, first, Station.placeOffer_nothing pend told]

/-- A message with a reply timer, handed where the queue has room and nothing else waits: it joins, and its timer
is loaded (R126, R178). -/
theorem Station.hand_timed {k : Blk} {d : Addr} {b : Body} {t : Tid} (joined : st.joined = true)
    (pend : st.line.pend = []) (busy : st.line.idle = false) (told : st.firstDamage = none)
    (room : st.line.queue.length < 16) (hb : b.timedTid = some t) :
    st.hand k d b = (st.post k d b).loadReply t := by
  obtain ⟨x, hx⟩ : ∃ x, x = st.onLine fun l =>
    { l with
      pend := l.pend ++ [{ made := l.made, blk := k, dest := d, body := b }]
      made := l.made + 1 } := ⟨_, rfl⟩
  have handed : st.hand k d b = x.offerPlaces := by
    rw [hx]
    exact Station.onlyIf_of_true _ joined
  have waits : x.line.pend = [{ made := st.line.made, blk := k, dest := d, body := b }] := by
    rw [hx]
    simp [pend]
  have open_ : ¬((!x.joined) = true ∨ 16 ≤ x.line.queue.length) := by
    rw [hx]
    rintro (e | e)
    · have : (!st.joined) = true := e
      simp [joined] at this
    · exact absurd e (by exact Nat.not_le.mpr room)
  have reports : x.firstDamage = none := by
    rw [hx]
    exact told
  have taken : x.takePend { made := st.line.made, blk := k, dest := d, body := b } []
      = (st.post k d b).loadReply t := by
    unfold Station.takePend Station.join
    simp only [hb]
    rw [Station.select_busy (by rw [hx]; exact busy), hx]
    simp [Station.post, Line.post, Station.onLine, Line.append, pend]
  have first : x.placeOffer = some ((st.post k d b).loadReply t) := by
    unfold Station.placeOffer
    rw [if_neg open_, waits, reports]
    simp only [taken]
  rw [handed]
  exact Station.offerPlaces_one first pend told

/-- The table and the queue after an entry's message has been handed again. -/
theorem Station.rejoinXfer_step {e : XferEntry} {front rest : List XferEntry} {d : Addr} {b : Body}
    (joined : st.joined = true) (pend : st.line.pend = []) (busy : st.line.idle = false)
    (told : st.firstDamage = none) (room : st.line.queue.length < 16) (h : e.again = some (d, b))
    (table : st.xfer.entries = front ++ e :: rest)
    (others : ∀ x ∈ front ++ rest, x.tid ≠ e.tid) :
    st.rejoinXfer e = { st with
      xfer := { st.xfer with entries := front ++ e.rejoined :: rest, check := 0 }
      line := st.line.post .transfers d b } := by
  have hands : b.timedTid = some e.tid ∧ (e.state = .offered ∨ e.state = .arrived) := by
    obtain ⟨none, -⟩ | ⟨d', b', again, timed, state⟩ := e.again_cases
    · rw [none] at h
      cases h
    · rw [again] at h
      cases h
      exact ⟨timed, state⟩
  obtain ⟨timed, state⟩ := hands
  have handed : st.rejoinXfer e = { st with
      xfer := { st.xfer with
        entries := (st.xfer.entries.map (XferEntry.unattempted e.tid)).map (XferEntry.timed e.tid), check := 0 }
      line := st.line.post .transfers d b } := by
    rw [Station.rejoinXfer_some h]
    exact Station.hand_timed (st := st.modifyXfer e.tid fun x => { x with attempts := 0 })
      joined pend busy told room timed
  have elsewhere : ∀ x : XferEntry, x.tid ≠ e.tid → (x.unattempted e.tid).timed e.tid = x := fun x other => by
    simp [XferEntry.timed, XferEntry.unattempted, other]
  have here : (e.unattempted e.tid).timed e.tid = e.rejoined := by
    simp only [XferEntry.timed, XferEntry.unattempted, XferEntry.rejoined, if_true, true_and, if_pos state]
    rfl
  have kept (l : List XferEntry) (hl : l ⊆ front ++ rest) : 
      l.map (XferEntry.timed e.tid ∘ XferEntry.unattempted e.tid) = l :=
    (List.map_congr_left fun x hx => elsewhere x (others x (hl hx))).trans (List.map_id _)
  rw [handed, List.map_map, table, List.map_append, List.map_cons, kept front (List.subset_append_left _ _),
    kept rest (List.subset_append_right _ _), Function.comp_apply, here]

/-- Every message handed again is taken in the order of the table, and its entry's reply timer loaded (R146). -/
theorem Station.rejoinXfers_resend (joined : st.joined = true) (pend : st.line.pend = [])
    (busy : st.line.idle = false) (told : st.firstDamage = none) (front rest : List XferEntry)
    (room : st.line.queue.length + (rest.filterMap XferEntry.again).length ≤ 16)
    (table : st.xfer.entries = front ++ rest) (distinct : ((front ++ rest).map XferEntry.tid).Nodup) :
    ∃ line, rest.foldl Station.rejoinXfer st = { st with
        xfer := { st.xfer with
          entries := front ++ rest.map XferEntry.rejoined
          check := if rest.filterMap XferEntry.again = [] then st.xfer.check else 0 }
        line := line } ∧
      line.pend = [] ∧ line.queue.map (fun q => (q.dest, q.body))
        = st.line.queue.map (fun q => (q.dest, q.body)) ++ rest.filterMap XferEntry.again := by
  induction rest generalizing st front with
  | nil => exact ⟨st.line, by rw [List.map_nil, ← table]; rfl, pend, (List.append_nil _).symm⟩
  | cons e rest ih =>
    have shifted : (front ++ [e.rejoined]) ++ rest = front ++ e.rejoined :: rest := by simp
    have tid : e.rejoined.tid = e.tid := by
      unfold XferEntry.rejoined
      split <;> rfl
    have distinct' : (((front ++ [e.rejoined]) ++ rest).map XferEntry.tid).Nodup := by
      simpa [tid] using distinct
    rw [List.foldl_cons]
    obtain ⟨silent, offered, arrived⟩ | ⟨d, b, again, -, -⟩ := e.again_cases
    · have same : e.rejoined = e := if_neg (by simp [offered, arrived])
      rw [same] at shifted distinct'
      rw [List.filterMap_cons, silent] at room
      obtain ⟨line, folded, left, queue⟩ := ih joined pend busy told (front ++ [e]) room
        (table.trans shifted.symm) distinct'
      refine ⟨line, ?_, left, ?_⟩
      · rw [Station.rejoinXfer_none silent, folded, List.map_cons, same, List.filterMap_cons, silent,
          List.append_assoc]
        rfl
      · rw [queue, List.filterMap_cons, silent]
    · rw [List.filterMap_cons, again] at room
      have apart : ((e :: (front ++ rest)).map XferEntry.tid).Nodup :=
        (List.perm_middle.map XferEntry.tid).nodup_iff.mp distinct
      have others : ∀ x ∈ front ++ rest, x.tid ≠ e.tid := fun x hx same =>
        (List.nodup_cons.mp apart).1 (List.mem_map.mpr ⟨x, hx, same⟩)
      have step := Station.rejoinXfer_step joined pend busy told (by simp at room; omega) again table others
      obtain ⟨line, folded, left, queue⟩ := ih (st := st.rejoinXfer e) (by rw [step]; exact joined)
        (by rw [step]; exact pend) (by rw [step]; exact busy) (by rw [step]; exact told) (front ++ [e.rejoined])
        (by rw [step]; simp [Line.post] at room ⊢; omega) (by rw [step]; exact shifted.symm) distinct'
      refine ⟨line, ?_, left, ?_⟩
      · rw [folded, step, List.map_cons, List.filterMap_cons, again, List.append_assoc]
        simp
      · rw [queue, step, List.filterMap_cons, again]
        simp [Line.post]

end

/-! ### Entry into JOINED with an idle audit -/

section
variable {st : Station}

theorem Station.joinedTold_lit (idle : st.audit.state = .idle) :
    st.joinedTold.relight.suspensionTest = { st.joinedTold with pulls := st.joinedTold.relight.pulls } :=
  Station.suspensionTest_of_idle idle

/-- With no damage report pending, the queue holds the STATUS and then what is handed again. -/
theorem Station.enterJoined_resends (live : st.live = true) (reported : st.damageReported)
    (empty : st.line.queue = []) (pend : st.line.pend = []) (busy : st.line.idle = false)
    (idle : st.audit.state = .idle) (told : ∀ sl ∈ st.table.slots, ∀ m, sl.damage ≠ .pending m)
    (distinct : (st.xfer.entries.map XferEntry.tid).Nodup)
    (room : (st.xfer.entries.filterMap XferEntry.again).length ≤ 15) :
    ∃ (pulls : PullQueue) (line : Line), st.enterJoined = { st with
        loader := { st.loader with state := .joined, listenTimer := none, joinedFor := 0 }
        pulls := pulls
        xfer := { st.xfer with
          check := if st.xfer.entries.filterMap XferEntry.again = [] then st.xfer.check else 0
          entries := st.xfer.entries.map XferEntry.rejoined }
        line := line } ∧
      line.queue.map (fun q => (q.dest, q.body))
        = (255, Body.status st.statusBody) :: st.xfer.entries.filterMap XferEntry.again := by
  have quiet : st.firstDamage = none := Station.firstDamage_of_told told
  have joined : st.joinedTold.joined = true := Bool.and_eq_true_iff.mpr ⟨live, rfl⟩
  obtain ⟨line, folded, left, queue⟩ := Station.rejoinXfers_resend
    (st := { st.joinedTold with pulls := st.joinedTold.relight.pulls })
    joined pend busy quiet [] st.xfer.entries (by simp [Station.joinedTold]; omega) rfl distinct
  refine ⟨st.joinedTold.relight.pulls, line, ?_, queue⟩
  rw [Station.enterJoined_busy reported empty pend busy, Station.joinedTold_lit idle, folded]
  exact Station.offerPlaces_nothing left quiet

theorem Station.firstDamage_pending {d : Nat × Nat} (h : st.firstDamage = some d) :
    ∃ sl, st.table.slots[d.1]? = some sl ∧ sl.damage = .pending d.2 := by
  unfold Station.firstDamage at h
  obtain ⟨⟨sl, n⟩, listed, found⟩ := List.exists_of_findSome?_eq_some h
  have here := List.mk_mem_zipIdx_iff_getElem?.mp listed
  cases hd : sl.damage with
  | pending m =>
    simp only [hd] at found
    cases found
    exact ⟨sl, here, hd⟩
  | none => simp [hd] at found
  | sent => simp [hd] at found

/-- One slot alone owes a damage report. -/
theorem Station.firstDamage_alone {n m : Nat} {sl : Slot} (here : st.table.slots[n]? = some sl)
    (owed : sl.damage = .pending m)
    (alone : ∀ k sk j, k ≠ n → st.table.slots[k]? = some sk → sk.damage ≠ .pending j) :
    st.firstDamage = some (n, m) := by
  cases first : st.firstDamage with
  | none =>
    unfold Station.firstDamage at first
    have quiet := List.findSome?_eq_none_iff.mp first (sl, n) (List.mk_mem_zipIdx_iff_getElem?.mpr here)
    simp [owed] at quiet
  | some d =>
    obtain ⟨sk, there, pending⟩ := Station.firstDamage_pending first
    by_cases same : d.1 = n
    · rw [same, here] at there
      cases there
      rw [owed] at pending
      cases pending
      rw [← same]
    · exact absurd pending (alone d.1 sk d.2 same there)

/-- A damage report taken with the line busy: the slot's is SENT, and its alert joins (R90). -/
theorem Station.takeDamage_eq {n m : Nat} {sl : Slot} (busy : st.line.idle = false)
    (here : st.table.slots[n]? = some sl) : st.takeDamage (n, m) = { st with
      table := { st.table with slots := st.table.slots.set n { sl with damage := .sent } }
      line := st.line.append
        { made := m, blk := .slotTable, dest := 255
          body := .custodyAlert { kind := 3, slot := some (BitVec.ofNat 8 n)
                                  cart := sl.record.cart.map CartData.id, cart2 := none
                                  tid := none, reason := none } } } := by
  have slots : st.table.slots.modify n (fun sl => { sl with damage := .sent })
      = st.table.slots.set n { sl with damage := .sent } := by
    apply List.ext_getElem?
    intro k
    rw [List.getElem?_modify, List.getElem?_set]
    by_cases hk : n = k
    · subst hk
      rw [if_pos rfl, if_pos (List.getElem?_eq_some_iff.mp here).1, here]
      simp
    · simp [hk]
  have alert : st.damageAlert n = .custodyAlert
      { kind := 3, slot := some (BitVec.ofNat 8 n), cart := sl.record.cart.map CartData.id, cart2 := none
        tid := none, reason := none } := by
    unfold Station.damageAlert
    rw [Station.slot_eq here]
    rfl
  unfold Station.takeDamage
  rw [alert, ← slots]
  exact Station.select_busy busy

/-- With one damage report pending and nothing handed again, the queue holds the STATUS and then the alert. -/
theorem Station.enterJoined_damage {n m : Nat} {sl : Slot} (live : st.live = true) (reported : st.damageReported)
    (empty : st.line.queue = []) (pend : st.line.pend = []) (busy : st.line.idle = false)
    (idle : st.audit.state = .idle) (here : st.table.slots[n]? = some sl) (owed : sl.damage = .pending m)
    (alone : ∀ k sk j, k ≠ n → st.table.slots[k]? = some sk → sk.damage ≠ .pending j)
    (settled : ∀ e ∈ st.xfer.entries, e.state ≠ .offered ∧ e.state ≠ .arrived) :
    st.enterJoined.table.slots = st.table.slots.set n { sl with damage := .sent } ∧
    st.enterJoined.line.queue.map (fun q => (q.dest, q.body)) =
      [(255, Body.status st.statusBody), (255, Body.custodyAlert
        { kind := 3, slot := some (BitVec.ofNat 8 n)
          cart := sl.record.cart.map CartData.id, cart2 := none, tid := none
          reason := none })] := by
  obtain ⟨x, hx⟩ : ∃ x : Station, x = { st.joinedTold with pulls := st.joinedTold.relight.pulls } := ⟨_, rfl⟩
  have unsent : st.xfer.entries.foldl Station.rejoinXfer x = x :=
    List.foldlRecOn (motive := fun y => y = x) _ _ rfl fun y same e he => by
      obtain ⟨none, -⟩ | ⟨_, _, -, -, offers⟩ := e.again_cases
      · rw [Station.rejoinXfer_none none, same]
      · exact absurd offers (not_or.mpr (settled e he))
  have taken : x.placeOffer = some (x.takeDamage (n, m)) := by
    have first : x.firstDamage = some (n, m) := by
      rw [hx]
      exact Station.firstDamage_alone (st := st) here owed alone
    have open_ : ¬((!x.joined) = true ∨ 16 ≤ x.line.queue.length) := by
      have joined : x.joined = true := by
        rw [hx]
        exact Bool.and_eq_true_iff.mpr ⟨live, rfl⟩
      rw [joined, hx]
      simp [Station.joinedTold]
    have waits : x.line.pend = [] := by
      rw [hx]
      exact pend
    unfold Station.placeOffer
    rw [if_neg open_, waits, first]
  have sent := Station.takeDamage_eq (st := x) (n := n) (m := m) (sl := sl) (by rw [hx]; exact busy)
    (by rw [hx]; exact here)
  have entered : st.enterJoined = x.takeDamage (n, m) := by
    rw [Station.enterJoined_busy reported empty pend busy, Station.joinedTold_lit idle, ← hx, unsent]
    refine Station.offerPlaces_one taken (by rw [sent, hx]; exact pend) (Station.firstDamage_of_told ?_)
    rw [sent, hx]
    intro sk listed j owes
    obtain ⟨k, hk⟩ := List.mem_iff_getElem?.mp listed
    rw [List.getElem?_set] at hk
    split at hk
    · split at hk
      · cases hk
        cases owes
      · cases hk
    · next other => exact alone k sk j (Ne.symm other) hk owes
  rw [entered, sent, hx]
  exact ⟨rfl, rfl⟩

end

end Sys2Proof
end

section
/-! The end of SELFTEST and of LISTEN (O56). -/

namespace Sys2Proof

theorem exec_selftestComplete (s : Machine.State) (ok : Bool) : Machine.exec (.selftestComplete ok) s
    = .next (s.put (s.station.onlyIf (s.station.live && decide (s.station.loader.state = .selftest))
      (·.selftested ok))) := rfl

theorem exec_listenEnd (s : Machine.State) : Machine.exec .listenEnd s
    = .next (s.put (s.station.onlyIf (s.station.live && decide (s.station.loader.state = .listen))
      Station.enterJoined)) := rfl

section
variable {s : Machine.State}

theorem exec_selftestComplete_run (ok : Bool) (live : s.station.live = true)
    (state : s.station.loader.state = .selftest) :
    Machine.exec (.selftestComplete ok) s = .next (s.put (s.station.selftested ok)) := by
  rw [exec_selftestComplete, Station.onlyIf_of_true _ (by simp [live, state])]

theorem exec_listenEnd_run (live : s.station.live = true) (state : s.station.loader.state = .listen) :
    Machine.exec .listenEnd s = .next (s.put s.station.enterJoined) := by
  rw [exec_listenEnd, Station.onlyIf_of_true _ (by simp [live, state])]

theorem not_live_and {state : StartState}
    (h : s.station.live = false ∨ s.station.loader.state ≠ state) :
    (s.station.live && decide (s.station.loader.state = state)) = false := by
  rcases h with h | h <;> simp [h]

end

/-- Settles O56: the collections settled and then LISTEN, each unit in its turn; entry into JOINED through what the
queue takes, one message after the other. -/
theorem selftestListenJoined : Obligations.SelftestListenJoined := by
  unfold Obligations.SelftestListenJoined
  refine ⟨⟨?selftest, ?elsewhere, ?joins, ?stays⟩, ?entry⟩
  case selftest =>
    intro s live state fire st lost
    have silent : st.joined = false := by simp [Station.joined, st, state]
    refine ⟨exec_selftestComplete_run false live state, st.selftested true,
      exec_selftestComplete_run true live state, ?_⟩
    obtain ⟨z, slots, es, settled, listening⟩ := Station.selftested_listens silent fire
    obtain ⟨listens, timer, cfg, own, scan, channel, hold, mode, size, bay, hatch, supp, key, unlit, emptied⟩ :=
      Station.selftest_begins settled listening
    refine ⟨listens, timer, cfg, own, scan, channel, hold, mode, size, bay, hatch, supp, key,
      unlit, emptied, ?lost, ?kept⟩
    case lost =>
      exact fun gone => Station.selftest_loses (Station.retentionLost_iff.mpr gone) settled listening
    case kept =>
      intro held
      have kept : ¬st.retentionLost = true := fun gone => held (Station.retentionLost_iff.mp gone)
      obtain ⟨retention, occupancy, expected, counter, entries, lamps, custody⟩ :=
        Station.selftest_keeps kept settled listening
      refine ⟨retention, occupancy, expected, counter, entries, fun role dark distinct n => ?_, custody,
        fun role => Station.selftest_keeps_hatch kept role settled listening, ?_⟩
      · rw [lamps role dark distinct]
        simp only [List.mem_filterMap, Station.lampFor_flashing, Station.lampFor_on, and_self]
      · intro role size unknown filed damaged limited
        obtain ⟨pulls, left, slot⟩ :=
          Station.selftest_keeps_bay kept role settled listening size unknown filed
        refine ⟨pulls.trans left, fun n sl here => ?_⟩
        obtain ⟨number, there⟩ := slot n sl here
        rw [pulls]
        exact ⟨_, there, Slot.started_unplanned st.cfg.expoLimit number es (unknown sl (List.mem_of_getElem? here))⟩
  case elsewhere =>
    intro s away ok
    rw [exec_selftestComplete, Station.onlyIf_of_false _ (not_live_and away)]
    rfl
  case stays =>
    intro s away
    rw [exec_listenEnd, Station.onlyIf_of_false _ (not_live_and away)]
    rfl
  case joins =>
    intro s live state reported empty pend
    obtain ⟨⟨rest, queue⟩, beacon⟩ := Station.enterJoined_queue reported empty
    have loader : s.station.enterJoined.loader = _ := Station.enterJoined_loader reported empty
    exact ⟨s.station.enterJoined, _, rest, exec_listenEnd_run live state, by rw [loader], by rw [loader],
      beacon, queue.symm, rfl, rfl, rfl⟩
  case entry =>
    intro s live state reported st run reset again told empty pend busy
    have ends : run = .next (s.put st.enterJoined) := exec_listenEnd_run live state
    have agains : again = Station.rejoinXfer := by
      funext x e
      dsimp only [again, reset]
      unfold Station.rejoinXfer Station.resend
      cases e.state
      case offered =>
        exact congrArg (fun c => (x.modifyXfer e.tid fun y => { y with attempts := 0 }).hand .transfers e.peer
          (.offer e.tid e.cart e.job c)) e.direction.code_eq.symm
      all_goals rfl
    have resends : (fun e : XferEntry => match e.state with
      | .offered => some (e.peer, Body.offer e.tid e.cart e.job (if e.direction = .outbound then 0 else 1))
      | .arrived => some (e.peer, Body.arrive e.tid)
      | _ => none) = XferEntry.again := by
      funext e
      unfold XferEntry.again
      cases e.state <;> rfl
    refine ⟨?_, ?_, ?_⟩
    · rw [ends, agains]
      exact s.next_put (Station.enterJoined_busy reported empty pend busy)
    · intro idle quiet distinct resent room
      obtain ⟨pulls, line, entered, queue⟩ := Station.enterJoined_resends live reported empty pend busy idle
        quiet distinct (by rw [← resends]; exact room)
      rw [← resends] at entered queue
      exact ⟨pulls, line, ends.trans (s.next_put entered), queue⟩
    · intro n m sl idle here owed alone settled
      exact ⟨st.enterJoined, ends,
        Station.enterJoined_damage live reported empty pend busy idle here owed alone settled⟩

end Sys2Proof
end

section
/-! SUPPORT. The door unit (Chapter 5): badge reads, the unlock pulse, OCCUPANCY-CLEAR and the emptying. -/

namespace Sys2Proof

theorem exec_attendantRead (cls : TagClass) (id : Cart) (s : Machine.State) :
    Machine.exec (.attendantRead cls id) s
      = .next (s.put (s.station.onlyIf (s.station.bay && decide (cls = .attendant)) (·.badgeRead id))) := rfl

theorem exec_doorUnlockExpiry (s : Machine.State) :
    Machine.exec .doorUnlockExpiry s
      = .next (s.put (s.station.onlyIf s.station.bay (·.onDoor Door.unlockExpired))) := rfl

theorem exec_occupancyClear (src : Addr) (seq : Byte) (s : Machine.State) :
    Machine.exec (.occupancyClear src seq) s
      = .next (s.put (Station.fromConsole src (Station.takeOccupancyClear src seq) s.station)) := rfl

/-! ### The unlock pulse (R79) -/

theorem Door.unlockExpired_running {d : Door} (h : d.unlock.isSome) :
    d.unlockExpired = { d with output := false, unlock := none } := if_pos h

theorem Door.unlockExpired_stopped {d : Door} (h : d.unlock = none) : d.unlockExpired = d :=
  if_neg (by simp [h])

section
variable {st : Station}

/-! ### Badge reads (R78) -/

/-- A read by one on the list: the id leaves it, and an empty list brings the emptying. -/
theorem Station.badgeRead_leaves {id : Cart} (inside : id ∈ st.door.occupancy) :
    st.badgeRead id = (st.setOccupancy (st.door.occupancy.erase id)).unlockPulse.onlyIf
      (st.door.occupancy.erase id).isEmpty Station.bayEmptied :=
  if_pos (List.contains_iff_mem.mpr inside)

/-- A read by one not on the list: refused in a confirmed state and by a full list, else an entry. -/
theorem Station.badgeRead_enters {id : Cart} (outside : id ∉ st.door.occupancy) :
    st.badgeRead id =
      if st.confirmed = true ∨ 8 ≤ st.door.occupancy.length then st
      else (st.setOccupancy (st.door.occupancy ++ [id])).unlockPulse := by
  unfold Station.badgeRead
  rw [if_neg (mt List.contains_iff_mem.mp outside)]
  by_cases confirmed : st.confirmed = true <;> simp [confirmed]

/-! ### OCCUPANCY-CLEAR (R81) -/

section
variable (src : Addr) (seq : Byte)

/-- The table of R81, the answers written out. -/
theorem Station.takeOccupancyClear_eq (st : Station) :
    st.takeOccupancyClear src seq =
      if st.cfg.role = .hatch then st.reply .door src 20 seq .role
      else if !st.joined then st.reply .door src 20 seq .notReady
      else if st.isSealed then st.reply .door src 20 seq .sealed
      else if st.door.occupancy.isEmpty then st.reply .door src 20 seq .done
      else (st.setOccupancy []).bayEmptied.reply .door src 20 seq .done := rfl

theorem Station.takeOccupancyClear_away (away : st.joined = false) :
    st.takeOccupancyClear src seq = st := by
  rw [Station.takeOccupancyClear_eq, if_pos (by simp [away] : (!st.joined) = true)]
  simp only [Station.reply_not_joined away, ite_self]

/-- The rows of R81 that a JOINED BAY can take. -/
theorem Station.takeOccupancyClear_bay (joined : st.joined = true) (bay : st.cfg.role = .bay) :
    st.takeOccupancyClear src seq =
      if st.supp.fire = .soak ∨ st.supp.fire = .vent then st.reply .door src 20 seq .sealed
      else if st.door.occupancy = [] then st.reply .door src 20 seq .done
      else (st.setOccupancy []).bayEmptied.reply .door src 20 seq .done := by
  rw [Station.takeOccupancyClear_eq, if_neg (by simp [bay]), if_neg (by simp [joined])]
  simp only [Station.isSealed, FireState.isSealed_iff, List.isEmpty_iff]

end

/-! ### The emptying (R80, R82) -/

/-- R62: the emptying in EVACUATE, with the hold switch open. -/
theorem Station.occupancyEmptied_counts (evacuating : st.supp.fire = .evacuate)
    (opened : st.supp.holdClosed = false) : st.occupancyEmptied = st.countedWithin := by
  have confirmed : st.confirmed = true := congrArg FireState.confirmed evacuating
  unfold Station.occupancyEmptied
  rw [Station.onlyIf_of_true _ (decide_eq_true evacuating), Station.enterCountdown_within confirmed,
    Station.onlyIf_of_false _ opened]

theorem Station.occupancyEmptied_elsewhere (h : st.supp.fire ≠ .evacuate) : st.occupancyEmptied = st :=
  Station.onlyIf_of_false _ (decide_eq_false h)

theorem Station.pullFor_isSome_iff (c : Cart) :
    (st.pullFor c).isSome ↔ ∃ e ∈ st.pulls.entries, e.cart = c := by
  simp [Station.pullFor, List.find?_isSome]

section
variable {n : Nat} (sound : (st.table.slot n).difference = 0)
include sound

theorem Station.noticeDamage_of_sound_slot : st.noticeDamage n = st := by
  simp [Station.noticeDamage, Slot.sound, sound]

/-- The examination of a sound record in OUT. -/
theorem Station.emptyBayCheck_out {c : CartData} {u : Bool} (out : (st.table.slot n).record = .out c u) :
    st.emptyBayCheck n = st.onlyIf (u || (st.pullFor c.id).isSome)
      (·.handAlert .door (alertBody .unscannedExit (some n) (some c.id))) := by
  have seen : (st.table.slot n).view = .out c u :=
    (Slot.view_of_sound sound (by simp [out])).trans out
  unfold Station.emptyBayCheck
  simp only [Station.noticeDamage_of_sound_slot sound, seen]

/-- The examination looks at records in OUT alone. -/
theorem Station.emptyBayCheck_other (other : ∀ c u, (st.table.slot n).record ≠ .out c u) :
    st.emptyBayCheck n = st := by
  have seen (c : CartData) (u : Bool) : (st.table.slot n).view ≠ .out c u := by
    unfold Slot.view
    split
    · split
      · simp
      · exact other c u
    · simp
  unfold Station.emptyBayCheck
  rw [Station.noticeDamage_of_sound_slot sound]
  dsimp only
  split
  · next view => exact absurd view (seen _ _)
  · rfl

end

end

/-- Settles O20: a read by one on the list and by one not on it, then the two readings of the unlock timer. -/
theorem badgeReadAndUnlock : Obligations.BadgeReadAndUnlock := by
  refine ⟨fun s cls id bay => ?_, fun s bay => ⟨fun runs => ?_, fun stopped => ?_⟩⟩
  · intro door ids
    have reads (attendant : cls = .attendant) :
        Machine.exec (.attendantRead cls id) s = .next (s.put (s.station.badgeRead id)) := by
      rw [exec_attendantRead, Station.onlyIf_of_true _ (by simp [bay, attendant])]
    refine ⟨fun other => ?_, fun attendant =>
      ⟨fun inside stay => ?_, fun inside last => ?_, fun outside refused => ?_,
        fun outside unconfirmed room => ?_⟩⟩
    · rw [exec_attendantRead, Station.onlyIf_of_false _ (by simp [other]), Machine.State.put_station_self]
    · rw [reads attendant, Station.badgeRead_leaves inside,
        Station.onlyIf_of_false _ (List.isEmpty_eq_false_iff.mpr stay)]
      rfl
    · rw [reads attendant, Station.badgeRead_leaves inside,
        Station.onlyIf_of_true _ (List.isEmpty_iff.mpr last), last]
      rfl
    · rw [reads attendant, Station.badgeRead_enters outside, if_pos refused, Machine.State.put_station_self]
    · rw [reads attendant, Station.badgeRead_enters outside,
        if_neg (not_or.mpr ⟨by simp [unconfirmed], Nat.not_le.mpr room⟩)]
      rfl
  · rw [exec_doorUnlockExpiry, Station.onlyIf_of_true _ bay, Station.onDoor, Door.unlockExpired_running runs]
  · rw [exec_doorUnlockExpiry, Station.onlyIf_of_true _ bay, Station.onDoor, Door.unlockExpired_stopped stopped,
      Machine.State.put_station_self]

/-- Settles O21: the rows of R81 in order; then the report to the suppression controller, and the examination of
one sound slot. -/
theorem occupancyClearAndEmptying : Obligations.OccupancyClearAndEmptying := by
  refine ⟨fun s src seq heard => ?_, fun st => ⟨fun elsewhere => ?_, fun evacuating opened => ?_⟩,
    fun st n sound => ⟨fun c u out counts => ?_, fun unowed => ?_⟩⟩
  · intro answer isSealed cleared
    have acts : Machine.exec (.occupancyClear src seq) s
        = .next (s.put (Station.takeOccupancyClear src seq s.station)) := by
      rw [exec_occupancyClear, Station.fromConsole_heard _ heard]
    rw [acts]
    refine ⟨fun away => ?_, fun joined => ⟨fun hatch => ?_, fun bay shut => ?_, fun bay free empty => ?_,
      fun bay free inside => ?_⟩⟩
    · exact s.next_put (Station.takeOccupancyClear_away src seq away)
    · exact s.next_put ((Station.takeOccupancyClear_eq src seq s.station).trans (if_pos hatch))
    · exact s.next_put ((Station.takeOccupancyClear_bay src seq joined bay).trans (if_pos shut))
    · refine s.next_put ((Station.takeOccupancyClear_bay src seq joined bay).trans ?_)
      rw [if_neg free, if_pos empty]
    · refine s.next_put ((Station.takeOccupancyClear_bay src seq joined bay).trans ?_)
      rw [if_neg free, if_neg inside]
      rfl
  · unfold Station.bayEmptied
    rw [Station.occupancyEmptied_elsewhere elsewhere]
  · unfold Station.bayEmptied
    rw [Station.occupancyEmptied_counts evacuating opened]
    rfl
  · have alerted : (u || (st.pullFor c.id).isSome) = true := by
      rw [Bool.or_eq_true, Station.pullFor_isSome_iff]
      exact counts
    rw [Station.emptyBayCheck_out sound out, Station.onlyIf_of_true _ alerted]
    rfl
  · by_cases out : ∃ c u, (st.table.slot n).record = .out c u
    · obtain ⟨c, u, out⟩ := out
      obtain ⟨planned, unpulled⟩ := unowed c u out
      have silent : (u || (st.pullFor c.id).isSome) = false :=
        Bool.or_eq_false_iff.mpr ⟨planned, Bool.eq_false_iff.mpr fun queued => by
          obtain ⟨e, here, same⟩ := (Station.pullFor_isSome_iff c.id).mp queued
          exact unpulled e here same⟩
      rw [Station.emptyBayCheck_out sound out, Station.onlyIf_of_false _ silent]
    · exact Station.emptyBayCheck_other sound fun c u h => out ⟨c, u, h⟩

end Sys2Proof
end

section
/-! SUPPORT. The transmit queue (R178 to R180, R182): a message selected, joining, replacing and displacing, and
the beacon's STATUS. -/

namespace Sys2Proof

theorem exec_beaconExpiry (s : Machine.State) :
    Machine.exec .beaconExpiry s
      = .next (s.put (s.station.onlyIf s.station.joined Station.beaconExpired)) := rfl

/-! ### The selection (R180 steps 1 and 2) -/

/-- A message may be selected: the line is idle, no attempt is under way, and in LINE-FAULT an expiry permits it. -/
@[reducible] def Line.MaySelect (l : Line) : Prop :=
  l.idle = true ∧ l.attempt = .none ∧ (l.state = .normal ∨ l.permit = true)

section
variable {l : Line} {own : Addr} {order : TxOrder}

/-- The guard of `Line.select`. -/
theorem Line.select_guard_iff :
    (l.idle && decide (l.attempt = .none) && (decide (l.state = .normal) || l.permit)) = true ↔ l.MaySelect := by
  simp [Line.MaySelect, and_assoc]

theorem Line.select_of_not (h : ¬l.MaySelect) : l.select own order = l :=
  if_neg (mt Line.select_guard_iff.mp h)

theorem Line.select_some {q : QMsg} (h : l.MaySelect) (next : l.choose order = some q) :
    l.select own order = { l with
      attempt := .waiting q.made (accessDelay own q.body.group l.backoff), permit := false } := by
  unfold Line.select
  rw [if_pos (Line.select_guard_iff.mpr h), next]

theorem Line.select_none (h : l.MaySelect) (empty : l.choose order = none) : l.select own order = l := by
  unfold Line.select
  rw [if_pos (Line.select_guard_iff.mpr h), empty]

end

/-! ### The queue of the line interface alone -/

section
variable {l : Line} {front rest : List QMsg} {q : QMsg}

theorem Line.stopAttempt_eq (l : Line) (m : Nat) :
    l.stopAttempt m = { l with
      attempt := if l.attempt.message = some m then .none else l.attempt
      backoff := if l.attempt.message = some m then false else l.backoff } := by
  unfold Line.stopAttempt
  split <;> rfl

/-- A new message in the place of one that leaves: its attempt stops, and the rest of the queue stays. -/
theorem Line.remove_appendNew (queued : l.queue = front ++ q :: rest)
    (alone : ∀ x ∈ front ++ rest, x.made ≠ q.made) (k : Blk) (b : Body) :
    (l.remove q.made).appendNew k b = { l with
      queue := front ++ rest ++ [{ made := l.made, blk := k, dest := 255, seq := l.seq + 1, body := b }]
      seq := l.seq + 1
      made := l.made + 1
      attempt := if l.attempt.message = some q.made then .none else l.attempt
      backoff := if l.attempt.message = some q.made then false else l.backoff } := by
  have stays (xs : List QMsg) (h : ∀ x ∈ xs, x.made ≠ q.made) :
      xs.filter (fun x => decide (x.made ≠ q.made)) = xs :=
    List.filter_eq_self.mpr fun x hx => decide_eq_true (h x hx)
  have left : l.queue.filter (fun x => decide (x.made ≠ q.made)) = front ++ rest := by
    rw [queued, List.filter_append, List.filter_cons_of_neg (by simp),
      stays front fun x hx => alone x (List.mem_append_left _ hx),
      stays rest fun x hx => alone x (List.mem_append_right _ hx)]
  unfold Line.remove
  rw [left, Line.stopAttempt_eq]
  rfl

/-- The search of the queue stops at the first message that meets the test. -/
theorem Line.find_first {p : QMsg → Bool} (queued : l.queue = front ++ q :: rest) (here : p q = true)
    (before : ∀ x ∈ front, p x = false) : l.queue.find? p = some q :=
  List.find?_eq_some_iff_append.mpr ⟨here, front, rest, queued, fun x hx => by simp [before x hx]⟩

/-- The newest queued message of a group. -/
theorem Line.newest_eq {g : Group} (queued : l.queue = front ++ q :: rest) (here : q.body.group = g)
    (after : ∀ x ∈ rest, x.body.group ≠ g) : l.newest g = some q :=
  List.find?_eq_some_iff_append.mpr ⟨decide_eq_true here, rest.reverse, front.reverse, by simp [queued],
    fun x hx => by simp [after x (List.mem_reverse.mp hx)]⟩

theorem Line.newest_none {g : Group} (other : ∀ x ∈ l.queue, x.body.group ≠ g) : l.newest g = none :=
  List.find?_eq_none.mpr fun x hx => by simp [other x (List.mem_reverse.mp hx)]

/-- STATUS is the one kind of the ROUTINE group. -/
theorem Body.group_routine_iff (b : Body) : b.group = .routine ↔ b.isStatus = true := by
  cases b <;> simp [Body.group, Body.isStatus]

theorem Body.group_ne_routine {b : Body} (h : b.isStatus = false) : b.group ≠ .routine := by
  rw [Ne, Body.group_routine_iff, h]
  exact Bool.false_ne_true

/-! ### A FIRE message offered (R178, R179) -/

/-- A FIRE-REPORT replaces the one that is queued. -/
theorem Line.offerFire_replaces {b : Body} (queued : l.queue = front ++ q :: rest) (report : b.isFireReport = true)
    (old : q.body.isFireReport = true) (first : ∀ x ∈ front, x.body.isFireReport = false) :
    l.offerFire b = (l.remove q.made).appendNew .suppression b := by
  unfold Line.offerFire
  rw [Line.find_first queued (by simp [report, old]) fun x hx => by simp [first x hx]]

section
variable {b : Body} (fresh : b.isFireReport = true → ∀ x ∈ l.queue, x.body.isFireReport = false)
include fresh

/-- A FIRE message other than a FIRE-REPORT, or with none of these queued, replaces no message. -/
theorem Line.no_report_to_replace : l.queue.find? (fun x => b.isFireReport && x.body.isFireReport) = none :=
  List.find?_eq_none.mpr fun x hx => by
    rw [Bool.and_eq_true]
    exact fun ⟨report, old⟩ => Bool.false_ne_true ((fresh report x hx).symm.trans old)

theorem Line.offerFire_joins (room : l.queue.length < 16) : l.offerFire b = l.appendNew .suppression b := by
  unfold Line.offerFire
  rw [Line.no_report_to_replace fresh]
  exact if_pos room

theorem Line.offerFire_displaces (full : l.queue.length = 16) (gone : l.displaced = some q) :
    l.offerFire b = (l.displace q).appendNew .suppression b := by
  unfold Line.offerFire
  rw [Line.no_report_to_replace fresh, gone]
  exact if_neg (by omega)

end

/-- The newest ROUTINE message is the one displaced. -/
theorem Line.displaced_routine (queued : l.queue = front ++ q :: rest) (status : q.body.isStatus = true)
    (newest : ∀ x ∈ rest, x.body.isStatus = false) : l.displaced = some q := by
  unfold Line.displaced
  rw [Line.newest_eq queued ((Body.group_routine_iff _).mpr status)
    fun x hx => Body.group_ne_routine (newest x hx), Option.some_or]

/-- With no ROUTINE message queued, the newest CUSTODY message is the one displaced. -/
theorem Line.displaced_custody (queued : l.queue = front ++ q :: rest) (custody : q.body.group = .custody)
    (newest : ∀ x ∈ rest, x.body.group ≠ .custody) (no_status : ∀ x ∈ l.queue, x.body.isStatus = false) :
    l.displaced = some q := by
  unfold Line.displaced
  rw [Line.newest_none fun x hx => Body.group_ne_routine (no_status x hx), Option.none_or,
    Line.newest_eq queued custody newest]

/-- A displaced CUSTODY message is pending again ahead of all others, beside what the new message does. -/
theorem Line.displace_custody_appendNew (custody : q.body.group = .custody) (k : Blk) (b : Body) :
    (l.displace q).appendNew k b = { (l.remove q.made).appendNew k b with
      pend := { made := q.made, blk := q.blk, dest := q.dest, body := q.body, again := true } :: l.pend } := by
  unfold Line.displace
  dsimp only
  rw [if_pos custody, Line.remove, Line.stopAttempt_eq]
  rfl

theorem Line.displace_other (other : q.body.group ≠ .custody) : l.displace q = l.remove q.made := by
  unfold Line.displace
  dsimp only
  rw [if_neg other]

/-! ### A STATUS offered (R178, R182) -/

theorem Line.offerStatus_replaces (b : Body) (queued : l.queue = front ++ q :: rest)
    (old : q.body.isStatus = true) (first : ∀ x ∈ front, x.body.isStatus = false) :
    l.offerStatus b = (l.remove q.made).appendNew .line b := by
  unfold Line.offerStatus
  rw [Line.find_first queued old first]

section
variable (b : Body) (fresh : ∀ x ∈ l.queue, x.body.isStatus = false)
include fresh

theorem Line.no_status_to_replace : l.queue.find? (fun x => x.body.isStatus) = none :=
  List.find?_eq_none.mpr fun x hx => by simp [fresh x hx]

theorem Line.offerStatus_joins (room : l.queue.length < 16) : l.offerStatus b = l.appendNew .line b := by
  unfold Line.offerStatus
  rw [Line.no_status_to_replace fresh]
  exact if_pos room

theorem Line.offerStatus_dropped (full : 16 ≤ l.queue.length) : l.offerStatus b = l := by
  unfold Line.offerStatus
  rw [Line.no_status_to_replace fresh]
  exact if_neg (Nat.not_lt.mpr full)

end

end

/-! ### A message joins (R126, R178) -/

/-- The reply timers after the queue has taken a message: that of the entry whose OFFER or ARRIVE it is runs. -/
def Transfers.timed (x : Transfers) (b : Body) : Transfers :=
  match b.timedTid with
  | some t => { x with
      entries := x.entries.map fun e =>
        if e.tid = t ∧ (e.state = .offered ∨ e.state = .arrived) then { e with reply := some 125000 } else e }
  | none => x

section
variable {st : Station}

theorem Station.select_of_joined (joined : st.joined = true) :
    st.select = { st with line := st.line.select st.loader.own st.cfg.txOrder } :=
  Station.onlyIf_of_true _ joined

theorem Station.join_eq (joined : st.joined = true) (p : Pend) :
    st.join p = { st with
      xfer := st.xfer.timed p.body
      line := (st.line.append p).select st.loader.own st.cfg.txOrder } := by
  unfold Station.join Transfers.timed
  cases p.body.timedTid <;> exact Station.select_of_joined joined

/-- The queue has taken the first pending message. -/
theorem Station.takePend_eq (joined : st.joined = true) (p : Pend) (rest : List Pend) :
    st.takePend p rest = { st with
      xfer := st.xfer.timed p.body
      line := ({ st.line with pend := rest }.append p).select st.loader.own st.cfg.txOrder } :=
  Station.join_eq (st := st.onLine fun l => { l with pend := rest }) joined p

/-! ### Places offered (R179) -/

theorem Station.placeOffer_full (full : 16 ≤ st.line.queue.length) : st.placeOffer = none := by
  unfold Station.placeOffer
  rw [if_pos (.inr full)]

theorem Station.offerPlaces_full (full : 16 ≤ st.line.queue.length) : st.offerPlaces = st := by
  simp [Station.offerPlaces, Station.offerUpTo, Station.placeOffer_full full]

/-- The last place taken. -/
theorem Station.offerPlaces_last {x : Station} (first : st.placeOffer = some x)
    (full : 16 ≤ x.line.queue.length) : st.offerPlaces = x := by
  simp [Station.offerPlaces, Station.offerUpTo, first, Station.placeOffer_full full]

/-- A place goes to the first pending message where it was displaced or no damage report was made earlier. -/
theorem Station.placeOffer_pending {p : Pend} {rest : List Pend} (joined : st.joined = true)
    (room : st.line.queue.length < 16) (pend : st.line.pend = p :: rest)
    (earliest : p.again = true ∨ ∀ sl ∈ st.table.slots, ∀ m, sl.damage = .pending m → p.made ≤ m) :
    st.placeOffer = some (st.takePend p rest) := by
  unfold Station.placeOffer
  rw [if_neg (by simp [joined, room]), pend]
  cases damage : st.firstDamage with
  | none => rfl
  | some d =>
    obtain ⟨sl, here, report⟩ := Station.firstDamage_pending damage
    have goes : (p.again || decide (p.made ≤ d.2)) = true := by
      rw [Bool.or_eq_true, decide_eq_true_iff]
      exact earliest.imp_right fun h => h sl (List.mem_of_getElem? here) d.2 report
    exact if_pos goes

/-- R179: what is handed to an empty pending list with room in the queue is taken at once. -/
theorem Station.hand_taken (k : Blk) (d : Addr) (b : Body) (joined : st.joined = true)
    (pend : st.line.pend = []) (told : ∀ sl ∈ st.table.slots, ∀ m, sl.damage ≠ .pending m)
    (room : st.line.queue.length < 16) :
    st.hand k d b = { st with
      xfer := st.xfer.timed b
      line := (st.line.post k d b).select st.loader.own st.cfg.txOrder } := by
  obtain ⟨x, hx⟩ : ∃ x : Station, x = { st with line := { st.line with
    pend := [{ made := st.line.made, blk := k, dest := d, body := b }], made := st.line.made + 1 } } := ⟨_, rfl⟩
  have handed : st.hand k d b = x.offerPlaces := by
    unfold Station.hand
    rw [Station.onlyIf_of_true _ joined, hx, Station.onLine, pend]
    rfl
  have xjoined : x.joined = true := hx ▸ joined
  have taken : x.takePend { made := st.line.made, blk := k, dest := d, body := b } [] = { st with
      xfer := st.xfer.timed b
      line := (st.line.post k d b).select st.loader.own st.cfg.txOrder } := by
    have posted : { x.line with pend := [] }.append { made := st.line.made, blk := k, dest := d, body := b }
        = st.line.post k d b := by
      rw [hx, Line.post, ← pend]
      rfl
    rw [Station.takePend_eq xjoined, posted, hx]
    rfl
  have first := Station.placeOffer_pending (st := x) xjoined (by rw [hx]; exact room) (by rw [hx])
    (.inr fun sl here m report => absurd report (told sl (by rw [hx] at here; exact here) m))
  rw [taken] at first
  rw [handed]
  refine Station.offerPlaces_one first ?_ (Station.firstDamage_of_told told)
  exact (Line.select_pend _ _ _).trans pend

/-- R179: what is handed to a full queue stays pending. -/
theorem Station.hand_full (k : Blk) (d : Addr) (b : Body) (joined : st.joined = true)
    (full : 16 ≤ st.line.queue.length) :
    st.hand k d b = { st with line := { st.line with
      made := st.line.made + 1
      pend := st.line.pend ++ [{ made := st.line.made, blk := k, dest := d, body := b }] } } := by
  unfold Station.hand
  rw [Station.onlyIf_of_true _ joined]
  exact Station.offerPlaces_full full

theorem Station.handFire_not_joined (away : st.joined = false) (b : Body) : st.handFire b = st :=
  Station.onlyIf_of_false _ away

theorem Station.handFire_of_joined (joined : st.joined = true) (b : Body) :
    st.handFire b = { st with line := (st.line.offerFire b).select st.loader.own st.cfg.txOrder } :=
  (Station.onlyIf_of_true _ joined).trans (Station.select_of_joined joined)

/-- A pending message that takes the last place. -/
theorem Station.offerPlaces_pending {p : Pend} {rest : List Pend} (joined : st.joined = true)
    (last : st.line.queue.length = 15) (pend : st.line.pend = p :: rest)
    (earliest : p.again = true ∨ ∀ sl ∈ st.table.slots, ∀ m, sl.damage = .pending m → p.made ≤ m) :
    st.offerPlaces = { st with
      xfer := st.xfer.timed p.body
      line := ({ st.line with pend := rest }.append p).select st.loader.own st.cfg.txOrder } := by
  rw [← Station.takePend_eq joined p rest]
  refine Station.offerPlaces_last (Station.placeOffer_pending joined (by omega) pend earliest) ?_
  rw [Station.takePend_eq joined, Line.select_queue]
  simp [Line.append, last]

/-! ### The beacon (R182) -/

theorem Station.sendStatus_of_read (read : st.onlyIf (decide (st.cfg.role = .bay)) Station.readAll = st) :
    st.sendStatus = (st.onLine (·.offerStatus (.status st.statusBody))).select := by
  unfold Station.sendStatus
  rw [read]

/-- The beacon timer's expiry: a STATUS of the station as it stands is offered, where no read finds damage. -/
theorem Station.beaconExpired_eq (joined : st.joined = true) (runs : st.line.beacon.isSome)
    (reported : st.cfg.role = .bay → st.damageReported) :
    st.beaconExpired = { st with
      line := (st.loadBeacon.line.offerStatus (.status st.statusBody)).select st.loader.own st.cfg.txOrder } := by
  have read : st.loadBeacon.onlyIf (decide (st.cfg.role = .bay)) Station.readAll = st.loadBeacon := by
    by_cases bay : st.cfg.role = .bay
    · rw [Station.onlyIf_of_true _ (decide_eq_true bay)]
      exact Station.readAll_of_reported (reported bay)
    · exact Station.onlyIf_of_false _ (decide_eq_false bay)
  unfold Station.beaconExpired
  rw [Station.onlyIf_of_true _ runs, Station.sendStatus_of_read read]
  exact Station.select_of_joined joined

/-! ### The bound of pending alerts (R83, R95) -/

theorem Station.handAlert_eq (k : Blk) (a : AlertBody) :
    st.handAlert k a =
      if (st.line.pend.filter (·.isAlertOf k)).length < 256 then st.hand k 255 (.custodyAlert a) else st := by
  unfold Station.handAlert Station.onlyIf
  simp only [decide_eq_true_iff]
  rfl

end

/-- Settles O49: the selection as the statement writes it is `Line.select`; each part is then the queue's own
rule followed by it. -/
theorem queueTakesMessages : Obligations.QueueTakesMessages := by
  unfold Obligations.QueueTakesMessages
  intro chosen timed
  have selects : chosen = fun st l => l.select st.loader.own st.cfg.txOrder := by
    funext st l
    by_cases may : l.MaySelect
    · refine (if_pos may).trans ?_
      cases next : l.choose st.cfg.txOrder with
      | none => exact (Line.select_none may next).symm
      | some q =>
        rw [Line.select_some may next, accessDelay]
        dsimp only
        cases q.body.group <;> rfl
    · exact (if_neg may).trans (Line.select_of_not may).symm
  have times : timed = Transfers.timed := rfl
  clear_value chosen timed
  subst selects times
  refine ⟨fun st k dest b => ⟨fun away => ?_, fun quiet untimed => ?_, fun joined pend told room => ?_,
    fun joined full => ?_⟩, fun st front rest q b joined queued alone fire => ?_,
    fun st b joined room fresh => ?_, fun st p rest joined last pend earliest => ?_, fun s joined reported => ?_⟩
  · exact ⟨Station.hand_not_joined away k dest b, Station.handFire_not_joined away b⟩
  · exact Station.hand_quiet quiet untimed
  · exact Station.hand_taken k dest b joined pend told room
  · exact Station.hand_full k dest b joined full
  · have swapped := Line.remove_appendNew queued alone .suppression b
    refine ⟨fun report old first => ?_, fun full fresh =>
      ⟨fun status newest => ?_, fun custody newest no_status => ?_⟩⟩
    · rw [Station.handFire_of_joined joined, Line.offerFire_replaces queued report old first, swapped]
    · have other : q.body.group ≠ .custody := by
        rw [(Body.group_routine_iff _).mpr status]
        decide
      rw [Station.handFire_of_joined joined,
        Line.offerFire_displaces fresh full (Line.displaced_routine queued status newest),
        Line.displace_other other, swapped]
    · rw [Station.handFire_of_joined joined,
        Line.offerFire_displaces fresh full (Line.displaced_custody queued custody newest no_status),
        Line.displace_custody_appendNew custody, swapped]
  · rw [Station.handFire_of_joined joined, Line.offerFire_joins fresh room]
    rfl
  · exact Station.offerPlaces_pending joined last pend earliest
  · intro st l run beacon new
    have expires (runs : l.beacon.isSome) {told : Line}
        (offered : st.loadBeacon.line.offerStatus (.status st.statusBody) = told) :
        run = .next (s.put { st with line := told.select st.loader.own st.cfg.txOrder }) := by
      refine (exec_beaconExpiry s).trans (s.next_put ?_)
      rw [Station.onlyIf_of_true _ joined, Station.beaconExpired_eq joined runs reported, offered]
    refine ⟨fun stopped => ?_, fun runs fresh => ⟨fun full => ?_, fun room => ?_⟩,
      fun front rest q runs queued old first alone => ?_, fun k a => ⟨fun full => ?_, fun room => ?_⟩⟩
    · refine (exec_beaconExpiry s).trans (s.next_put ?_)
      rw [Station.onlyIf_of_true _ joined]
      exact Station.onlyIf_of_false _ (Option.isSome_eq_false_iff.mpr (Option.isNone_iff_eq_none.mpr stopped))
    · exact expires runs (Line.offerStatus_dropped (l := st.loadBeacon.line) _ fresh full)
    · exact expires runs (Line.offerStatus_joins (l := st.loadBeacon.line) _ fresh room)
    · exact expires runs ((Line.offerStatus_replaces (l := st.loadBeacon.line) _ queued old first).trans
        (Line.remove_appendNew (l := st.loadBeacon.line) queued alone _ _))
    · exact (Station.handAlert_eq k a).trans (if_neg (Nat.not_lt.mpr full))
    · exact (Station.handAlert_eq k a).trans (if_pos room)

end Sys2Proof
end

section
/-! SUPPORT. What the slot table holds beside its damage reports (R86 to R91): `Station.stored`. Handing a message on,
a read, the pull queue, the audit's cursor and the transfer engine's table leave it alone. `Station.contents` gathers
each slot's record with how its check stands, all that a read goes by; a write sets one place of it. Then what the
lookup by cartridge id answers (R87). -/

namespace Sys2Proof

/-- The slot table beside its damage reports. -/
def Station.stored (st : Station) : SlotTable := { st.table with slots := st.table.slots.map Slot.content }

/-- Each slot's record with how its stored check differs from the check of its contents. -/
def Station.contents (st : Station) : List (Rec × BitVec 16) :=
  st.table.slots.map fun sl => (sl.record, sl.difference)

/-- What a slot of the contents reads as. -/
theorem Station.contents_getElem? (st : Station) (n : Nat) :
    st.contents[n]? = (st.table.slots[n]?).map fun sl => (sl.record, sl.difference) :=
  List.getElem?_map

theorem Station.stored_of_kept {a b : Station} (h : a.kept = b.kept) : a.stored = b.stored :=
  congrArg Kept.table h

section
variable {a b : Station} (h : a.stored = b.stored)
include h

theorem Station.contents_of_stored : a.contents = b.contents := by
  have same := congrArg (fun t : SlotTable => t.slots.map fun sl : Slot => (sl.record, sl.difference)) h
  simpa [Function.comp_def, Slot.content, Station.contents, Station.stored] using same

theorem Station.hold_of_stored : a.table.hold = b.table.hold :=
  show a.stored.hold = b.stored.hold from congrArg _ h

/-- A slot is left as it is, but for its damage report. -/
theorem Station.slot_of_stored (n : Nat) : (a.table.slot n).content = (b.table.slot n).content := by
  have same := congrArg (fun t : SlotTable => t.slots[n]?) h
  simp only [Station.stored, List.getElem?_map] at same
  unfold SlotTable.slot
  rw [List.getD_eq_getElem?_getD, List.getD_eq_getElem?_getD]
  cases ha : a.table.slots[n]? <;> cases hb : b.table.slots[n]? <;> simp [ha, hb] at same
  · rfl
  · exact same

theorem Station.view_of_stored (n : Nat) : (a.table.slot n).view = (b.table.slot n).view :=
  show (a.table.slot n).content.view = (b.table.slot n).content.view from congrArg _ (Station.slot_of_stored h n)

theorem Station.debounced_of_stored (n : Nat) : (a.table.slot n).debounced = (b.table.slot n).debounced :=
  show (a.table.slot n).content.debounced = (b.table.slot n).content.debounced from
    congrArg Slot.debounced (Station.slot_of_stored h n)

end

/-- A slot rewritten beside its record. -/
theorem Station.modifySlot_contents (st : Station) (n : Nat) {f : Slot → Slot}
    (h : ∀ sl, (f sl).record = sl.record ∧ (f sl).difference = sl.difference) :
    (st.modifySlot n f).contents = st.contents := by
  apply List.ext_getElem?
  intro m
  rw [Station.contents_getElem?, Station.contents_getElem?]
  change ((st.table.slots.modify n f)[m]?).map _ = _
  rw [List.getElem?_modify]
  cases st.table.slots[m]? with
  | none => rfl
  | some sl => by_cases hm : n = m <;> simp [hm, h sl]

/-- A write sets the record of its slot, its check made to agree (R88). -/
theorem Station.putRecord_contents (st : Station) (n : Nat) (r : Rec) :
    (st.putRecord n r).contents = st.contents.set n (r, 0) := by
  apply List.ext_getElem?
  intro m
  rw [Station.contents_getElem?, List.getElem?_set, Station.contents_getElem?]
  change ((st.table.slots.modify n _)[m]?).map _ = _
  rw [List.getElem?_modify]
  by_cases hm : n = m
  · subst hm
    cases here : st.table.slots[n]? with
    | none => simp [Station.contents, List.getElem?_eq_none_iff.mp here]
    | some sl => simp [Station.contents, (List.getElem?_eq_some_iff.mp here).1]
  · simp [hm]

section
variable (st : Station)

@[simp] theorem Station.onLoader_stored (f) : (st.onLoader f).stored = st.stored := rfl
@[simp] theorem Station.onLine_stored (f) : (st.onLine f).stored = st.stored := rfl
@[simp] theorem Station.onPulls_stored (f) : (st.onPulls f).stored = st.stored := rfl
@[simp] theorem Station.onAudit_stored (f) : (st.onAudit f).stored = st.stored := rfl
@[simp] theorem Station.onXfer_stored (f) : (st.onXfer f).stored = st.stored := rfl
@[simp] theorem Station.numbered_stored : st.numbered.stored = st.stored := rfl
@[simp] theorem Station.setPulls_stored (es) : (st.setPulls es).stored = st.stored := rfl
@[simp] theorem Station.setPullState_stored (c s) : (st.setPullState c s).stored = st.stored := rfl
@[simp] theorem Station.relight_stored : st.relight.stored = st.stored := rfl
@[simp] theorem Station.auditAt_stored (n) : (st.auditAt n).stored = st.stored := rfl
@[simp] theorem Station.setXfers_stored (es) : (st.setXfers es).stored = st.stored := rfl
@[simp] theorem Station.modifyXfer_stored (t f) : (st.modifyXfer t f).stored = st.stored := rfl
@[simp] theorem Station.removeXfer_stored (t) : (st.removeXfer t).stored = st.stored := rfl
@[simp] theorem Station.askLamp_stored (n l) : (st.askLamp n l).stored = st.stored := rfl

/-- A guarded effect that leaves the slot table alone. -/
theorem Station.onlyIf_stored {c : Bool} {f : Station → Station}
    (h : ∀ s : Station, (f s).stored = s.stored) : (st.onlyIf c f).stored = st.stored :=
  Station.onlyIf_keeps (P := fun s => s.stored = st.stored) rfl fun _ => h st

/-- A fold of operations that leave the slot table alone leaves them alone. -/
theorem Station.foldl_stored {α : Type} {f : Station → α → Station} (l : List α) (st : Station)
    (h : ∀ s x, (f s x).stored = s.stored) : (l.foldl f st).stored = st.stored :=
  List.foldlRecOn (motive := fun s : Station => s.stored = st.stored) l f rfl
    fun s hs x _ => (h s x).trans hs

/-! ### The transmit queue -/

@[simp] theorem Station.select_stored : st.select.stored = st.stored :=
  Station.stored_of_kept st.select_kept
@[simp] theorem Station.offerPlaces_stored : st.offerPlaces.stored = st.stored :=
  Station.stored_of_kept st.offerPlaces_kept
@[simp] theorem Station.hand_stored (k d b) : (st.hand k d b).stored = st.stored :=
  Station.stored_of_kept (st.hand_kept k d b)
@[simp] theorem Station.handAlert_stored (k b) : (st.handAlert k b).stored = st.stored :=
  Station.stored_of_kept (st.handAlert_kept k b)
@[simp] theorem Station.reply_stored (k c n q o d) : (st.reply k c n q o d).stored = st.stored :=
  Station.stored_of_kept (st.reply_kept k c n q o d)
@[simp] theorem Station.handFire_stored (b) : (st.handFire b).stored = st.stored :=
  Station.stored_of_kept (st.handFire_kept b)
@[simp] theorem Station.sendXfer_stored (d b) : (st.sendXfer d b).stored = st.stored :=
  st.hand_stored _ d b

/-! ### The pull queue and the audit's cursor -/

@[simp] theorem Station.auditReply_stored (o d) : (st.auditReply o d).stored = st.stored :=
  st.reply_stored _ _ _ _ _ _

@[simp] theorem Station.auditComplete_stored : st.auditComplete.stored = st.stored :=
  st.auditReply_stored _ _

@[simp] theorem Station.suspensionTest_stored : st.suspensionTest.stored = st.stored := by
  unfold Station.suspensionTest
  split
  · exact st.onlyIf_stored fun _ => rfl
  · refine st.onlyIf_stored fun s => ?_
    split <;> simp

@[simp] theorem Station.auditRunAt_stored (n) : (st.auditRunAt n).stored = st.stored :=
  (st.auditAt n).suspensionTest_stored

@[simp] theorem Station.pullsChanged_stored : st.pullsChanged.stored = st.stored :=
  st.relight.suspensionTest_stored

@[simp] theorem Station.cancelPulls_stored (p) : (st.cancelPulls p).stored = st.stored := by
  unfold Station.cancelPulls
  dsimp only
  split
  · rfl
  · rw [Station.pullsChanged_stored]
    exact Station.foldl_stored _ _ fun s e => s.reply_stored _ _ _ _ _ _

@[simp] theorem Station.auditAdvance_stored (n) : (st.auditAdvance n).stored = st.stored := by
  unfold Station.auditAdvance
  split <;> simp

@[simp] theorem Station.auditLifted_stored (n f) : (st.auditLifted n f).stored = st.stored :=
  st.onlyIf_stored fun _ => rfl

@[simp] theorem Station.pullInserted_stored (n c) : (st.pullInserted n c).stored = st.stored := by
  unfold Station.pullInserted
  dsimp only
  split
  · split <;> simp
  · rfl

/-! ### Reads and writes -/

@[simp] theorem Station.noticeDamage_stored (n) : (st.noticeDamage n).stored = st.stored := by
  have told : ((st.modifySlot n fun s => { s with damage := .pending st.line.made }).numbered).offerPlaces.stored
      = st.stored := by
    rw [Station.offerPlaces_stored, Station.numbered_stored]
    exact Station.stored_of_kept (st.modifySlot_kept n _ fun _ => rfl)
  unfold Station.noticeDamage
  dsimp only
  split
  · split
    · rw [Station.cancelPulls_stored, told]
    · exact told
  · rfl

@[simp] theorem Station.readAll_stored : st.readAll.stored = st.stored :=
  Station.foldl_stored _ _ Station.noticeDamage_stored

/-- A write sets one place of the contents (R88). -/
theorem Station.writeRecord_contents (n r) : (st.writeRecord n r).contents = st.contents.set n (r, 0) :=
  (Station.contents_of_stored (Station.cancelPulls_stored _ _)).trans (st.putRecord_contents n r)

/-! ### The transfer engine's table -/

@[simp] theorem Station.withdrawSending_stored (e) : (st.withdrawSending e).stored = st.stored := by
  refine (Station.onlyIf_stored _ fun s => s.sendXfer_stored _ _).trans ?_
  cases e.slot <;> rfl

@[simp] theorem Station.becomeArrived_stored (e) : (st.becomeArrived e).stored = st.stored :=
  Station.sendXfer_stored _ _ _

@[simp] theorem Station.xferInserted_stored (n t p) : (st.xferInserted n t p).stored = st.stored := by
  unfold Station.xferInserted
  split
  · rfl
  · split
    · dsimp only; split <;> rfl
    · split <;> simp

@[simp] theorem Station.xferReturned_stored (t) : (st.xferReturned t).stored = st.stored := by
  unfold Station.xferReturned
  split <;> simp

@[simp] theorem Station.openXfer_stored (d c j n k p) : (st.openXfer d c j n k p).1.stored = st.stored := by
  unfold Station.openXfer
  split <;> simp

end

/-! ### The lookup by cartridge id (R87) -/

theorem Slot.holds_iff {sl : Slot} {c : Cart} : sl.holds c = true ↔ ∃ d, sl.record.cart = some d ∧ d.id = c := by
  simp [Slot.holds]

theorem Slot.sound_iff {sl : Slot} : sl.sound = true ↔ sl.difference = 0 := by simp [Slot.sound]

section
variable {t : SlotTable} {c : Cart}

/-- A slot named by the lookup holds the cartridge in a sound record. -/
theorem SlotTable.lookup_sound {n : Nat} {r : Rec} (h : t.lookup c = .sound n r) :
    ∃ sl, t.slots[n]? = some sl ∧ sl.holds c = true ∧ sl.difference = 0 ∧ sl.record = r := by
  unfold SlotTable.lookup at h
  split at h
  · next p found =>
    obtain ⟨sl, m⟩ := p
    have hit := List.find?_some found
    obtain ⟨sound, holds⟩ : sl.sound = true ∧ sl.holds c = true := Bool.and_eq_true_iff.mp hit
    have here := List.mk_mem_zipIdx_iff_getElem?.mp (List.mem_of_find?_eq_some found)
    cases h
    exact ⟨sl, here, holds, Slot.sound_iff.mp sound, rfl⟩
  · split at h <;> cases h

/-- Where the lookup names no sound record, no sound record holds the cartridge. -/
theorem SlotTable.lookup_not_sound (h : ∀ n r, t.lookup c ≠ .sound n r) {m : Nat} {sl : Slot}
    (here : t.slots[m]? = some sl) (holds : sl.holds c = true) : sl.difference ≠ 0 := by
  intro sound
  unfold SlotTable.lookup at h
  split at h
  · exact h _ _ rfl
  · next none =>
    exact List.find?_eq_none.mp none (sl, m) (List.mk_mem_zipIdx_iff_getElem?.mpr here)
      (Bool.and_eq_true_iff.mpr ⟨Slot.sound_iff.mpr sound, holds⟩)

/-- A slot named as damaged is the lowest that holds the cartridge as stored. -/
theorem SlotTable.lookup_damaged {n : Nat} (h : t.lookup c = .damaged n) :
    (∃ sl, t.slots[n]? = some sl ∧ sl.holds c = true) ∧
      ∀ (m : Nat) (sl : Slot), t.slots[m]? = some sl → sl.holds c = true → n ≤ m := by
  unfold SlotTable.lookup at h
  split at h
  · cases h
  · split at h
    · next p found =>
      obtain ⟨sl, k⟩ := p
      cases h
      refine ⟨⟨sl, List.mk_mem_zipIdx_iff_getElem?.mp (List.mem_of_find?_eq_some found),
        by simpa using List.find?_some found⟩, fun m x here holds => ?_⟩
      obtain ⟨-, i, hi, at_i, before⟩ := List.find?_eq_some_iff_getElem.mp found
      have index : i = k := by simpa using congrArg Prod.snd at_i
      subst index
      by_contra lower
      have first := before m (Nat.not_le.mp lower)
      obtain ⟨inside, there⟩ := List.getElem?_eq_some_iff.mp here
      simp [there, holds] at first
    · cases h

/-- The lookup finds nothing exactly where no record holds the cartridge. -/
theorem SlotTable.lookup_absent_iff :
    t.lookup c = .absent ↔ ∀ (m : Nat) (sl : Slot), t.slots[m]? = some sl → sl.holds c = false := by
  constructor
  · intro h m sl here
    unfold SlotTable.lookup at h
    split at h
    · cases h
    · split at h
      · cases h
      · next none =>
        simpa using List.find?_eq_none.mp none (sl, m) (List.mk_mem_zipIdx_iff_getElem?.mpr here)
  · intro absent
    have nowhere (p : Slot × Nat → Bool) (hp : ∀ x, p x = true → x.1.holds c = true) :
        t.slots.zipIdx.find? p = none := by
      refine List.find?_eq_none.mpr fun x hx found => ?_
      have := absent x.2 x.1 (List.mk_mem_zipIdx_iff_getElem?.mp hx)
      simp [hp x found] at this
    unfold SlotTable.lookup
    rw [nowhere _ fun x h => (Bool.and_eq_true_iff.mp h).2, nowhere _ fun x h => h]

end

end Sys2Proof
end

section
/-! SUPPORT. A cartridge id in at most one sound record (R87): which writes keep that, and each operation on the
line, the records and the transfers. -/

namespace Sys2Proof

/-! ### Sound records by their cartridge -/

/-- A sound record of the slot holds the cartridge. -/
def Station.SoundAt (st : Station) (n : Nat) (x : Cart) : Prop :=
  ∃ r : Rec, st.contents[n]? = some (r, 0) ∧ r.cart.map CartData.id = some x

section
variable {a b c : Station} {n : Nat} {x : Cart}

theorem Station.soundAt_iff :
    b.SoundAt n x ↔ ∃ sl, b.table.slots[n]? = some sl ∧ sl.difference = 0 ∧ sl.holds x = true := by
  unfold Station.SoundAt
  rw [Station.contents_getElem?]
  cases b.table.slots[n]? with
  | none => simp
  | some sl => simp [Slot.holds]

theorem Station.idsUnique_iff : b.idsUnique ↔ ∀ m n x, b.SoundAt m x → b.SoundAt n x → m = n := by
  simp only [Station.soundAt_iff, Slot.holds_iff]
  constructor
  · rintro h m n x ⟨s, hs, ds, d, hd, rfl⟩ ⟨t, ht, dt, e, he, same⟩
    exact h m n s t d e hs ht ds dt hd he same.symm
  · intro h m n s t d e hs ht ds dt hd he same
    exact h m n d.id ⟨s, hs, ds, d, hd, rfl⟩ ⟨t, ht, dt, e, he, same.symm⟩

theorem Slot.view_cart {sl : Slot} (h : sl.view.cart.isSome) : sl.difference = 0 ∧ sl.view = sl.record := by
  by_cases sound : sl.difference = 0
  · by_cases unsettled : sl.record = .unsettled
    · simp [Slot.view, Slot.sound, sound, unsettled, Rec.cart] at h
    · exact ⟨sound, Slot.view_of_sound sound unsettled⟩
  · simp [Slot.view_of_damaged sound, Rec.cart] at h

/-- A record that reads as holding a cartridge is sound. -/
theorem Station.soundAt_of_view {d : CartData} (h : (b.table.slot n).view.cart = some d) : b.SoundAt n d.id := by
  obtain ⟨sound, reads⟩ := Slot.view_cart (sl := b.table.slot n) (by simp [h])
  have held : (b.table.slot n).record.cart = some d := reads ▸ h
  cases here : b.table.slots[n]? with
  | none => simp [SlotTable.slot, List.getD, here, Slot.blank, Rec.cart] at held
  | some sl =>
    rw [Station.slot_eq here] at sound held
    exact Station.soundAt_iff.mpr ⟨sl, here, sound, by simp [Slot.holds, held]⟩

theorem Station.SoundAt.of_contents (h : b.SoundAt n x) (same : c.contents = b.contents) : c.SoundAt n x := by
  unfold Station.SoundAt
  rw [same]
  exact h

/-- What stands in the sound records after a write: the new record's cartridge at its slot, the others as they
were. -/
theorem Station.SoundAt.of_set {m : Nat} {r : Rec} (h : c.SoundAt m x) (set : c.contents = b.contents.set n (r, 0)) :
    (m = n ∧ r.cart.map CartData.id = some x) ∨ (m ≠ n ∧ b.SoundAt m x) := by
  obtain ⟨q, here, held⟩ := h
  rw [set, List.getElem?_set] at here
  by_cases same : n = m
  · rw [if_pos same] at here
    split at here
    · cases here
      exact .inl ⟨same.symm, held⟩
    · cases here
  · rw [if_neg same] at here
    exact .inr ⟨Ne.symm same, q, here, held⟩

/-- No sound record holds a cartridge that the lookup does not find, or finds in a damaged record alone (R87). -/
theorem Station.not_soundAt_of_lookup (h : ∀ m r, b.table.lookup x ≠ .sound m r) (m : Nat) : ¬b.SoundAt m x := by
  intro held
  obtain ⟨sl, here, sound, holds⟩ := Station.soundAt_iff.mp held
  exact SlotTable.lookup_not_sound h here holds sound

theorem Station.soundAt_of_lookup {r : Rec} (h : b.table.lookup x = .sound n r) : b.SoundAt n x := by
  obtain ⟨sl, here, holds, sound, -⟩ := SlotTable.lookup_sound h
  exact Station.soundAt_iff.mpr ⟨sl, here, sound, holds⟩

/-- The audit's write is free where no sound record holds the scanned id (R87). -/
theorem Station.not_soundAt_of_elsewhere {mismatch : Bool} (h : b.elsewhere x = .free mismatch) (m : Nat) :
    ¬b.SoundAt m x := by
  refine Station.not_soundAt_of_lookup (fun k r found => ?_) m
  unfold Station.elsewhere at h
  rw [found] at h
  cases r <;> simp at h
  split at h <;> cases h

/-- The record that the audit rewrites UNKNOWN is a sound one of the scanned id (R87). -/
theorem Station.soundAt_of_elsewhere {m : Nat} (h : b.elsewhere x = .rewrite m) : b.SoundAt m x := by
  unfold Station.elsewhere at h
  split at h
  · cases h
  · cases h
  · next found =>
    split at h
    · cases h
    · cases h
      exact Station.soundAt_of_lookup found
  · cases h

end

/-! ### Each operation -/

namespace Station.idsUnique

variable {a b c : Station}

/-- The station that an operation answers beside a value. -/
theorem of_answer {α : Type} {p : Station × α} {x : Station} {v : α} (h : p.1.idsUnique) (e : p = (x, v)) :
    x.idsUnique := by
  rw [e] at h
  exact h

variable (h : b.idsUnique)
include h

theorem of_soundAt (fewer : ∀ n x, c.SoundAt n x → b.SoundAt n x) : c.idsUnique :=
  Station.idsUnique_iff.mpr fun m n x hm hn => Station.idsUnique_iff.mp h m n x (fewer m x hm) (fewer n x hn)

theorem of_contents (same : c.contents = b.contents) : c.idsUnique :=
  h.of_soundAt fun _ _ held => held.of_contents same.symm

theorem of_stored (same : c.stored = b.stored) : c.idsUnique := h.of_contents (Station.contents_of_stored same)

/-! #### Writes -/

/-- A write of a cartridge that no other slot holds. -/
theorem set {n : Nat} {r : Rec} (set : c.contents = b.contents.set n (r, 0))
    (fresh : ∀ x, r.cart.map CartData.id = some x → ∀ m, b.SoundAt m x → m = n) : c.idsUnique := by
  refine Station.idsUnique_iff.mpr fun m k x hm hk => ?_
  obtain ⟨hm, new⟩ | ⟨-, old⟩ := hm.of_set set <;> obtain ⟨hk, new'⟩ | ⟨-, old'⟩ := hk.of_set set
  · exact hm.trans hk.symm
  · exact hm.trans (fresh x new k old').symm
  · exact (fresh x new' m old).trans hk.symm
  · exact Station.idsUnique_iff.mp h m k x old old'

/-- A write of the cartridge that the slot's sound record holds already. -/
theorem set_known {n : Nat} {r : Rec} {d : CartData} (held : r.cart.map CartData.id = some d.id)
    (known : b.SoundAt n d.id) (set : c.contents = b.contents.set n (r, 0)) : c.idsUnique :=
  h.set set fun x new m old => by
    cases held.symm.trans new
    exact Station.idsUnique_iff.mp h m n _ old known

/-- A write of a record without a cartridge. -/
theorem set_bare {n : Nat} {r : Rec} (bare : r.cart = none) (set : c.contents = b.contents.set n (r, 0)) :
    c.idsUnique :=
  h.set set fun x new => by simp [bare] at new

theorem writeKnown {n : Nat} {r : Rec} {d : CartData} (view : (b.table.slot n).view.cart = some d)
    (held : r.cart.map CartData.id = some d.id) : (b.writeRecord n r).idsUnique :=
  h.set_known held (Station.soundAt_of_view view) (b.writeRecord_contents n r)

theorem writeBare (n : Nat) {r : Rec} (bare : r.cart = none) : (b.writeRecord n r).idsUnique :=
  h.set_bare bare (b.writeRecord_contents n r)

theorem writeNew (n : Nat) {r : Rec} {d : CartData} (held : r.cart = some d) (free : ∀ m, ¬b.SoundAt m d.id) :
    (b.writeRecord n r).idsUnique :=
  h.set (b.writeRecord_contents n r) fun x new m old => absurd old (by
    simp only [held, Option.map_some, Option.some.injEq] at new
    exact new ▸ free m)

/-- Cartridge fields rewritten with the ids kept. -/
theorem mapRecords (p : Rec → Bool) {f : CartData → CartData} (hf : ∀ d, (f d).id = d.id) :
    (b.onTable (·.mapRecords p f)).idsUnique := by
  refine h.of_soundAt fun n x held => ?_
  obtain ⟨sl, here, sound, holds⟩ := Station.soundAt_iff.mp held
  change (b.table.slots.map _)[n]? = some sl at here
  rw [List.getElem?_map] at here
  obtain ⟨old, there, rfl⟩ := Option.map_eq_some_iff.mp here
  refine Station.soundAt_iff.mpr ⟨old, there, ?_⟩
  split at sound <;> split at holds <;> simp_all [Slot.holds, Rec.mapCart_cart, Function.comp_def]

/-! #### Updates of a block -/

theorem onLoader (f : Loader → Loader) : (b.onLoader f).idsUnique := h

theorem onRetention (f : Retention → Retention) : (b.onRetention f).idsUnique := h

theorem onPins (f : Pins → Pins) : (b.onPins f).idsUnique := h

theorem onMoist (f : Moisture → Moisture) : (b.onMoist f).idsUnique := h

theorem onAir (f : DryAir → DryAir) : (b.onAir f).idsUnique := h

theorem onMotion (f : Motion → Motion) : (b.onMotion f).idsUnique := h

theorem onDet (f : Detection → Detection) : (b.onDet f).idsUnique := h

theorem onAudit (f : Audit → Audit) : (b.onAudit f).idsUnique := h

theorem onXfer (f : Transfers → Transfers) : (b.onXfer f).idsUnique := h

theorem onHatch (f : Hatch → Hatch) : (b.onHatch f).idsUnique := h

theorem onPeers (f : PeerView → PeerView) : (b.onPeers f).idsUnique := h

theorem onLine (f : Line → Line) : (b.onLine f).idsUnique := h

theorem onDoor (f : Door → Door) : (b.onDoor f).idsUnique := h

theorem onSupp (f : Suppression → Suppression) : (b.onSupp f).idsUnique := h

theorem onlyIf {g : Bool} {f : Station → Station} (hf : b.idsUnique → (f b).idsUnique) : (b.onlyIf g f).idsUnique :=
  Station.onlyIf_keeps h hf

theorem ite {p : Prop} [Decidable p] {x y : Station} (hx : b.idsUnique → x.idsUnique) (hy : b.idsUnique → y.idsUnique) :
    (if p then x else y).idsUnique := by
  split
  · exact hx h
  · exact hy h

theorem foldl {α : Type} {f : Station → α → Station} (hf : ∀ s x, s.idsUnique → (f s x).idsUnique) (l : List α) :
    (l.foldl f b).idsUnique := by
  induction l generalizing b with
  | nil => exact h
  | cons x l ih => exact ih (hf b x h)

/-! #### The transmit queue -/

theorem select : b.select.idsUnique := h.of_stored b.select_stored

theorem offerPlaces : b.offerPlaces.idsUnique := h.of_stored b.offerPlaces_stored

theorem hand (k : Blk) (d : Addr) (m : Body) : (b.hand k d m).idsUnique := h.of_stored (b.hand_stored k d m)

theorem handAlert (k : Blk) (m : AlertBody) : (b.handAlert k m).idsUnique := h.of_stored (b.handAlert_stored k m)

theorem reply (k : Blk) (src : Addr) (kind seq : Byte) (o : ReplyOutcome) (d : Option Detail := none) :
    (b.reply k src kind seq o d).idsUnique := h.of_stored (b.reply_stored k src kind seq o d)

theorem handFire (m : Body) : (b.handFire m).idsUnique := h.of_stored (b.handFire_stored m)

theorem handFireReport : b.handFireReport.idsUnique := h.handFire _

/-! #### The pull queue and the audit's cursor -/

theorem auditReply (o : ReplyOutcome) (d : Detail) :
    (b.auditReply o d).idsUnique := h.of_stored (b.auditReply_stored o d)

theorem auditComplete : b.auditComplete.idsUnique := h.of_stored b.auditComplete_stored

theorem auditAt (n : Nat) : (b.auditAt n).idsUnique := h

theorem suspensionTest : b.suspensionTest.idsUnique := h.of_stored b.suspensionTest_stored

theorem auditRunAt (n : Nat) : (b.auditRunAt n).idsUnique := h.of_stored (b.auditRunAt_stored n)

theorem pullsChanged : b.pullsChanged.idsUnique := h.of_stored b.pullsChanged_stored

theorem cancelPulls (p : PullEntry → Bool) : (b.cancelPulls p).idsUnique := h.of_stored (b.cancelPulls_stored p)

theorem cancelHeld : b.cancelHeld.idsUnique := h.cancelPulls _

/-! #### Slot records -/

theorem noticeDamage (n : Nat) : (b.noticeDamage n).idsUnique := h.of_stored (b.noticeDamage_stored n)

theorem readAll : b.readAll.idsUnique := h.of_stored b.readAll_stored

theorem placeWrite (n : Nat) (t : Tid) : (b.placeWrite n t).1.idsUnique := by
  unfold Station.placeWrite
  dsimp only
  split
  · next view =>
    split
    · exact (h.noticeDamage n).writeKnown (congrArg Rec.cart view) rfl
    · exact h.noticeDamage n
  · exact h.noticeDamage n

theorem freeWrite (n : Nat) (t : Tid) : (b.freeWrite n t).1.idsUnique := by
  unfold Station.freeWrite
  dsimp only
  split
  · split
    · exact (h.noticeDamage n).writeBare n rfl
    · exact h.noticeDamage n
  · exact h.noticeDamage n

theorem closeOutWrite (n : Nat) (t : Tid) : (b.closeOutWrite n t).idsUnique := by
  unfold Station.closeOutWrite
  dsimp only
  split
  · exact (h.noticeDamage n).ite (fun h => h.writeBare n rfl) fun h => h
  · exact h.noticeDamage n

/-- R87: a reserve is made for an id that the lookup does not find. -/
theorem reserveWrite (x : Cart) (t : Tid) : (b.reserveWrite x t).1.idsUnique := by
  unfold Station.reserveWrite
  dsimp only
  split
  · exact h.readAll
  · next absent =>
    split
    · exact h.readAll
    · exact h.readAll.writeNew _ rfl (Station.not_soundAt_of_lookup fun m r found =>
        absent (by rw [found]; rfl))

theorem setUnplanned (n : Nat) : (b.setUnplanned n).idsUnique := by
  unfold Station.setUnplanned
  split
  · next view => exact h.writeKnown (congrArg Rec.cart view) rfl
  · exact h

/-! #### The audit -/

theorem auditLifted (n : Nat) (f : Finding) :
    (b.auditLifted n f).idsUnique := h.of_stored (b.auditLifted_stored n f)

theorem auditAdvance (n : Nat) : (b.auditAdvance n).idsUnique := h.of_stored (b.auditAdvance_stored n)

theorem auditStray (n : Nat) : (b.auditStray n).idsUnique := by
  unfold Station.auditStray
  split
  · exact h.ite (fun h => h.writeBare n rfl) fun h => h
  · exact h

/-- R87, R118: the write of a scanned id where no sound record holds it. -/
theorem auditWrite {y : Cart} {mismatch : Bool} (free : b.elsewhere y = .free mismatch) (n : Nat) (m : Mark) :
    (b.writeRecord n (.out (auditedCart y m) false)).idsUnique :=
  h.writeNew n rfl (Station.not_soundAt_of_elsewhere free)

/-- R87, R118: the write of a scanned id whose other record is rewritten UNKNOWN before it. -/
theorem auditRewrite {y : Cart} {k : Nat} (other : b.elsewhere y = .rewrite k) (n : Nat) (m : Mark) :
    ((b.writeRecord k .unknown).writeRecord n (.out (auditedCart y m) false)).idsUnique := by
  refine (h.writeBare k rfl).writeNew n rfl fun i held => ?_
  obtain ⟨-, none⟩ | ⟨apart, old⟩ := held.of_set (b.writeRecord_contents k .unknown)
  · cases none
  · exact apart (Station.idsUnique_iff.mp h i k y old (Station.soundAt_of_elsewhere other))

theorem auditInserted (n : Nat) : (b.auditInserted n).idsUnique :=
  h.ite (fun h => h.auditRunAt n) fun h => h.ite (fun h => (h.auditStray n).auditAdvance n) fun h => h

theorem auditAbort : b.auditAbort.idsUnique := by
  refine h.onlyIf fun h => ?_
  have ended : ((b.auditReply .aborted (.cursorCounts b.audit.cursor b.audit.checked b.audit.repaired
      b.audit.mismatched)).onAudit fun _ => .start).idsUnique := (h.auditReply _ _).onAudit _
  dsimp only
  split
  · exact ended
  · split
    · exact (ended.noticeDamage _).ite (fun h => h) fun h => h.setUnplanned _
    · exact ended.noticeDamage _

theorem auditMismatch (n : Nat) (y : Cart) (second : Option Cart) : (b.auditMismatch n y second).idsUnique :=
  h.hand _ _ _

theorem auditDecide (n : Nat) (y : Cart) : (b.auditDecide n y).idsUnique := by
  unfold Station.auditDecide
  split
  · next view =>
    refine h.ite (fun h => (h.auditMismatch _ _ _).onAudit _) fun h =>
      h.ite (fun h => (h.writeKnown (congrArg Rec.cart view) (by rfl)).onAudit _) fun h => ?_
    dsimp only
    split
    · next free => exact ((h.readAll.auditWrite free _ _).auditMismatch _ _ _).onAudit _
    · next other => exact ((h.readAll.auditRewrite other _ _).auditMismatch _ _ _).onAudit _
    · exact (h.readAll.auditMismatch _ _ _).onAudit _
  · dsimp only
    split
    · next free => exact (h.readAll.auditWrite free _ _).onAudit _
    · next free => exact ((h.readAll.auditWrite free _ _).auditMismatch _ _ _).onAudit _
    · next other => exact ((h.readAll.auditRewrite other _ _).auditMismatch _ _ _).onAudit _
    · exact (h.readAll.auditMismatch _ _ _).onAudit _
  · exact (h.auditMismatch _ _ _).onAudit _

theorem auditScan (y : Cart) : (b.auditScan y).idsUnique := by
  unfold Station.auditScan
  split
  · exact h
  · exact ((h.noticeDamage _).auditDecide _ y).onAudit _

theorem takeAudit (src : Addr) (seq : Byte) (first last : Nat) :
    (Station.takeAudit src seq first last b).idsUnique := by
  have refused (o : ReplyOutcome) (h : b.idsUnique) : (b.reply .pulls src kindAudit seq o).idsUnique :=
    h.reply _ _ _ _ _ _
  refine h.ite (refused _) fun h => h.ite (refused _) fun h => h.ite (refused _) fun h =>
    h.ite (refused _) fun h => h.ite (refused _) fun h => h.ite (refused _) fun h => ?_
  dsimp only
  split
  · exact (((h.onAudit _).auditAt _).reply _ _ _ _ _ _).suspensionTest
  · exact ((h.onAudit _).reply _ _ _ _ _ _).auditComplete

/-! #### The transfer engine -/

theorem sendXfer (d : Addr) (m : Body) : (b.sendXfer d m).idsUnique := h.of_stored (b.sendXfer_stored d m)

theorem xferAlert (k : AlertKind) (n : Option Nat) (x : Cart) (t : Option Tid) (r : Option Reason := none) :
    (b.xferAlert k n x t r).idsUnique := h.hand _ _ _

theorem setXfers (es : List XferEntry) : (b.setXfers es).idsUnique := h.onXfer _

theorem modifyXfer (t : Tid) (f : XferEntry → XferEntry) : (b.modifyXfer t f).idsUnique := h.setXfers _

theorem removeXfer (t : Tid) : (b.removeXfer t).idsUnique := h.setXfers _

theorem askLamp (n : Nat) (l : Lamp) : (b.askLamp n l).idsUnique := h.onXfer _

theorem setCustody (es : List CustodyEntry) : (b.setCustody es).idsUnique := h.onHatch _

theorem openXfer (d : Direction) (x : Cart) (j : Job) (n : Option Nat) (k : Option Cart) (p : Addr) :
    (b.openXfer d x j n k p).1.idsUnique := h.of_stored (b.openXfer_stored d x j n k p)

theorem resend (e : XferEntry) : (b.resend e).idsUnique := by
  unfold Station.resend
  split
  · exact h.sendXfer _ _
  · exact h.sendXfer _ _
  · exact h

theorem refused (e : XferEntry) (r : Reason) : (b.refused e r).idsUnique := by
  have told : ((b.modifyXfer e.tid fun e =>
      { e with state := .refused, transit := .stopped, reply := none }).xferAlert .unanswered e.slot e.cart
        (some e.tid) (some r)).idsUnique := (h.modifyXfer _ _).xferAlert _ _ _ _ _
  unfold Station.refused
  dsimp only
  split
  · split
    · exact told.askLamp _ _
    · exact told
  · exact (told.removeXfer _).setCustody _

theorem closeSending (e : XferEntry) : (b.closeSending e).idsUnique := by
  unfold Station.closeSending
  refine Station.idsUnique.onlyIf (Station.idsUnique.removeXfer ?_ _) fun h => h.xferAlert _ _ _ _
  split
  · exact (h.closeOutWrite _ _).askLamp _ _
  · exact h
  · exact h.setCustody _

theorem withdrawLamp (n : Option Nat) : (b.withdrawLamp n).idsUnique := by
  unfold Station.withdrawLamp
  split
  · exact h.askLamp _ _
  · exact h

theorem withdrawSending (e : XferEntry) :
    (b.withdrawSending e).idsUnique := h.of_stored (b.withdrawSending_stored e)

theorem becomeArrived (e : XferEntry) : (b.becomeArrived e).idsUnique := h.of_stored (b.becomeArrived_stored e)

theorem placeFor (e : XferEntry) : (b.placeFor e).1.idsUnique := by
  unfold Station.placeFor
  split
  · exact h
  · next n _ =>
    split
    · next placed => exact ((h.placeWrite n e.tid).of_answer placed).askLamp _ _
    · next placed => exact ((h.placeWrite n e.tid).of_answer placed).xferAlert _ _ _ _

theorem arrival (e : XferEntry) : (b.arrival e).idsUnique := by
  unfold Station.arrival
  refine Station.idsUnique.becomeArrived ?_ e
  split
  · exact h.placeFor e
  · exact h

theorem settleAtSlot (e : XferEntry) : (b.settleAtSlot e).idsUnique := by
  unfold Station.settleAtSlot
  split
  · exact h.removeXfer _
  · dsimp only
    split
    · exact (h.noticeDamage _).ite (fun h => h.removeXfer _) fun h => (h.askLamp _ _).removeXfer _
    · exact (h.noticeDamage _).modifyXfer _ _
    · exact ((h.noticeDamage _).askLamp _ _).removeXfer _

theorem settleArrived (e : XferEntry) : (b.settleArrived e).idsUnique := by
  unfold Station.settleArrived
  split
  · exact (h.removeXfer _).setCustody _
  · exact h.settleAtSlot e

theorem takeCustody (e : XferEntry) (r : Option Reason) : (b.takeCustody e r).idsUnique :=
  (h.xferAlert _ _ _ _ _).settleArrived e

theorem xferInserted (n : Nat) (t : Tid) (p : Bool) :
    (b.xferInserted n t p).idsUnique := h.of_stored (b.xferInserted_stored n t p)

theorem xferReturned (t : Tid) : (b.xferReturned t).idsUnique := h.of_stored (b.xferReturned_stored t)

theorem makeClaim (x : Cart) : (b.makeClaim x).idsUnique :=
  h.ite (fun h => h) fun h => h.ite (fun h => h) fun h => h.ite (fun h => h.hand _ _ _) fun h =>
    (h.onXfer _).sendXfer _ _

theorem claimAtBay (src : Addr) (t : Tid) (x : Cart) (j : Job) : (b.claimAtBay src t x j).idsUnique := by
  refine h.ite (fun h => h.xferAlert _ _ _ _) fun h => ?_
  have reserved := h.reserveWrite x t
  split
  · next e => exact (reserved.of_answer e).xferAlert _ _ _ _
  · next e => exact (reserved.of_answer e).xferAlert _ _ _ _
  · next e =>
    have placed := (reserved.of_answer e).placeFor
    dsimp only
    split
    · next e => exact ((placed _).of_answer e).setXfers _
    · next e => exact (placed _).of_answer e

theorem acceptOffer (src : Addr) (t : Tid) (x : Cart) (j : Job) (n : Option Nat) :
    (b.acceptOffer src t x j n).idsUnique := (h.setXfers _).sendXfer _ _

theorem takeOffer (src : Addr) (t : Tid) (x : Cart) (j : Job) (d : Byte) :
    (Station.takeOffer src t x j d b).idsUnique := by
  unfold Station.takeOffer
  refine h.onlyIf fun h => ?_
  dsimp only
  split
  · exact h.ite (fun h => h.sendXfer _ _) fun h => h.sendXfer _ _
  · split
    · exact h.sendXfer _ _
    · split
      · exact h.acceptOffer _ _ _ _ _
      · have reserved := h.reserveWrite x t
        split
        · next e => exact (reserved.of_answer e).sendXfer _ _
        · next e => exact (reserved.of_answer e).sendXfer _ _
        · next e => exact (reserved.of_answer e).acceptOffer _ _ _ _ _

theorem takeAccept (src : Addr) (t : Tid) (n : Option Byte) : (Station.takeAccept src t n b).idsUnique := by
  refine h.onlyIf fun h => ?_
  split
  · exact h.sendXfer _ _
  · refine h.ite (fun h => h) fun h => ?_
    split
    · exact h.modifyXfer _ _
    · exact h.modifyXfer _ _
    · exact h.sendXfer _ _
    · exact h

theorem takeRefuse (src : Addr) (t : Tid) (r : Byte) : (Station.takeRefuse src t r b).idsUnique := by
  refine h.onlyIf fun h => ?_
  split
  · exact h
  · refine h.ite (fun h => h) fun h => ?_
    split
    · exact h.refused _ _
    · exact h.refused _ _
    · exact h.ite (fun h => h.takeCustody _ _) fun h => h
    · exact h

theorem takeArrive (src : Addr) (t : Tid) : (Station.takeArrive src t b).idsUnique := by
  refine h.onlyIf fun h => ?_
  split
  · exact h.sendXfer _ _
  · exact h.ite (fun h => h.sendXfer _ _) fun h => (h.sendXfer _ _).closeSending _

theorem closeClaim (src : Addr) (t : Tid) (x : Cart) (j : Option Job) : (b.closeClaim src t x j).idsUnique := by
  have removed : (b.removeClaim x).idsUnique := h.onXfer _
  unfold Station.closeClaim
  dsimp only
  split
  · exact removed.setCustody _
  · exact removed.claimAtBay _ _ _ _

theorem takeClose (src : Addr) (t : Tid) (x : Cart) (j : Option Job) : (Station.takeClose src t x j b).idsUnique := by
  refine h.onlyIf fun h => ?_
  split
  · next entry _ =>
    split
    · exact h.settleArrived _
    · have placed := h.placeFor entry
      split
      · next e => exact (placed.of_answer e).modifyXfer _ _
      · next e => exact (placed.of_answer e).removeXfer _
    · exact h.settleArrived _
    · exact h
  · exact h.ite (fun h => h.closeClaim _ _ _ _) fun h => h.sendXfer _ _

theorem freeSlot (n : Nat) (t : Tid) : (b.freeSlot n t).idsUnique := by
  have freed := h.freeWrite n t
  unfold Station.freeSlot
  split
  · next e => exact freed.of_answer e
  · next e => exact (freed.of_answer e).askLamp _ _

theorem takeWithdraw (src : Addr) (t : Tid) : (Station.takeWithdraw src t b).idsUnique := by
  refine h.onlyIf fun h => ?_
  dsimp only
  split
  · exact h
  · refine h.ite (fun h => ?_) fun h => h
    split
    · exact (h.freeSlot _ _).removeXfer _
    · exact h.removeXfer _

theorem takeClaim (src : Addr) (x : Cart) : (Station.takeClaim src x b).idsUnique := by
  refine h.onlyIf fun h => ?_
  dsimp only
  split
  · exact h
  · exact ((h.sendXfer _ _).closeSending _).onlyIf fun h => h.sendXfer _ _

theorem replyExpired (t : Tid) : (Station.replyExpired t b).idsUnique := by
  unfold Station.replyExpired
  split
  · exact h
  · exact h.ite (fun h => h) fun h => h.ite
      (fun h => h.ite (fun h => (h.modifyXfer _ _).resend _) fun h =>
        h.ite (fun h => (h.modifyXfer _ _).xferAlert _ _ _ _) fun h => (h.modifyXfer _ _).takeCustody _ _)
      fun h => h

theorem transitExpired (t : Tid) : (Station.transitExpired t b).idsUnique := by
  unfold Station.transitExpired
  split
  · exact h
  · split
    · exact (h.modifyXfer _ _).xferAlert _ _ _ _
    · exact h
    · exact h

theorem claimExpired (x : Cart) : (Station.claimExpired x b).idsUnique := by
  have told : ((b.removeClaim x).xferAlert .strayArrival none x none).idsUnique := (h.onXfer _).xferAlert _ _ _ _
  refine h.ite (fun _ => ?_) fun h => h
  dsimp only
  split
  · exact told
  · exact told.setCustody _

theorem takeQueryTransfer (src : Addr) (seq : Byte) (t : Tid) : (Station.takeQueryTransfer src seq t b).idsUnique := by
  unfold Station.takeQueryTransfer
  split <;> exact h.reply _ _ _ _ _ _

end Station.idsUnique

end Sys2Proof
end

section
/-! SUPPORT. A cartridge id in at most one sound record (R87), through the hatch unit, the slot table's events, the
fire state, the door, the messages and the starts; with them through every command (O23). -/

namespace Sys2Proof

namespace Station.idsUnique

variable {b : Station} (h : b.idsUnique)
include h

/-! #### The motion channel and the hatch unit -/

theorem onSession (f : Session → Session) : (b.onSession f).idsUnique := h.onHatch _

/-- An operation of the channel changes the channel alone. -/
theorem of_motion {c : Station} (e : c = { b with motion := c.motion }) : c.idsUnique := by
  rw [e]
  exact h.onMotion fun _ => c.motion

theorem command (e : MotionEnd) : (b.command e).1.idsUnique := h.of_motion (b.command_motion e)

theorem handover (n : Nat) (r : Option AbortReason) : (b.handover n r).idsUnique := h.hand _ _ _

theorem settleSession : b.settleSession.idsUnique := by
  unfold Station.settleSession
  split
  · exact h.onlyIf fun h => h.onSession _
  · exact h.onlyIf fun h => h.onSession _
  · exact h

theorem endSession (s : SessionState) (r : Option AbortReason) : (b.endSession s r).idsUnique := h.onSession _

theorem bringIn : b.bringIn.idsUnique := ((h.onSession _).command .b).settleSession

theorem abortSession (r : AbortReason) : (b.abortSession r).idsUnique :=
  h.onlyIf fun h => (((h.endSession _ _).setCustody _).handover _ _).bringIn

theorem handOutbound : b.handOutbound.idsUnique := (((h.endSession _ _).setCustody _).handover _ _).bringIn

theorem setExpected (es : List ExpectedEntry) : (b.setExpected es).idsUnique := h.onHatch _

theorem fileInbound (j : Job) (x : Cart) : (b.fileInbound j x).idsUnique := (h.setCustody _).setExpected _

theorem handInbound : b.handInbound.idsUnique := by
  have filed := (h.endSession .handed none).foldl (f := fun st (m : ManifestItem) =>
    st.fileInbound (b.hatch.session.job.getD 0) m.cart) (fun _ _ h => h.fileInbound _ _) b.hatch.session.manifest
  exact ((filed.handover b.hatch.session.manifest.length none).onSession fun x =>
    { x with manifest := [] }).settleSession

theorem hatchReport (r : Report) : (b.hatchReport r).idsUnique := by
  unfold Station.hatchReport
  split
  · exact h.onlyIf fun h => h.onSession _
  · exact h.ite (fun h => h.handInbound) fun h => h.settleSession
  · exact h.abortSession _

omit h in
/-- The owner acts on what an operation of the channel reports (R37). -/
theorem reported {p : Station × Option Report} (h : p.1.idsUnique) : (Station.reported p).idsUnique := by
  unfold Station.reported
  split
  · exact h.hatchReport _
  · exact h
  · exact h

theorem sessionExpired : b.sessionExpired.idsUnique := h.onlyIf fun h => (h.onSession _).abortSession _

theorem retry : b.retry.idsUnique := (h.command _).reported

theorem arrivalComes (e : MotionEnd) : (Station.reported (b.arrivalComes e)).idsUnique :=
  (h.of_motion (b.arrivalComes_motion e)).reported

theorem loadLeaves (e : MotionEnd) : (Station.reported (b.loadLeaves e)).idsUnique :=
  (h.of_motion (b.loadLeaves_motion e)).reported

theorem stopEvent (s : StallCause) : (Station.reported (b.stopEvent s)).idsUnique :=
  (h.of_motion (b.stopEvent_motion s)).reported

theorem travelExpired : (Station.reported b.travelExpired).idsUnique :=
  (h.of_motion b.travelExpired_motion).reported

theorem deadExpired : (Station.reported b.deadExpired).idsUnique := (h.of_motion b.deadExpired_motion).reported

theorem positionMoved (n : Nat) : (b.positionMoved n).idsUnique :=
  h.ite (fun h => h.arrivalComes .a) fun h => h.ite (fun h => h.loadLeaves .a) fun h => h

theorem setPosition (n : Nat) : (b.setPosition n).idsUnique := (h.onHatch _).positionMoved _

theorem encoderChanged (x y : Bool) : (b.encoderChanged x y).idsUnique := by
  have seen : (b.onHatch fun k => { k with refA := x, refB := y }).idsUnique := h.onHatch _
  unfold Station.encoderChanged
  dsimp only
  split
  · exact seen.stopEvent .encoder
  · exact seen.setPosition _

theorem flapChanged (o : Bool) : (b.flapChanged o).idsUnique :=
  h.ite (fun h => h.stopEvent .interlock) fun h => h.onlyIf fun h => h.retry

theorem innerEndClosed : b.innerEndClosed.idsUnique := (h.setPosition 0).arrivalComes .b

theorem sendPressed : b.sendPressed.idsUnique :=
  h.ite (fun h => h.retry) fun h => h.ite (fun h => (h.command .a).reported) fun h => h

theorem donePressed : b.donePressed.idsUnique :=
  h.ite (fun h => h.retry) fun h => h.ite (fun h => ((h.onSession _).command .b).reported) fun h => h

theorem hatchAlert (k : AlertKind) (x : Cart) : (b.hatchAlert k x).idsUnique := h.hand _ _ _

theorem setCustodyState (x : Cart) (s : CustodyState) : (b.setCustodyState x s).idsUnique := h.setCustody _

theorem beginSession (s : SessionState) (d : Direction) (j : Job) : (b.beginSession s d j).idsUnique :=
  h.onSession _

theorem courierCard (n : Cart) : (b.courierCard n).idsUnique :=
  h.ite (fun h => h) fun h => h.ite (fun h => h) fun h => h.ite (fun h => h) fun h =>
    h.ite (fun h => h.beginSession _ _ _) fun h =>
      h.ite (fun h => ((h.beginSession _ _ _).command .a).reported) fun h => h

theorem loadDrawer (x : Cart) : (b.loadDrawer x).idsUnique :=
  h.onlyIf fun h => (h.setCustodyState _ _).onSession _

theorem fileScanned (e : ExpectedEntry) : (b.fileScanned e).idsUnique :=
  h.ite (fun h => (h.setCustody _).setExpected _) fun h => h.hatchAlert _ _

theorem onward (e : CustodyEntry) (d : Addr) : (b.onward e d).idsUnique := by
  have opened := h.openXfer .inbound e.cart e.job none (some e.cart) d
  unfold Station.onward
  split
  · next o => exact (opened.of_answer o).setCustodyState _ _
  · next o => exact opened.of_answer o

theorem returned (x : Cart) : (b.returned x).idsUnique := by
  unfold Station.returned
  refine Station.idsUnique.setCustodyState ?_ _ _
  split
  · exact h.withdrawSending _
  · exact h

theorem scanCustody (e : CustodyEntry) : (b.scanCustody e).idsUnique := by
  unfold Station.scanCustody
  split
  · exact h.ite (fun h => h.loadDrawer _) fun h => h
  · split
    · exact h.onward _ _
    · exact h
  · exact h.returned _
  · exact h

theorem innerScan (x : Cart) : (b.innerScan x).idsUnique := by
  unfold Station.innerScan
  split
  · exact h.arrival _
  · refine h.ite (fun h => h) fun h => ?_
    split
    · exact h.fileScanned _
    · split
      · exact h.scanCustody _
      · exact h.makeClaim _

theorem presentScan (x : Cart) : (b.presentScan x).idsUnique :=
  h.ite (fun h => (h.onSession _).onlyIf fun h => h.handOutbound) fun h => h.hatchAlert _ _

theorem receiveScan (x : Cart) : (b.receiveScan x).idsUnique :=
  h.ite (fun h => h) fun h => h.ite (fun h => h.hatchAlert _ _) fun h => h.ite (fun h => h) fun h =>
    h.ite (fun h => h.hatchAlert _ _) fun h => h.onSession _

theorem outerScan (x : Cart) : (b.outerScan x).idsUnique := by
  unfold Station.outerScan
  split
  · exact h.presentScan x
  · exact h.onlyIf fun h => h.receiveScan x
  · exact h

theorem takeCheckin (src : Addr) (seq : Byte) (j : Job) (x : Cart) (d : Addr) :
    (Station.takeCheckin src seq j x d b).idsUnique := by
  have answer {y : Station} (o : ReplyOutcome) (h : y.idsUnique) : (y.reply .hatch src kindCheckin seq o).idsUnique :=
    h.reply _ _ _ _ _ _
  exact h.ite (answer _) fun h => h.ite (answer _) fun h => h.ite (answer _) fun h => h.ite (answer _) fun h =>
    h.ite (fun h => answer _ (h.setCustody _)) fun h => h.ite (answer _) fun h => h.ite (answer _) fun h =>
      answer _ (h.setExpected _)

theorem hatchQuery (src : Addr) (seq : Byte) (x : Cart) : (Station.hatchQuery src seq x b).idsUnique := by
  unfold Station.hatchQuery
  dsimp only
  split
  · exact h.reply _ _ _ _ _ _
  · split <;> exact h.reply _ _ _ _ _ _

/-! #### The slot table -/

theorem pullInserted (n : Nat) (x : Cart) :
    (b.pullInserted n x).idsUnique := h.of_stored (b.pullInserted_stored n x)

theorem removal (n : Nat) : (b.removal n).idsUnique := by
  unfold Station.removal
  dsimp only
  split
  · next c view =>
    have taken (u : Bool) : ((b.noticeDamage n).writeRecord n (.out c u)).idsUnique :=
      (h.noticeDamage n).writeKnown (congrArg Rec.cart view) rfl
    exact h.ite (fun _ => (taken false).of_stored (by simp)) fun h =>
      h.ite (fun _ => (taken false).auditLifted _ _) fun _ => (taken true).handAlert _ _
  · exact ((h.noticeDamage n).writeBare n rfl).auditLifted _ _
  · exact ((h.noticeDamage n).writeBare n rfl).auditLifted _ _
  · exact h.noticeDamage n

theorem strayInserted (n : Nat) : (b.strayInserted n).idsUnique := by
  have read := ((h.writeBare n (r := .stray) rfl).handAlert .slotTable
    (alertBody .strayInsert (some n) none)).readAll
  unfold Station.strayInserted
  dsimp only
  split
  · exact read.handAlert _ _
  · exact read

theorem insertionAt (n : Nat) : (b.insertionAt n).idsUnique := by
  unfold Station.insertionAt
  split
  · next view => exact (h.writeKnown (congrArg Rec.cart view) (by rfl)).pullInserted _ _
  · next view => exact (h.writeKnown (congrArg Rec.cart view) (by rfl)).xferReturned _
  · next view => exact (h.writeKnown (congrArg Rec.cart view) (by rfl)).xferInserted _ _ _
  · next view => exact (h.writeKnown (congrArg Rec.cart view) (by rfl)).xferInserted _ _ _
  · exact h.strayInserted _
  · exact h.strayInserted _
  · exact h
  · exact h
  · exact h

theorem insertion (n : Nat) : (b.insertion n).idsUnique := ((h.noticeDamage n).insertionAt n).auditInserted n

theorem setDebounced (n : Nat) (r : Bool) : (b.setDebounced n r).idsUnique :=
  h.of_contents (b.modifySlot_contents n fun _ => ⟨rfl, rfl⟩)

theorem settleSlot (n : Nat) (r : Bool) : (b.settleSlot n r).idsUnique :=
  (h.setDebounced n r).ite (fun h => h.set_bare (by cases r <;> rfl) (Station.putRecord_contents _ _ _)) fun h => h

theorem readSlot (n : Nat) (r : Bool) : (b.readSlot n r).idsUnique := by
  have stored : (b.modifySlot n fun s => { s with last := some r }).idsUnique :=
    h.of_contents (b.modifySlot_contents n fun _ => ⟨rfl, rfl⟩)
  unfold Station.readSlot
  refine stored.ite (fun h => h) fun h => ?_
  split
  · exact h.settleSlot _ _
  · exact (h.setDebounced _ _).ite (fun h => h.insertion _) fun h => h.removal _

/-- The readings of a scan stand at the matrix, and the timer to the next scan is loaded. -/
theorem onScan (f : Pins → Pins) (t : Timer) :
    ((b.onPins f).onTable fun x => { x with scanTimer := t }).idsUnique := h

theorem presenceScanned (r : BitVec 256) : (b.presenceScanned r).idsUnique :=
  h.foldl (fun _ _ h => h.readSlot _ _) _

theorem onHold (x : HoldSetting) (m : HoldMode) : (b.onTable fun t => { t with hold := x, mode := m }).idsUnique := h

theorem minuteExpired : b.minuteExpired.idsUnique := by
  refine h.onlyIf fun h => ?_
  have loaded : (b.onTable fun t => { t with minute := some (ticksOfSec 60) }).idsUnique := h
  refine loaded.readAll.mapRecords Rec.swept fun d => ?_
  unfold CartData.minute
  split <;> rfl

theorem markDischarge : b.markDischarge.idsUnique := h.readAll.mapRecords _ fun _ => rfl

theorem takeHoldSet (src : Addr) (seq e d x m : Byte) : (Station.takeHoldSet src seq e d x m b).idsUnique := by
  have answer {y : Station} (o : ReplyOutcome) (h : y.idsUnique) :
      (y.reply .slotTable src kindHoldSet seq o).idsUnique := h.reply _ _ _ _ _ _
  refine h.ite (answer _) fun h => h.ite (answer _) fun h => h.ite (answer _) fun h => ?_
  split
  · exact answer _ h
  · exact h.ite (answer _) fun h => h.ite (answer _) fun h => answer _ (h.onHold _ _).cancelHeld

theorem takeInspectClear (src : Addr) (seq : Byte) (n : Option Nat) :
    (Station.takeInspectClear src seq n b).idsUnique := by
  have answer {y : Station} (o : ReplyOutcome) (d : Option Detail) (h : y.idsUnique) :
      (y.reply .slotTable src kindInspectClear seq o d).idsUnique := h.reply _ _ _ _ _ _
  refine h.ite (answer _ _) fun h => h.ite (answer _ _) fun h => h.ite (answer _ _) fun h => ?_
  split
  · refine h.ite (answer _ _) fun h => ?_
    dsimp only
    split
    · exact answer _ _ (h.noticeDamage _)
    · next held =>
      exact answer _ _ ((h.noticeDamage _).set_known (by rw [Rec.mapCart_cart, held]; rfl)
        (Station.soundAt_of_view held) (Station.putRecord_contents _ _ _))
  · exact answer _ _ (h.readAll.mapRecords _ fun _ => rfl)

theorem answerRecord (src : Addr) (seq : Byte) (n : Nat) : (b.answerRecord src seq n).idsUnique :=
  (h.noticeDamage n).reply _ _ _ _ _ _

theorem takeQuerySlot (src : Addr) (seq : Byte) (n : Nat) : (Station.takeQuerySlot src seq n b).idsUnique :=
  h.ite (fun h => h.reply _ _ _ _ _ _) fun h => h.ite (fun h => h.reply _ _ _ _ _ _) fun h =>
    h.answerRecord _ _ _

theorem bayQuery (src : Addr) (seq : Byte) (x : Cart) : (Station.bayQuery src seq x b).idsUnique := by
  unfold Station.bayQuery
  dsimp only
  split
  · exact h.readAll.reply _ _ _ _ _ _
  · exact h.readAll.answerRecord _ _ _
  · exact h.readAll.answerRecord _ _ _

theorem takeQueryCartridge (src : Addr) (seq : Byte) (x : Cart) :
    (Station.takeQueryCartridge src seq x b).idsUnique := by
  unfold Station.takeQueryCartridge
  split
  · exact h.bayQuery _ _ _
  · exact h.hatchQuery _ _ _

theorem takeQuery (src : Addr) (seq : Byte) (q : QuerySel) : (Station.takeQuery src seq q b).idsUnique := by
  unfold Station.takeQuery
  split
  · exact h.takeQuerySlot _ _ _
  · exact h.takeQueryCartridge _ _ _
  · exact h.takeQueryTransfer _ _ _
  · exact h.takeQuerySlot _ _ _

/-! #### Check-out and the check station -/

theorem queuePull (e : PullEntry) : (b.queuePull e).idsUnique :=
  Station.idsUnique.pullsChanged (Station.idsUnique.reply (b := b.setPulls _) h _ _ _ _ _ _)

theorem checkoutLookup (src : Addr) (seq : Byte) (x : Cart) (j : Job) (d : Addr) :
    (b.checkoutLookup src seq x j d).idsUnique := by
  have refuse (o : ReplyOutcome) (h : b.idsUnique) : (b.reply .pulls src kindCheckout seq o).idsUnique :=
    h.reply _ _ _ _ _ _
  unfold Station.checkoutLookup
  dsimp only
  split
  · exact refuse _ h
  · exact h.ite (refuse _) (refuse _)
  · refine h.ite (refuse _) fun h => ?_
    split
    · exact refuse _ h
    · refine h.ite (refuse _) fun h => ?_
      split
      · exact refuse _ h
      · exact h.queuePull _

theorem checkoutTests (src : Addr) (seq : Byte) (x : Cart) (j : Job) (d : Addr) :
    (b.checkoutTests src seq x j d).idsUnique := by
  have refuse (o : ReplyOutcome) (h : b.idsUnique) : (b.reply .pulls src kindCheckout seq o).idsUnique :=
    h.reply _ _ _ _ _ _
  exact h.ite (refuse _) fun h => h.ite (refuse _) fun h => h.ite (refuse _) fun h => h.ite (refuse _) fun h =>
    h.readAll.checkoutLookup _ _ _ _ _

theorem takeCheckout (src : Addr) (seq : Byte) (all : Bool) (x : Cart) (j : Job) (d : Addr) :
    (Station.takeCheckout src seq all x j d b).idsUnique :=
  h.ite (fun h => h.ite (fun h => h) fun h => h.readAll.onlyIf fun h => h.checkoutTests _ _ _ _ _) fun h =>
    h.checkoutTests _ _ _ _ _

theorem takeCancel (src : Addr) (seq : Byte) (x : Cart) : (Station.takeCancel src seq x b).idsUnique := by
  have answer {y : Station} (o : ReplyOutcome) (h : y.idsUnique) : (y.reply .pulls src kindCancel seq o).idsUnique :=
    h.reply _ _ _ _ _ _
  refine h.ite (answer _) fun h => h.ite (answer _) fun h => h.ite (answer _) fun h => ?_
  split
  · exact answer _ h
  · exact h.ite (answer _) fun h => answer _ (h.cancelPulls _)

theorem departure (e : PullEntry) : (b.departure e).idsUnique := by
  have lost := (h.noticeDamage e.slot).cancelPulls fun x => decide (x.cart = e.cart)
  have opened := (h.noticeDamage e.slot).openXfer .outbound e.cart e.job (some e.slot) none e.hatch
  have same := (b.noticeDamage e.slot).openXfer_stored .outbound e.cart e.job (some e.slot) none e.hatch
  unfold Station.departure
  dsimp only
  split
  · next view =>
    have known := Station.soundAt_of_view (congrArg Rec.cart view)
    split
    · split
      · next o =>
        rw [o] at same
        exact (opened.of_answer o).set_known (by rfl) (known.of_contents (Station.contents_of_stored same))
          (Station.putRecord_contents _ _ _)
      · next o => exact opened.of_answer o
    · exact lost
  · exact lost

theorem wrongCartridge (n : Nat) (x : Cart) : (b.wrongCartridge n x).idsUnique := h.hand _ _ _

theorem strangeScan (x : Cart) : (b.strangeScan x).idsUnique := by
  unfold Station.strangeScan
  dsimp only
  split
  · exact h.readAll.makeClaim _
  · exact h.readAll
  · exact h.readAll.wrongCartridge _ _
  · exact h.readAll.wrongCartridge _ _
  · exact h.readAll

theorem checkStation (x : Cart) : (b.checkStation x).idsUnique := by
  refine h.ite (fun h => h.auditScan _) fun h => ?_
  split
  · exact h.departure _
  · split
    · exact h.arrival _
    · exact h.strangeScan _

/-! #### The dry-air unit -/

theorem evalForcedSafe : b.evalForcedSafe.idsUnique := by
  unfold Station.evalForcedSafe
  split
  · exact h
  · split
    · exact (h.onAir _).command _
    · exact (h.onAir _).command _

theorem followAir : b.followAir.idsUnique := h.onlyIf fun h => h.evalForcedSafe

/-! #### The fire state -/

theorem onTransits (f : Transit → Transit) : (b.onTransits f).idsUnique := h.setXfers _

theorem abandonRestart : b.abandonRestart.idsUnique := h

theorem followConfirmed : b.followConfirmed.idsUnique :=
  ((h.followAir.pullsChanged.auditAbort.onTransits _).abortSession .fire).abandonRestart

theorem followUnconfirmed : b.followUnconfirmed.idsUnique := h.followAir.pullsChanged.onTransits _

theorem setFire (f : FireState) : (b.setFire f).idsUnique := by
  have taken : (b.onSupp (·.take f)).idsUnique := h
  unfold Station.setFire
  exact (taken.ite (fun h => h) fun h => h.ite (fun h => h.followConfirmed) fun h => h.followUnconfirmed).handFireReport

theorem enterCountdown : b.enterCountdown.idsUnique := by
  unfold Station.enterCountdown
  exact onlyIf ((h.onSupp _).setFire _) fun h => (h.onSupp _).setFire _

theorem confirm : b.confirm.idsUnique := by
  unfold Station.confirm
  exact h.ite (fun h => (h.onSupp _).setFire _) fun h => h.enterCountdown

theorem takeLatch : b.takeLatch.idsUnique :=
  h.ite (fun h => h) fun h => h.ite (fun h => h.confirm) fun h => h.onlyIf fun h => h.setFire _

theorem takeManualLatch : b.takeManualLatch.idsUnique :=
  h.ite (fun h => h) fun h => enterCountdown (h.onSupp _)

theorem latched (k : LoopKind) : (b.latched k).idsUnique := by
  cases k
  · exact h
  · exact h.takeLatch
  · exact h.takeLatch
  · exact h.takeManualLatch

theorem loopSampled (n : Fin 4) (code : BitVec 10) : (b.loopSampled n code).idsUnique :=
  h.ite (fun h => h) fun h => (h.onDet _).ite (fun h => (h.onDet _).latched _) fun h => h

theorem neighbourTest : b.neighbourTest.idsUnique := h.onlyIf fun h => h.confirm

theorem holdSwitch (x : Bool) : (b.holdSwitch x).idsUnique := by
  have read := (h.onPins fun p => { p with holdInput := x }).onSupp fun s =>
    { s with holdClosed := x, holdFilter := none }
  unfold Station.holdSwitch
  dsimp only
  split
  · exact (read.onSupp _).setFire _
  · exact read.enterCountdown
  · exact read

theorem evacuationExpired : b.evacuationExpired.idsUnique := h.onlyIf fun h => h.enterCountdown

theorem countdownExpired : b.countdownExpired.idsUnique := by
  refine h.onlyIf fun h => ?_
  dsimp only
  split
  · exact (h.onSupp _).setFire _
  · exact ((h.onSupp _).onSupp _).setFire _

theorem pulseExpired : b.pulseExpired.idsUnique :=
  h.onlyIf fun h => ((((h.onSupp _).handFire _).onlyIf fun h => h.markDischarge).onSupp _).setFire _

theorem soakExpired : b.soakExpired.idsUnique := h.onlyIf fun h => (h.onSupp _).setFire _

theorem takeRestore (src : Addr) (seq : Byte) : (Station.takeRestore src seq b).idsUnique := by
  have answer {y : Station} (o : ReplyOutcome) (h : y.idsUnique) :
      (y.reply .suppression src kindRestore seq o).idsUnique := h.reply _ _ _ _ _ _
  exact h.ite (answer _) fun h => h.ite (answer _) fun h => h.ite (answer _) fun h => h.ite (answer _) fun h =>
    answer _ (((h.onDet _).onSupp _).setFire _)

/-! #### The door -/

theorem emptyBayCheck (n : Nat) : (b.emptyBayCheck n).idsUnique := by
  unfold Station.emptyBayCheck
  dsimp only
  split
  · exact (h.noticeDamage n).onlyIf fun h => h.handAlert _ _
  · exact h.noticeDamage n

theorem bayEmptied : b.bayEmptied.idsUnique :=
  Station.idsUnique.foldl (h.onlyIf fun h => h.enterCountdown) (fun _ n h => h.emptyBayCheck n) _

theorem unlockPulse : b.unlockPulse.idsUnique := h

theorem badgeRead (id : Cart) : (b.badgeRead id).idsUnique := by
  unfold Station.badgeRead
  split
  · exact (h.onDoor _).unlockPulse.onlyIf fun h => h.bayEmptied
  · refine h.ite (fun h => h) fun h => ?_
    split
    · exact h
    · exact (h.onDoor _).unlockPulse

theorem takeOccupancyClear (src : Addr) (seq : Byte) : (Station.takeOccupancyClear src seq b).idsUnique := by
  have answer {y : Station} (o : ReplyOutcome) (h : y.idsUnique) :
      (y.reply .door src kindOccupancyClear seq o).idsUnique := h.reply _ _ _ _ _ _
  exact h.ite (answer _) fun h => h.ite (answer _) fun h => h.ite (answer _) fun h => h.ite (answer _) fun h =>
    answer _ (h.onDoor _).bayEmptied

/-! #### Messages -/

theorem modifyPeer (src : Addr) (f : Peer → Peer) : (b.modifyPeer src f).idsUnique := h.onPeers _

theorem takeStatus (src : Addr) (x : StatusBody) : (Station.takeStatus src x b).idsUnique := by
  unfold Station.takeStatus
  split
  · exact h.modifyPeer _ _
  · exact (h.modifyPeer _ _).onlyIf fun h => h.neighbourTest

theorem takeFireReport (src : Addr) (x : FireReportBody) : (Station.takeFireReport src x b).idsUnique := by
  unfold Station.takeFireReport
  split
  · exact h.modifyPeer _ _
  · exact (h.modifyPeer _ _).onlyIf fun h => h.neighbourTest

theorem takeDischarge (src : Addr) (x : Byte) : (Station.takeDischarge src x b).idsUnique :=
  (h.modifyPeer _ _).onlyIf fun h => (h.onAir _).evalForcedSafe

/-- A message of another station: its record is refreshed, then its block acts (R168). -/
theorem refreshed (src : Addr) {f : Station → Station} (hf : ∀ {s : Station}, s.idsUnique → (f s).idsUnique) :
    (Station.refreshed src f b).idsUnique := hf (h.modifyPeer src _)

theorem enterClash : b.enterClash.idsUnique :=
  h.ite (fun h => h) fun h => ((h.onLoader _).onLine _).pullsChanged

theorem fromPeer (src : Addr) {f : Station → Station} (hf : b.idsUnique → (f b).idsUnique) :
    (Station.fromPeer src f b).idsUnique :=
  h.onlyIf fun h => h.ite (fun h => h.enterClash) fun h => h.onlyIf hf

theorem fromConsole (src : Addr) {f : Station → Station} (hf : b.idsUnique → (f b).idsUnique) :
    (Station.fromConsole src f b).idsUnique :=
  h.onlyIf fun h => h.ite (fun h => h.enterClash) fun h => h.onlyIf hf

theorem takeRestart (src : Addr) (seq : Byte) : (Station.takeRestart src seq b).idsUnique :=
  h.ite (fun h => h) fun h => h.ite (fun h => h.reply _ _ _ _ _ _) fun h =>
    h.ite (fun h => h.reply _ _ _ _ _ _) fun h => (h.onLoader _).reply _ _ _ _ _ _

theorem deliver (m : RxMsg) : (b.deliver m).idsUnique := by
  unfold Station.deliver
  split
  · exact h.takeStatus _ _
  · exact h.takeFireReport _ _
  · exact h.takeDischarge _ _
  · exact h.refreshed _ id
  · exact h.refreshed _ fun h => h.takeOffer _ _ _ _ _
  · exact h.refreshed _ fun h => h.takeAccept _ _ _
  · exact h.refreshed _ fun h => h.takeRefuse _ _ _
  · exact h.refreshed _ fun h => h.takeArrive _ _
  · exact h.refreshed _ fun h => h.takeClaim _ _
  · exact h.refreshed _ fun h => h.takeClose _ _ _ _
  · exact h.refreshed _ fun h => h.takeWithdraw _ _
  · exact h.refreshed _ id
  · exact h.refreshed _ id
  · exact h.takeCheckout _ _ _ _ _ _
  · exact h.takeCheckin _ _ _ _ _
  · exact h.takeCancel _ _ _
  · exact h.takeHoldSet _ _ _ _ _ _
  · exact h.takeInspectClear _ _ _
  · exact h.takeAudit _ _ _ _
  · exact h.takeRestore _ _
  · exact h.takeOccupancyClear _ _
  · exact h.takeQuery _ _ _
  · exact h.takeRestart _ _

theorem hear (m : RxMsg) : (b.hear m).idsUnique := h

theorem receive (bs : List Byte) : (b.receive bs).idsUnique := by
  refine h.ite (fun h => h) fun h => h.ite (fun h => h.onLine _) fun h => ?_
  split
  · exact h
  · exact h.ite (fun h => h.enterClash) fun h => h.ite (fun h => h) fun h =>
      (h.hear _).ite (fun h => h) fun h => h.deliver _

/-! #### Access to the line -/

theorem sendStatus : b.sendStatus.idsUnique := ((h.onlyIf fun h => h.readAll).onLine _).select

theorem loadBeacon : b.loadBeacon.idsUnique := h

theorem beaconExpired : b.beaconExpired.idsUnique := h.onlyIf fun h => h.loadBeacon.sendStatus

theorem lineFaultExpired : b.lineFaultExpired.idsUnique := h.onlyIf fun h => (h.onLine _).select

theorem lineBecomesIdle : b.lineBecomesIdle.idsUnique := (h.onLine _).select

/-! #### Starts -/

/-- The slots rewritten beside their records. -/
theorem mapSlots {f : Slot → Slot} (hf : ∀ sl, (f sl).record = sl.record ∧ (f sl).difference = sl.difference) :
    (b.onTable fun t => { t with slots := t.slots.map f }).idsUnique :=
  h.of_contents (by simp [Station.contents, Station.onTable, Function.comp_def, hf])

/-- A start leaves the records as retention has them (R105). -/
theorem restartNow : b.restartNow.idsUnique := h.mapSlots (f := Slot.start) fun _ => ⟨rfl, rfl⟩

theorem outputsOff : b.outputsOff.idsUnique := h

theorem transmitted : b.transmitted.idsUnique := by
  unfold Station.transmitted
  split
  · exact h.ite (fun h => h.restartNow) fun h => (h.onLine _).offerPlaces
  · exact h
  · exact h

theorem fault (n : Nat) : (b.fault n).idsUnique := h.onLoader _

theorem imageRead (straps : BitVec 5) (r : ImageRead) : (b.imageRead straps r).idsUnique := by
  refine h.ite (fun h => h.fault _) fun h => h.ite (fun h => h.fault _) fun h => ?_
  split
  · exact h.fault _
  · exact h.ite (fun h => h.fault _) fun h => (h.onLoader _).onPeers _

/-- R106: a slot marked for the rebuild holds no cartridge. -/
theorem emptyRetained : b.emptyRetained.idsUnique := by
  refine h.of_soundAt fun n x held => ?_
  obtain ⟨sl, here, -, holds⟩ := Station.soundAt_iff.mp held
  change (b.table.slots.map Slot.mark)[n]? = some sl at here
  rw [List.getElem?_map] at here
  obtain ⟨old, -, rfl⟩ := Option.map_eq_some_iff.mp here
  simp [Slot.holds, Slot.mark, Rec.cart] at holds

theorem markUnplanned (n : Nat) : (b.markUnplanned n).idsUnique := by
  unfold Station.markUnplanned
  split
  · exact h.ite (fun h => h) fun h => h.setUnplanned _
  · exact h

theorem startBay : b.startBay.idsUnique := by
  have copied := h.mapSlots (f := Slot.fromRecord) fun _ => ⟨rfl, rfl⟩
  have limited := copied.readAll.mapRecords (fun _ => true) (f := CartData.limit b.cfg.expoLimit) fun _ => rfl
  exact limited.cancelHeld.foldl (f := Station.markUnplanned) (fun _ n h => h.markUnplanned n) (List.range 256)

theorem startLists : b.startLists.idsUnique := h

theorem settleRetention : b.settleRetention.idsUnique := by
  unfold Station.settleRetention
  exact ((h.ite (fun h => h.emptyRetained) fun h => h).startLists).onlyIf fun h => h.startBay

theorem listenLamp (e : XferEntry) : (b.listenLamp e).idsUnique := by
  unfold Station.listenLamp
  split
  · exact h.ite (fun h => h.askLamp _ _) fun h => h.ite (fun h => h.askLamp _ _) fun h => h
  · exact h
  · exact h

theorem listenXfers : b.listenXfers.idsUnique :=
  (h.setXfers _).foldl (fun _ e h => h.listenLamp e) _

theorem listenMotion : b.listenMotion.idsUnique := ((h.onMotion _).command _).reported

theorem listenBay : b.listenBay.idsUnique := h

theorem enterListen : b.enterListen.idsUnique :=
  (onlyIf (((h.onLoader _).onDet _).onSupp _) fun h => h.listenBay).listenXfers.listenMotion

theorem selftested (ok : Bool) : (b.selftested ok).idsUnique :=
  h.ite (fun h => h.settleRetention.enterListen) fun h => h.fault 4

theorem rejoinXfer (e : XferEntry) : (b.rejoinXfer e).idsUnique := by
  unfold Station.rejoinXfer
  split
  · exact (h.modifyXfer _ _).resend _
  · exact (h.modifyXfer _ _).resend _
  · exact h

theorem enterJoined : b.enterJoined.idsUnique :=
  ((h.onLoader _).loadBeacon.sendStatus.pullsChanged.foldl (fun _ e h => h.rejoinXfer e) _).offerPlaces

end Station.idsUnique

/-! ### Every command -/

/-- Every command but a power-up answers a next state that keeps R87. -/
theorem exec_idsUnique (c : Instr) {s : Machine.State} (hc : ∀ decay, c ≠ .powerUp decay)
    (h : s.station.idsUnique) :
    ∃ st : Station, Machine.exec c s = .next (s.put st) ∧ st.idsUnique := by
  cases c with
  | powerUp decay => exact absurd rfl (hc decay)
  | resetLineAssert => exact ⟨_, rfl, h.outputsOff.onLoader _⟩
  | resetLineRelease => exact ⟨_, rfl, (h.onLoader _).onlyIf fun h => h.restartNow⟩
  | powerLoss => exact ⟨_, rfl, h.outputsOff.onLoader _⟩
  | imageReadComplete straps read => exact ⟨_, rfl, h.onlyIf fun h => h.imageRead straps read⟩
  | selftestComplete ok => exact ⟨_, rfl, h.onlyIf fun h => h.selftested ok⟩
  | listenEnd => exact ⟨_, rfl, h.onlyIf fun h => h.enterJoined⟩
  | restart src seq => exact ⟨_, rfl, h.fromConsole src fun h => h.takeRestart src seq⟩
  | restartTimerExpiry => exact ⟨_, rfl, h.onlyIf fun h => h.restartNow⟩
  | restartStart => exact ⟨_, rfl, h.onlyIf fun h => h.restartNow⟩
  | measurementSlot => exact ⟨_, rfl, h.onlyIf fun h => h.onMoist _⟩
  | captureComplete event =>
    cases event with
    | level count => exact ⟨_, rfl, h.onPins _⟩
    | complete count => exact ⟨_, rfl, h.onlyIf fun h => h⟩
  | excursionDelayExpiry => exact ⟨_, rfl, h.onlyIf fun h => h.onMoist _⟩
  | adcScan => exact ⟨_, rfl, h.onlyIf fun h => h.onDet _⟩
  | loopSample n event =>
    cases event with
    | level code => exact ⟨_, rfl, h.onPins _⟩
    | sample code => exact ⟨_, rfl, h.onlyIf fun h => (h.onDet _).loopSampled n code⟩
  | temperatureCode event =>
    cases event with
    | level code => exact ⟨_, rfl, h.onPins _⟩
    | sample code => exact ⟨_, rfl, h.onlyIf fun h => (h.onDet _).onlyIf fun h => h.onMoist _⟩
  | batteryCode event =>
    cases event with
    | level code => exact ⟨_, rfl, h.onPins _⟩
    | sample code => exact ⟨_, rfl, h.onlyIf fun h => h.onDet _⟩
  | valvePeriodExpiry => exact ⟨_, rfl, h.onlyIf fun h => h.onAir _⟩
  | onTimeExpiry => exact ⟨_, rfl, h.onlyIf fun h => h.onAir _⟩
  | neighbourSealExpiry => exact ⟨_, rfl, h.onlyIf fun h => h.onlyIf fun h => (h.onAir _).evalForcedSafe⟩
  | deadTimeExpiry => exact ⟨_, rfl, h.onlyIf fun h => h.deadExpired⟩
  | travelExpiry => exact ⟨_, rfl, h.onlyIf fun h => h.travelExpired⟩
  | endSwitchClose sw =>
    refine ⟨_, rfl, (h.onPins _).onlyIf fun h => ?_⟩
    split
    · exact h.arrivalComes .a
    · exact h.arrivalComes .b
    · exact h.innerEndClosed
    · exact h
  | endSwitchOpen sw =>
    refine ⟨_, rfl, (h.onPins _).onlyIf fun h => ?_⟩
    split
    · exact h.loadLeaves _
    · exact h
  | holdSwitchChange event =>
    cases event with
    | level closed => exact ⟨_, rfl, (h.onPins _).onlyIf fun h => h.onSupp _⟩
    | filtered closed => exact ⟨_, rfl, h.onlyIf fun h => h.holdSwitch closed⟩
  | evacuationExpiry => exact ⟨_, rfl, h.onlyIf fun h => h.evacuationExpired⟩
  | countdownExpiry => exact ⟨_, rfl, h.onlyIf fun h => h.countdownExpired⟩
  | releasePulseExpiry => exact ⟨_, rfl, h.onlyIf fun h => h.pulseExpired⟩
  | soakExpiry => exact ⟨_, rfl, h.onlyIf fun h => h.soakExpired⟩
  | restore src seq => exact ⟨_, rfl, h.fromConsole src fun h => h.takeRestore src seq⟩
  | attendantRead cls number => exact ⟨_, rfl, h.onlyIf fun h => h.badgeRead number⟩
  | doorUnlockExpiry => exact ⟨_, rfl, h.onlyIf fun h => h.onDoor _⟩
  | occupancyClear src seq => exact ⟨_, rfl, h.fromConsole src fun h => h.takeOccupancyClear src seq⟩
  | presenceScan event =>
    cases event with
    | level readings => exact ⟨_, rfl, h.onPins _⟩
    | scan readings => exact ⟨_, rfl, h.onlyIf fun h => (h.onScan _ _).presenceScanned readings⟩
  | minuteTimerExpiry => exact ⟨_, rfl, h.onlyIf fun h => h.minuteExpired⟩
  | keySwitchChange event =>
    cases event with
    | level on => exact ⟨_, rfl, (h.onPins _).onlyIf fun h => h⟩
    | filtered on => exact ⟨_, rfl, h.onlyIf fun h => h⟩
  | holdSet src seq e d c m => exact ⟨_, rfl, h.fromConsole src fun h => h.takeHoldSet src seq e d c m⟩
  | inspectClear src seq n => exact ⟨_, rfl, h.fromConsole src fun h => h.takeInspectClear src seq n⟩
  | querySlot src seq n => exact ⟨_, rfl, h.fromConsole src fun h => h.takeQuerySlot src seq n⟩
  | queryCartridge src seq c => exact ⟨_, rfl, h.fromConsole src fun h => h.takeQueryCartridge src seq c⟩
  | queryTransfer src seq t => exact ⟨_, rfl, h.fromConsole src fun h => h.takeQueryTransfer src seq t⟩
  | checkout src seq all c j d => exact ⟨_, rfl, h.fromConsole src fun h => h.takeCheckout src seq all c j d⟩
  | cancel src seq c => exact ⟨_, rfl, h.fromConsole src fun h => h.takeCancel src seq c⟩
  | checkStationScan cls n => exact ⟨_, rfl, h.onlyIf fun h => h.checkStation n⟩
  | audit src seq f l => exact ⟨_, rfl, h.fromConsole src fun h => h.takeAudit src seq f l⟩
  | auditStepExpiry => exact ⟨_, rfl, h.onlyIf fun h => h.auditAbort⟩
  | offer src t c j d =>
    exact ⟨_, rfl, h.fromPeer src fun h => h.refreshed src fun h => h.takeOffer src t c j d⟩
  | accept src t n => exact ⟨_, rfl, h.fromPeer src fun h => h.refreshed src fun h => h.takeAccept src t n⟩
  | refuse src t r => exact ⟨_, rfl, h.fromPeer src fun h => h.refreshed src fun h => h.takeRefuse src t r⟩
  | arrive src t => exact ⟨_, rfl, h.fromPeer src fun h => h.refreshed src fun h => h.takeArrive src t⟩
  | close src t c j =>
    exact ⟨_, rfl, h.fromPeer src fun h => h.refreshed src fun h => h.takeClose src t c j⟩
  | withdraw src t => exact ⟨_, rfl, h.fromPeer src fun h => h.refreshed src fun h => h.takeWithdraw src t⟩
  | claim src c => exact ⟨_, rfl, h.fromPeer src fun h => h.refreshed src fun h => h.takeClaim src c⟩
  | replyTimerExpiry t => exact ⟨_, rfl, h.onlyIf fun h => h.replyExpired t⟩
  | transitExpiry t => exact ⟨_, rfl, h.onlyIf fun h => h.transitExpired t⟩
  | claimTimerExpiry c => exact ⟨_, rfl, h.onlyIf fun h => h.claimExpired c⟩
  | checkin src seq j c d => exact ⟨_, rfl, h.fromConsole src fun h => h.takeCheckin src seq j c d⟩
  | innerRead cls n => exact ⟨_, rfl, h.onlyIf fun h => h.innerScan n⟩
  | courierRead n => exact ⟨_, rfl, h.onlyIf fun h => h.courierCard n⟩
  | outerCartridgeRead c => exact ⟨_, rfl, h.onlyIf fun h => h.outerScan c⟩
  | sendPress event =>
    cases event with
    | level down => exact ⟨_, rfl, (h.onPins _).onlyIf fun h => h.onHatch _⟩
    | press => exact ⟨_, rfl, h.onlyIf fun h => ((h.onPins _).onHatch _).sendPressed⟩
  | donePress event =>
    cases event with
    | level down => exact ⟨_, rfl, (h.onPins _).onlyIf fun h => h.onHatch _⟩
    | press => exact ⟨_, rfl, h.onlyIf fun h => ((h.onPins _).onHatch _).donePressed⟩
  | sessionTimerExpiry => exact ⟨_, rfl, h.onlyIf fun h => h.sessionExpired⟩
  | encoderTransition x y => exact ⟨_, rfl, (h.onPins _).onlyIf fun h => h.encoderChanged x y⟩
  | flapChange f o => exact ⟨_, rfl, (h.onPins _).onlyIf fun h => h.flapChanged o⟩
  | status src b => exact ⟨_, rfl, h.fromPeer src fun h => h.takeStatus src b⟩
  | fireReport src b => exact ⟨_, rfl, h.fromPeer src fun h => h.takeFireReport src b⟩
  | discharge src x => exact ⟨_, rfl, h.fromPeer src fun h => h.takeDischarge src x⟩
  | custodyAlert src b => exact ⟨_, rfl, h.fromPeer src fun h => h.refreshed src id⟩
  | handover src b => exact ⟨_, rfl, h.fromPeer src fun h => h.refreshed src id⟩
  | peerSilent a => exact ⟨_, rfl, h.onlyIf fun h => h.modifyPeer _ _⟩
  | peerLost a => exact ⟨_, rfl, h.onlyIf fun h => h.modifyPeer _ _⟩
  | frameReceive bs => exact ⟨_, rfl, h.onlyIf fun h => h.receive bs⟩
  | beaconExpiry => exact ⟨_, rfl, h.onlyIf fun h => h.beaconExpired⟩
  | lineFaultExpiry => exact ⟨_, rfl, h.onlyIf fun h => h.lineFaultExpired⟩
  | lineIdle => exact ⟨_, rfl, h.onlyIf fun h => h.lineBecomesIdle⟩
  | accessDelayExpiry => exact ⟨_, rfl, h.onlyIf fun h => h.onLine _⟩
  | characterDuringWait => exact ⟨_, rfl, h.onlyIf fun h => h.onLine _⟩
  | transmitSuccess => exact ⟨_, rfl, h.onlyIf fun h => h.transmitted⟩
  | readbackFailure => exact ⟨_, rfl, h.onlyIf fun h => h.onLine _⟩

/-- Settles O23: `exec_idsUnique`, for every command but a power-up. -/
theorem cartridgeIdsStayUnique : Obligations.CartridgeIdsStayUnique := by
  intro c s t hc next unique
  obtain ⟨st, answered, kept⟩ := exec_idsUnique c hc unique
  rw [answered] at next
  cases next
  exact kept

end Sys2Proof
end

section
/-! SUPPORT. The held set (R97): what the hold setting computes, and the four places that test membership. -/

namespace Sys2Proof

/-- R97: the base set of an extent of at most 8. -/
theorem HoldSetting.base_iff {h : HoldSetting} (n : Nat) :
    h.base n = true ↔ h.extent ≠ 0 ∧
      ((h.holdEnd = .low ∧ n ≤ 2 ^ h.extent - 1) ∨ (h.holdEnd = .high ∧ 256 - 2 ^ h.extent ≤ n)) := by
  have some : 0 < 2 ^ h.extent := Nat.two_pow_pos _
  unfold HoldSetting.base
  by_cases zero : h.extent = 0
  · simp [zero]
  · cases side : h.holdEnd <;> simp [zero]
    omega

theorem HoldSetting.held_clear {h : HoldSetting} (clear : h.complement = false) (n : Nat) : h.held n = h.base n := by
  simp [HoldSetting.held, clear]

theorem HoldSetting.held_complement {h : HoldSetting} (set : h.complement = true) (n : Nat) :
    h.held n = !h.base n := by
  simp [HoldSetting.held, set]

theorem Station.recordImage_held (st : Station) (n : Nat) : (st.recordImage n).held = st.table.hold.held n := by
  unfold Station.recordImage
  dsimp only
  split <;> rfl

theorem Station.isFreeSlot_iff {st : Station} {n : Nat} :
    st.isFreeSlot n = true ↔
      (st.table.slot n).difference = 0 ∧ (st.table.slot n).record = .vacant ∧ st.table.hold.held n = false := by
  simp [Station.isFreeSlot, Slot.sound, Station.isHeld, and_assoc]

/-- A reserve takes a free slot of the table as it has been read (R94, R104). -/
theorem Station.reserveWrite_free {st : Station} {c : Cart} {t : Tid} {n : Nat}
    (h : (st.reserveWrite c t).2 = .slot n) : st.readAll.isFreeSlot n = true := by
  unfold Station.reserveWrite at h
  dsimp only at h
  split at h
  · cases h
  · split at h
    · cases h
    · next found =>
      cases h
      exact List.find?_some found

/-- Settles O22: the set itself, then a CHECKOUT's refusal and a free slot, a QUERY's image, and a reserve. -/
theorem heldSetComputed : Obligations.HeldSetComputed := by
  refine ⟨fun h n _ _ => ⟨fun clear => ?_, fun set => ?_⟩, fun st n r held => ⟨if_pos held, ?_⟩,
    Station.recordImage_held, fun st c t n reserved => ?_⟩
  · rw [HoldSetting.held_clear clear]
    exact HoldSetting.base_iff n
  · rw [HoldSetting.held_complement set, Bool.not_eq_true', ← Bool.not_eq_true]
    exact not_congr (HoldSetting.base_iff n)
  · refine Bool.eq_false_iff.mpr fun free => ?_
    obtain ⟨-, -, outside⟩ := Station.isFreeSlot_iff.mp free
    exact Bool.false_ne_true (outside.symm.trans held)
  · obtain ⟨-, -, outside⟩ := Station.isFreeSlot_iff.mp (Station.reserveWrite_free reserved)
    rwa [Station.hold_of_stored st.readAll_stored] at outside

end Sys2Proof
end

section
/-! SUPPORT. Presence at a slot (R91 to R93): one slot's reading, a record first found DAMAGED, a removal, and what
an insertion leaves in the record. -/

namespace Sys2Proof

theorem exec_presenceScan_level (s : Machine.State) (readings : BitVec 256) :
    Machine.exec (.presenceScan (.level readings)) s
      = .next (s.put { s.station with pins := { s.station.pins with matrix := readings } }) := rfl

theorem exec_presenceScan_scan (s : Machine.State) (readings : BitVec 256) :
    Machine.exec (.presenceScan (.scan readings)) s
      = .next (s.put (s.station.onlyIf s.station.bay fun st => Station.presenceScanned
          { st with
            pins := { st.pins with matrix := readings }
            table := { st.table with scanTimer := some 62500 } } readings)) := rfl

section
variable {st : Station} {n : Nat} {sl : Slot}

/-! ### One slot's reading (R91) -/

theorem Station.modifySlot_modifySlot (st : Station) (n : Nat) (f g : Slot → Slot) :
    (st.modifySlot n f).modifySlot n g = st.modifySlot n (g ∘ f) := by
  simp [Station.modifySlot, Station.onTable, SlotTable.modify, List.modify_modify_eq]

theorem Station.modifySlot_slot (here : st.table.slots[n]? = some sl) (f : Slot → Slot) :
    (st.modifySlot n f).table.slots[n]? = some (f sl) := by
  change (st.table.slots.modify n f)[n]? = _
  rw [List.getElem?_modify, here]
  simp

theorem Station.modifySlot_slot_ne {m : Nat} (st : Station) (f : Slot → Slot) (other : m ≠ n) :
    (st.modifySlot n f).table.slot m = st.table.slot m := by
  unfold SlotTable.slot
  change (st.table.slots.modify n f).getD m _ = _
  simp [List.getD_eq_getElem?_getD, Ne.symm other]

/-- A reading that is equal to the copy, or not yet read twice, is stored as the last one. -/
theorem Station.readSlot_stored {r : Bool}
    (h : (st.table.slot n).debounced = some r ∨ (st.table.slot n).last ≠ some r) :
    st.readSlot n r = st.modifySlot n fun s => { s with last := some r } := if_pos h

/-- A reading different from the copy and read twice is the copy, and the change is taken. -/
theorem Station.readSlot_changed {r copy : Bool} (had : (st.table.slot n).debounced = some copy) (differs : r ≠ copy)
    (again : (st.table.slot n).last = some r) :
    st.readSlot n r =
      if r then (st.modifySlot n fun s => { s with last := some r, debounced := some r }).insertion n
      else (st.modifySlot n fun s => { s with last := some r, debounced := some r }).removal n := by
  unfold Station.readSlot
  dsimp only
  rw [if_neg (by simp [had, again, Ne.symm differs]), had]
  dsimp only
  rw [Station.setDebounced, Station.modifySlot_modifySlot]
  rfl

/-! ### Writes that leave the pull queue alone (R111) -/

/-- A record that holds a pull entry's cartridge in FILED or OUT keeps the entry. -/
def Rec.keepsPull (r : Rec) (e : PullEntry) : Bool :=
  match r with
  | .filed c | .out c _ => decide (c.id = e.cart)
  | _ => false

theorem Station.writeRecord_eq (st : Station) (n : Nat) (r : Rec) :
    st.writeRecord n r = (st.withRecord n r).cancelPulls fun e => decide (e.slot = n) && !r.keepsPull e := rfl

/-- A write that every entry of the slot outlasts writes the record alone. -/
theorem Station.writeRecord_of_kept {r : Rec} (h : ∀ e ∈ st.pulls.entries, e.slot = n → r.keepsPull e = true) :
    st.writeRecord n r = st.withRecord n r := by
  rw [Station.writeRecord_eq]
  refine Station.cancelPulls_of_none fun e he => ?_
  by_cases slot : e.slot = n
  · simp [h e he slot]
  · simp [slot]

section
variable {c d : CartData} (own : ∀ e ∈ st.pulls.entries, e.slot = n → e.cart = c.id) (same : d.id = c.id)
include own same

theorem Station.writeRecord_filed : st.writeRecord n (.filed d) = st.withRecord n (.filed d) :=
  Station.writeRecord_of_kept fun e he slot => decide_eq_true (same.trans (own e he slot).symm)

theorem Station.writeRecord_out (u : Bool) : st.writeRecord n (.out d u) = st.withRecord n (.out d u) :=
  Station.writeRecord_of_kept fun e he slot => decide_eq_true (same.trans (own e he slot).symm)

end

/-! ### A record first found DAMAGED (R89, R90) -/

/-- The report of a slot's damage given: SENT, and its alert to ALL with the stored cartridge id in the queue. -/
def Station.damageTold (st : Station) (n : Nat) (sl : Slot) : Station :=
  ({ st with table := { st.table with slots := st.table.slots.set n { sl with damage := .sent } } } : Station).post
    .slotTable 255 (.custodyAlert
      { kind := 3, slot := some (BitVec.ofNat 8 n), cart := sl.record.cart.map CartData.id, cart2 := none
        tid := none, reason := none })

section
variable (joined : st.joined = true) (busy : st.line.idle = false) (room : st.line.queue.length < 16)
  (pend : st.line.pend = []) (told : ∀ sm ∈ st.table.slots, ∀ k, sm.damage ≠ .pending k)
  (here : st.table.slots[n]? = some sl)
include joined busy room pend told here

/-- The report of a slot alone, owed where the queue has room, is given at once. -/
theorem Station.offerPlaces_damage :
    ((st.modifySlot n fun s => { s with damage := .pending st.line.made }).numbered).offerPlaces
      = st.damageTold n sl := by
  obtain ⟨x, hx⟩ : ∃ x, x = (st.modifySlot n fun s => { s with damage := .pending st.line.made }).numbered :=
    ⟨_, rfl⟩
  have slots : x.table.slots = st.table.slots.modify n fun s => { s with damage := .pending st.line.made } := by
    rw [hx]; rfl
  have owed : x.table.slots[n]? = some { sl with damage := .pending st.line.made } := by
    rw [slots, List.getElem?_modify, here]
    simp
  have alone : ∀ k sk j, k ≠ n → x.table.slots[k]? = some sk → sk.damage ≠ .pending j := by
    intro k sk j other there
    rw [slots, List.getElem?_modify] at there
    simp only [Ne.symm other, if_false, Option.map_eq_map, Option.map_id'] at there
    exact told sk (List.mem_of_getElem? there) j
  have taken : x.takeDamage (n, st.line.made) = st.damageTold n sl := by
    have twice : (st.table.slots.modify n fun s => { s with damage := .pending st.line.made }).set n
        { sl with damage := .sent } = st.table.slots.set n { sl with damage := .sent } := by
      apply List.ext_getElem?
      intro k
      by_cases hk : n = k <;> simp [List.getElem?_set, hk]
    rw [Station.takeDamage_eq (by rw [hx]; exact busy) owed, slots, twice, hx]
    rfl
  have offered : x.placeOffer = some (st.damageTold n sl) := by
    have waits : x.line.pend = [] := by rw [hx]; exact pend
    have open_ : ¬((!x.joined) = true ∨ 16 ≤ x.line.queue.length) := by
      rw [hx]
      rintro (away | full)
      · exact absurd (show (!st.joined) = true from away) (by simp [joined])
      · exact absurd full (Nat.not_le.mpr room)
    unfold Station.placeOffer
    rw [if_neg open_, waits, Station.firstDamage_alone owed rfl alone]
    simp only [taken]
  rw [← hx]
  refine Station.offerPlaces_one offered pend (Station.firstDamage_of_told fun s hs k => ?_)
  obtain new | old := List.mem_or_eq_of_mem_set (show s ∈ st.table.slots.set n { sl with damage := .sent } from hs)
  · exact told s new k
  · rw [old]
    simp

/-- The report, and then the pull entries not in OUT of the stored cartridge id (R89, R90). -/
theorem Station.noticeDamage_found (damaged : sl.difference ≠ 0) (new : sl.damage = .none) :
    st.noticeDamage n = (st.damageTold n sl).cancelPulls fun e =>
      decide (sl.record.cart.map CartData.id = some e.cart) && decide (e.state ≠ .out) := by
  unfold Station.noticeDamage
  rw [Station.slot_eq here]
  dsimp only
  rw [if_pos ⟨by simpa [Slot.sound] using damaged, new⟩, Station.offerPlaces_damage joined busy room pend told here]
  cases sl.record.cart with
  | none => exact (Station.cancelPulls_of_none fun e _ => by simp).symm
  | some c => simp only [Option.map_some, Option.some.injEq, eq_comm]

end

end

end Sys2Proof
end

section
/-! SUPPORT. A removal at a slot (R92, R111, R117), case by case, and the full scan that finds one (O24). -/

namespace Sys2Proof

/-! ### A removal -/

/-- The cursor of a RUNNING audit is at the slot (R117). -/
@[reducible] def Station.CursorHere (st : Station) (n : Nat) : Prop :=
  st.audit.state = .running ∧ st.audit.cursor = some n

/-- The audit READING, with what it found and the step timer loaded (R117). -/
def Station.reading (finding : Finding) (st : Station) : Station :=
  { st with audit := { st.audit with
      state := .reading, finding := some finding, step := some (ticksOfSec st.cfg.auditStepLimit) } }

/-- The UNPLANNED-REMOVAL alert of a slot (R92, R95). -/
def unplannedAlert (n : Nat) (c : Cart) : AlertBody :=
  { kind := 0, slot := some (BitVec.ofNat 8 n), cart := some c, cart2 := none, tid := none, reason := none }

theorem Audit.isAt_iff {a : Audit} {n : Nat} {s : AuditState} :
    a.isAt n s = true ↔ a.state = s ∧ a.cursor = some n := by simp [Audit.isAt]

section
variable {st : Station} {n : Nat} {sl : Slot}

theorem Station.auditLifted_here (f : Finding) (h : st.CursorHere n) : st.auditLifted n f = st.reading f :=
  Station.onlyIf_of_true _ (Audit.isAt_iff.mpr h)

theorem Station.auditLifted_elsewhere (f : Finding) (h : ¬st.CursorHere n) : st.auditLifted n f = st :=
  Station.onlyIf_of_false _ (Bool.eq_false_iff.mpr fun at_ => h (Audit.isAt_iff.mp at_))

theorem Station.pullFor_eq_none {c : Cart} (h : ∀ e ∈ st.pulls.entries, e.cart ≠ c) : st.pullFor c = none :=
  List.find?_eq_none.mpr fun e he => by simpa using h e he

section
variable (here : st.table.slots[n]? = some sl)
include here

/-- A removal at a sound FILED record. -/
theorem Station.removal_filed {c : CartData} (sound : sl.difference = 0) (filed : sl.record = .filed c) :
    st.removal n =
      if (st.pullFor c.id).isSome then ((st.writeRecord n (.out c false)).setPullState c.id .out).pullsChanged
      else if st.audit.isAt n .running then (st.writeRecord n (.out c false)).auditLifted n (.identified c.id)
      else (st.writeRecord n (.out c true)).handAlert .slotTable (unplannedAlert n c.id) := by
  have view : (st.table.slot n).view = .filed c := by
    rw [Station.slot_eq here, Slot.view_of_sound sound (by simp [filed]), filed]
  unfold Station.removal
  rw [Station.noticeDamage_of_known here (.inl sound)]
  dsimp only
  rw [view]
  rfl

section
variable {c : CartData} (sound : sl.difference = 0) (filed : sl.record = .filed c)
  (own : ∀ e ∈ st.pulls.entries, e.slot = n → e.cart = c.id)
include sound filed own

/-- A cartridge that a pull entry is for is taken (R111). -/
theorem Station.removal_pulled (pulled : ∃ e ∈ st.pulls.entries, e.cart = c.id) :
    st.removal n = ((st.withRecord n (.out c false)).withPulls (st.pulls.entries.map fun e =>
      if e.cart = c.id then { e with state := .out } else e)).pullsChanged := by
  rw [Station.removal_filed here sound filed, if_pos ((Station.pullFor_isSome_iff c.id).mpr pulled),
    Station.writeRecord_out own rfl]
  rfl

variable (unpulled : ∀ e ∈ st.pulls.entries, e.cart ≠ c.id)
include unpulled

/-- A cartridge under the cursor of a RUNNING audit is lifted (R117). -/
theorem Station.removal_audited (at_ : st.CursorHere n) :
    st.removal n = (st.withRecord n (.out c false)).reading (.identified c.id) := by
  rw [Station.removal_filed here sound filed, if_neg (by simp [Station.pullFor_eq_none unpulled]),
    if_pos (Audit.isAt_iff.mpr at_),
    Station.writeRecord_out own rfl]
  exact Station.auditLifted_here _ at_

/-- Any other removal is unplanned (R92). -/
theorem Station.removal_unplanned (away : ¬st.CursorHere n) :
    st.removal n = (st.withRecord n (.out c true)).handAlert .slotTable (unplannedAlert n c.id) := by
  rw [Station.removal_filed here sound filed, if_neg (by simp [Station.pullFor_eq_none unpulled]),
    if_neg fun at_ => away (Audit.isAt_iff.mp at_),
    Station.writeRecord_out own rfl]

end

variable (unpulled : ∀ e ∈ st.pulls.entries, e.slot ≠ n)
include unpulled

/-- An unidentified record is VACANT after a removal, and an audit at it READING (R92, R117). -/
theorem Station.removal_unidentified (known : sl.difference = 0 ∨ sl.damage ≠ .none)
    (view : sl.view = .stray ∨ sl.view = .unknown) :
    st.removal n = (st.withRecord n .vacant).auditLifted n .unidentified := by
  rw [← Station.writeRecord_of_unpulled _ unpulled]
  unfold Station.removal
  rw [Station.noticeDamage_of_known here known]
  dsimp only
  rw [Station.slot_eq here]
  rcases view with view | view <;> rw [view]

/-- A removal that is the first to find the record DAMAGED gives the report before (R89, R90). -/
theorem Station.removal_found (damaged : sl.difference ≠ 0) (new : sl.damage = .none)
    (apart : ∀ e ∈ st.pulls.entries, sl.record.cart.map CartData.id ≠ some e.cart) (joined : st.joined = true)
    (busy : st.line.idle = false) (room : st.line.queue.length < 16) (pend : st.line.pend = [])
    (told : ∀ sm ∈ st.table.slots, ∀ k, sm.damage ≠ .pending k) :
    st.removal n = ((st.damageTold n sl).withRecord n .vacant).auditLifted n .unidentified := by
  have noticed : st.noticeDamage n = st.damageTold n sl := by
    rw [Station.noticeDamage_found joined busy room pend told here damaged new]
    exact Station.cancelPulls_of_none fun e he => by simp [apart e he]
  have there : (st.damageTold n sl).table.slots[n]? = some { sl with damage := .sent } := by
    change (st.table.slots.set n _)[n]? = _
    rw [List.getElem?_set_self (List.getElem?_eq_some_iff.mp here).1]
  have again : (st.damageTold n sl).noticeDamage n = st.damageTold n sl :=
    Station.noticeDamage_of_known there (.inr (by simp))
  rw [← Station.removal_unidentified there unpulled (.inr (by simp)) (.inr (Slot.view_of_damaged damaged))]
  unfold Station.removal
  rw [again, noticed]

end

end

/-! ### A full scan that finds one removal (R91, R95) -/

/-- A slot whose last reading is stored (R91). -/
def Slot.lastRead (r : Bool) (sl : Slot) : Slot := { sl with last := some r }

/-- A station with other slots. -/
def Station.withSlots (st : Station) (slots : List Slot) : Station :=
  { st with table := { st.table with slots := slots } }

/-- Rewritten slots give the copies that the slots before them gave. -/
theorem Station.withSlots_debounced (st : Station) (f : Nat → Slot → Slot) (m : Nat)
    (same : ∀ sl, (f m sl).debounced = sl.debounced) :
    ((st.withSlots (st.table.slots.mapIdx f)).table.slot m).debounced = (st.table.slot m).debounced := by
  unfold SlotTable.slot Station.withSlots
  simp only [List.getD_eq_getElem?_getD, List.getElem?_mapIdx]
  cases st.table.slots[m]? with
  | none => rfl
  | some sl => exact same sl

/-- A quiet station stays quiet when slots are rewritten sound. -/
theorem Station.Quiet.modifySlot {st : Station} {k : Nat} (h : st.Quiet k) (n : Nat) {f : Slot → Slot}
    (sound : ∀ sl, sl.difference = 0 ∧ sl.damage = .none → (f sl).difference = 0 ∧ (f sl).damage = .none) :
    (st.modifySlot n f).Quiet k := by
  refine ⟨h.joined, h.pend, fun sl hsl => ?_, h.room, h.busy⟩
  obtain ⟨m, hm⟩ := List.mem_iff_getElem?.mp hsl
  change (st.table.slots.modify n f)[m]? = some sl at hm
  rw [List.getElem?_modify] at hm
  obtain ⟨old, there, rfl⟩ := Option.map_eq_some_iff.mp hm
  have was := h.sound old (List.mem_of_getElem? there)
  split
  · exact sound old was
  · exact was

theorem Station.Quiet.withSlots {st : Station} {k : Nat} (h : st.Quiet k) {f : Nat → Slot → Slot}
    (same : ∀ m sl, (f m sl).difference = sl.difference ∧ (f m sl).damage = sl.damage) :
    (st.withSlots (st.table.slots.mapIdx f)).Quiet k := by
  refine ⟨h.joined, h.pend, fun sl hsl => ?_, h.room, h.busy⟩
  obtain ⟨m, hm⟩ := List.mem_iff_getElem?.mp hsl
  change (st.table.slots.mapIdx f)[m]? = some sl at hm
  rw [List.getElem?_mapIdx] at hm
  obtain ⟨old, there, rfl⟩ := Option.map_eq_some_iff.mp hm
  obtain ⟨difference, damage⟩ := same m old
  rw [difference, damage]
  exact h.sound old (List.mem_of_getElem? there)

/-- Slots whose reading is equal to the copy have it stored as their last one, and nothing else changes. -/
theorem Station.readSlots_stored (reading : Nat → Bool) (l : List Nat) (distinct : l.Nodup) (st : Station)
    (settled : ∀ m ∈ l, (st.table.slot m).debounced = some (reading m)) :
    l.foldl (fun x m => x.readSlot m (reading m)) st = st.withSlots
      (st.table.slots.mapIdx fun m sm => if m ∈ l then sm.lastRead (reading m) else sm) := by
  induction l generalizing st with
  | nil => simp [Station.withSlots, List.mapIdx_eq_zipIdx_map]
  | cons m l ih =>
    obtain ⟨fresh, distinct⟩ := List.nodup_cons.mp distinct
    have rest : ∀ k ∈ l, ((st.modifySlot m (Slot.lastRead (reading m))).table.slot k).debounced
        = some (reading k) := fun k hk => by
      rw [Station.modifySlot_slot_ne st _ fun same : k = m => fresh (by rw [← same]; exact hk)]
      exact settled k (List.mem_cons_of_mem _ hk)
    rw [List.foldl_cons, Station.readSlot_stored (.inl (settled m List.mem_cons_self))]
    refine (ih distinct _ rest).trans ?_
    refine congrArg st.withSlots ?_
    change (st.table.slots.modify m _).mapIdx _ = _
    rw [List.modify_eq_mapIdx, List.mapIdx_mapIdx]
    refine congrArg (List.mapIdx · _) (funext fun k => funext fun sm => ?_)
    by_cases hk : k = m
    · subst hk
      simp [fresh, Slot.lastRead]
    · simp [hk]

/-- A quiet station whose scan finds the removal of one FILED cartridge. -/
theorem Station.removal_alerted {st : Station} {n : Nat} {sl : Slot} {c : CartData} (quiet : st.Quiet 1)
    (audit : st.audit.state ≠ .running) (unpulled : ∀ e ∈ st.pulls.entries, e.slot ≠ n ∧ e.cart ≠ c.id)
    (here : st.table.slots[n]? = some sl) (filed : sl.record = .filed c) :
    st.removal n = (st.withRecord n (.out c true)).post .slotTable 255 (.custodyAlert (unplannedAlert n c.id)) := by
  have sound := (quiet.sound sl (List.mem_of_getElem? here)).1
  have still : (st.withRecord n (.out c true)).Quiet 1 := quiet.modifySlot n fun _ _ => ⟨rfl, rfl⟩
  rw [Station.removal_unplanned here sound filed (fun e he slot => absurd slot (unpulled e he).1)
    (fun e he => (unpulled e he).2) fun at_ => audit at_.1, Station.handAlert_eq]
  rw [if_pos (by
    have none : (st.withRecord n (.out c true)).line.pend = [] := quiet.pend
    simp [none])]
  exact Station.hand_quiet still rfl

/-- Settles O24: the slots before the removed one, the removal, and the slots after it. -/
theorem unplannedRemovalFound : Obligations.UnplannedRemovalFound := by
  intro s readings n sl c bay quiet size audit unpulled here filed copy last absent settled
  rw [exec_presenceScan_scan, Station.onlyIf_of_true _ bay]
  refine s.next_put ?_
  let begun : Station := { s.station with
    pins := { s.station.pins with matrix := readings }
    table := { s.station.table with scanTimer := some 62500 } }
  let front : Station := begun.withSlots
    (begun.table.slots.mapIdx fun m sm => if m ∈ List.range n then sm.lastRead (readings.getLsbD m) else sm)
  let lifted : Station := front.modifySlot n fun s => { s with last := some false, debounced := some false }
  have inside : n < 256 := size ▸ (List.getElem?_eq_some_iff.mp here).1
  have order : List.range 256 = List.range n ++ n :: List.range' (n + 1) (255 - n) := by
    have tail : 256 - n = 255 - n + 1 := by omega
    have whole : 256 = n + (256 - n) := by omega
    rw [List.range_eq_range', List.range_eq_range', ← List.range'_succ, ← tail]
    conv_lhs => rw [whole]
    rw [← List.range'_append_1, Nat.zero_add]
  have copies (m : Nat) (hm : m < 256) (other : m ≠ n) :
      (begun.table.slot m).debounced = some (readings.getLsbD m) := by
    have at_m : s.station.table.slots[m]? = some s.station.table.slots[m] := List.getElem?_eq_getElem (by omega)
    rw [Station.slot_eq (st := begun) at_m]
    exact settled m _ other at_m
  have before : (List.range n).foldl (fun x m => x.readSlot m (readings.getLsbD m)) begun = front :=
    Station.readSlots_stored readings.getLsbD _ List.nodup_range _ fun m hm =>
      copies m (by have := List.mem_range.mp hm; omega) (by have := List.mem_range.mp hm; omega)
  have at_n : front.table.slots[n]? = some sl := by
    change (s.station.table.slots.mapIdx _)[n]? = _
    simp [here]
  have there : lifted.table.slots[n]? = some { sl with last := some false, debounced := some false } :=
    Station.modifySlot_slot at_n _
  have taken : front.readSlot n false = lifted.removal n := by
    refine (Station.readSlot_changed (copy := true) ?_ (by decide) ?_).trans (if_neg (by decide))
    · rw [Station.slot_eq at_n, copy]
    · rw [Station.slot_eq at_n, last]
  have begun_quiet : begun.Quiet 1 := ⟨quiet.joined, quiet.pend, quiet.sound, quiet.room, quiet.busy⟩
  have still : lifted.Quiet 1 :=
    (begun_quiet.withSlots fun m sm => by split <;> exact ⟨rfl, rfl⟩).modifySlot n fun _ sound => sound
  have after : ∀ m ∈ List.range' (n + 1) (255 - n), (((lifted.withRecord n (.out c true)).post .slotTable 255
      (.custodyAlert (unplannedAlert n c.id))).table.slot m).debounced = some (readings.getLsbD m) := by
    intro m hm
    have beyond := List.mem_range'_1.mp hm
    have other : m ≠ n := by omega
    refine Eq.trans ?_ (copies m (by omega) other)
    refine (congrArg Slot.debounced (Station.modifySlot_slot_ne lifted _ other)).trans ?_
    refine (congrArg Slot.debounced (Station.modifySlot_slot_ne front _ other)).trans ?_
    exact begun.withSlots_debounced _ m fun sm => by split <;> rfl
  unfold Station.presenceScanned
  change (List.range 256).foldl _ begun = _
  rw [order, List.foldl_append, before, List.foldl_cons, absent, taken,
    Station.removal_alerted (st := lifted) still audit unpulled there filed,
    Station.readSlots_stored _ _ List.nodup_range' _ after]
  refine congrArg (fun slots => Station.post (begun.withSlots slots) .slotTable 255
    (.custodyAlert (unplannedAlert n c.id))) (List.ext_getElem? fun m => ?_)
  change ((((s.station.table.slots.mapIdx _).modify n _).modify n _).mapIdx _)[m]? = _
  simp only [List.getElem?_mapIdx, List.getElem?_modify]
  cases there' : s.station.table.slots[m]? with
  | none => rfl
  | some sm =>
    have bound : m < 256 := size ▸ (List.getElem?_eq_some_iff.mp there').1
    rcases Nat.lt_trichotomy m n with below | rfl | above
    · have other : ¬n = m ∧ ¬m = n := by omega
      have out : ¬n + 1 ≤ m := by omega
      simp [List.mem_range, List.mem_range'_1, below, other, out, Slot.lastRead]
    · obtain rfl : sl = sm := Option.some.inj (here.symm.trans there')
      obtain ⟨sound, told⟩ := quiet.sound sl (List.mem_of_getElem? here)
      simp [List.mem_range, List.mem_range'_1, sound, told]
    · have other : ¬n = m ∧ ¬m = n := by omega
      have inside' : n + 1 ≤ m ∧ m < n + 1 + (255 - n) := by omega
      have out : ¬m < n := by omega
      simp [List.mem_range, List.mem_range'_1, inside', other, out, Slot.lastRead]

end Sys2Proof
end

section
/-! SUPPORT. What an insertion leaves in the records (R93), and that an audit whose cursor is elsewhere is not moved
by it. -/

namespace Sys2Proof

/-! ### The record after an insertion (R93) -/

/-- What a record becomes by an insertion at its slot; none for the states that an insertion cannot meet. -/
def Rec.inserted (cfg : ConfigRecord) : Rec → Option Rec
  | .out c _ | .departing c _ => some (.filed c)
  | .reserved c _ | .placing c _ => some (.filed { c with acclim := cfg.arrivalAcclim })
  | .vacant | .unknown => some .stray
  | .filed _ | .stray | .unsettled => none

section
variable (st : Station) (n : Nat)

theorem Station.strayInserted_contents : (st.strayInserted n).contents = st.contents.set n (.stray, 0) := by
  rw [← Station.writeRecord_contents]
  apply Station.contents_of_stored
  unfold Station.strayInserted
  dsimp only
  split <;> simp

theorem Station.insertionAt_contents :
    (st.insertionAt n).contents = ((st.table.slot n).view.inserted st.cfg).elim st.contents
      fun r => st.contents.set n (r, 0) := by
  have written {x : Station} {r : Rec} (h : x.stored = (st.writeRecord n r).stored) :
      x.contents = st.contents.set n (r, 0) := by
    rw [Station.contents_of_stored h, Station.writeRecord_contents]
  unfold Station.insertionAt
  cases (st.table.slot n).view with
  | out c u => exact written (Station.pullInserted_stored _ _ _)
  | departing c t => exact written (Station.xferReturned_stored _ _)
  | reserved c t => exact written (Station.xferInserted_stored _ _ _ _)
  | placing c t => exact written (Station.xferInserted_stored _ _ _ _)
  | vacant => exact st.strayInserted_contents n
  | unknown => exact st.strayInserted_contents n
  | filed c => rfl
  | stray => rfl
  | unsettled => rfl

end

/-! ### An audit that waits elsewhere, or not for an insertion (R117) -/

/-- No audit READING or RETURNING has its cursor at the slot. -/
def Station.AuditAway (st : Station) (n : Nat) : Prop :=
  st.audit.isAt n .reading = false ∧ st.audit.isAt n .returning = false

section
variable {st : Station} {n : Nat}

theorem Station.auditAway_of_cursor (h : st.audit.cursor ≠ some n) : st.AuditAway n := by
  simp [Station.AuditAway, Audit.isAt, h]

theorem Station.auditAway_of_state (reading : st.audit.state ≠ .reading) (returning : st.audit.state ≠ .returning) :
    st.AuditAway n := by
  simp [Station.AuditAway, Audit.isAt, reading, returning]

/-- An insertion elsewhere does not move the audit. -/
theorem Station.auditInserted_away (h : st.AuditAway n) : st.auditInserted n = st := by
  obtain ⟨reading, returning⟩ := h
  unfold Station.auditInserted
  rw [reading, returning]
  rfl

theorem Station.AuditAway.of_audit {x : Station} (h : st.AuditAway n) (same : x.audit = st.audit) :
    x.AuditAway n := by
  unfold Station.AuditAway
  rw [same]
  exact h

theorem Station.AuditAway.onlyIf {c : Bool} {f : Station → Station} (h : st.AuditAway n)
    (kept : st.AuditAway n → (f st).AuditAway n) : (st.onlyIf c f).AuditAway n :=
  Station.onlyIf_keeps (P := fun s => s.AuditAway n) h kept

theorem Station.AuditAway.handAlert (h : st.AuditAway n) (k : Blk) (b : AlertBody) :
    (st.handAlert k b).AuditAway n := h.of_audit (congrArg Kept.audit (st.handAlert_kept k b))

theorem Station.AuditAway.offerPlaces (h : st.AuditAway n) : st.offerPlaces.AuditAway n :=
  h.of_audit (congrArg Kept.audit st.offerPlaces_kept)

theorem Station.AuditAway.suspensionTest (h : st.AuditAway n) : st.suspensionTest.AuditAway n := by
  unfold Station.suspensionTest
  split
  · exact h.onlyIf fun _ => Station.auditAway_of_state (by simp [Station.onAudit]) (by simp [Station.onAudit])
  · refine h.onlyIf fun _ => ?_
    split
    · exact Station.auditAway_of_state (by simp [Station.auditAt, Station.onAudit])
        (by simp [Station.auditAt, Station.onAudit])
    · exact Station.auditAway_of_cursor (by simp [Station.auditComplete, Station.onAudit, Audit.start])

theorem Station.AuditAway.pullsChanged (h : st.AuditAway n) : st.pullsChanged.AuditAway n :=
  (show st.relight.AuditAway n from h).suspensionTest

theorem Station.AuditAway.cancelPulls (h : st.AuditAway n) (p : PullEntry → Bool) : (st.cancelPulls p).AuditAway n := by
  unfold Station.cancelPulls
  dsimp only
  split
  · exact h
  · refine Station.AuditAway.pullsChanged ?_
    exact List.foldlRecOn (motive := fun s : Station => s.AuditAway n) _ _ (h.of_audit rfl)
      fun s hs e _ => hs.of_audit (s.hand_audit _ _ _)

theorem Station.AuditAway.writeRecord (h : st.AuditAway n) (m : Nat) (r : Rec) : (st.writeRecord m r).AuditAway n :=
  (show (st.putRecord m r).AuditAway n from h).cancelPulls _

theorem Station.AuditAway.noticeDamage (h : st.AuditAway n) (m : Nat) : (st.noticeDamage m).AuditAway n := by
  have owed : ((st.modifySlot m fun s => { s with damage := .pending st.line.made }).numbered).AuditAway n := h
  unfold Station.noticeDamage
  dsimp only
  split
  · split
    · exact owed.offerPlaces.cancelPulls _
    · exact owed.offerPlaces
  · exact h

theorem Station.AuditAway.readAll (h : st.AuditAway n) : st.readAll.AuditAway n :=
  List.foldlRecOn (motive := fun s : Station => s.AuditAway n) _ _ h fun _ hs m _ => hs.noticeDamage m

theorem Station.AuditAway.pullInserted (h : st.AuditAway n) (m : Nat) (c : Cart) :
    (st.pullInserted m c).AuditAway n := by
  unfold Station.pullInserted
  dsimp only
  split
  · split
    · exact h.cancelPulls _
    · exact (show (st.setPullState c .waiting).AuditAway n from h).pullsChanged
  · exact h

theorem Station.xferInserted_audit (st : Station) (m : Nat) (t : Tid) (p : Bool) :
    (st.xferInserted m t p).audit = st.audit := by
  unfold Station.xferInserted
  split
  · rfl
  · split
    · dsimp only; split <;> rfl
    · split
      · exact Station.hand_audit _ _ _ _
      · rfl

theorem Station.xferReturned_audit (st : Station) (t : Tid) : (st.xferReturned t).audit = st.audit := by
  unfold Station.xferReturned
  split
  · rfl
  · next e _ =>
    refine Station.onlyIf_keeps (P := fun s => s.audit = st.audit) ?_ fun h => (Station.hand_audit _ _ _ _).trans h
    cases e.slot <;> rfl

theorem Station.AuditAway.insertionAt (h : st.AuditAway n) (m : Nat) : (st.insertionAt m).AuditAway n := by
  have stray : (st.strayInserted m).AuditAway n := by
    have read := ((h.writeRecord m .stray).handAlert .slotTable (alertBody .strayInsert (some m) none)).readAll
    unfold Station.strayInserted
    dsimp only
    split
    · exact read.handAlert _ _
    · exact read
  unfold Station.insertionAt
  split
  · exact (h.writeRecord _ _).pullInserted _ _
  · exact (h.writeRecord _ _).of_audit (Station.xferReturned_audit _ _)
  · exact (h.writeRecord _ _).of_audit (Station.xferInserted_audit _ _ _ _)
  · exact (h.writeRecord _ _).of_audit (Station.xferInserted_audit _ _ _ _)
  · exact stray
  · exact stray
  · exact h
  · exact h
  · exact h

/-- An insertion where the audit does not wait for one is what the slot's record makes of it (R93). -/
theorem Station.insertion_away (h : st.AuditAway n) : st.insertion n = (st.noticeDamage n).insertionAt n :=
  Station.auditInserted_away ((h.noticeDamage n).insertionAt n)

theorem Station.insertion_contents (h : st.AuditAway n) :
    (st.insertion n).contents = ((st.table.slot n).view.inserted st.cfg).elim st.contents
      fun r => st.contents.set n (r, 0) := by
  rw [Station.insertion_away h, Station.insertionAt_contents,
    Station.view_of_stored (st.noticeDamage_stored n), Station.contents_of_stored (st.noticeDamage_stored n),
    show (st.noticeDamage n).cfg = st.cfg from congrArg (fun o : Outer => o.loader.cfg) (st.noticeDamage_outer n)]

/-- What an insertion leaves at its slot. -/
theorem Station.insertion_becomes {sl : Slot} {r : Rec} (here : st.table.slots[n]? = some sl) (h : st.AuditAway n)
    (becomes : sl.view.inserted st.cfg = some r) :
    ∃ sl', (st.insertion n).table.slots[n]? = some sl' ∧ sl'.record = r ∧ sl'.difference = 0 := by
  have at_n : (st.insertion n).contents[n]? = some (r, 0) := by
    rw [Station.insertion_contents h, Station.slot_eq here, becomes]
    refine List.getElem?_set_self ?_
    rw [Station.contents, List.length_map]
    exact (List.getElem?_eq_some_iff.mp here).1
  rw [Station.contents_getElem?] at at_n
  obtain ⟨sl', there, holds⟩ := Option.map_eq_some_iff.mp at_n
  exact ⟨sl', there, congrArg Prod.fst holds, congrArg Prod.snd holds⟩

/-- No other slot's record changes by an insertion. -/
theorem Station.insertion_records (h : st.AuditAway n) {m : Nat} (other : m ≠ n) :
    ((st.insertion n).table.slots[m]?).map Slot.record = (st.table.slots[m]?).map Slot.record := by
  have at_m : (st.insertion n).contents[m]? = st.contents[m]? := by
    rw [Station.insertion_contents h]
    cases (st.table.slot n).view.inserted st.cfg with
    | none => rfl
    | some r => exact List.getElem?_set_ne (Ne.symm other)
  have same := congrArg (Option.map Prod.fst) at_m
  simpa [Station.contents_getElem?, Function.comp_def] using same

end

/-! ### One scan, one reading, a removal and an insertion -/

/-- A write at a slot and the report of its damage before it give one record, and the alert. -/
theorem Station.damageTold_withRecord {st : Station} {n : Nat} (sl : Slot) (here : st.table.slots[n]? = some sl)
    (r : Rec) : (st.damageTold n sl).withRecord n r = (st.withRecord n r).post .slotTable 255 (.custodyAlert
      { kind := 3, slot := some (BitVec.ofNat 8 n), cart := sl.record.cart.map CartData.id, cart2 := none
        tid := none, reason := none }) := by
  have slots : (st.table.slots.set n { sl with damage := .sent }).modify n
      (fun sl => { sl with record := r, difference := 0, damage := .none })
      = st.table.slots.modify n fun sl => { sl with record := r, difference := 0, damage := .none } := by
    apply List.ext_getElem?
    intro m
    rw [List.getElem?_modify, List.getElem?_modify, List.getElem?_set]
    by_cases same : n = m
    · subst same
      obtain ⟨inside, at_n⟩ := List.getElem?_eq_some_iff.mp here
      simp [inside, at_n]
    · simp [same]
  exact congrArg (fun slots => (st.withSlots slots).post .slotTable 255 (.custodyAlert
      { kind := 3, slot := some (BitVec.ofNat 8 n), cart := sl.record.cart.map CartData.id, cart2 := none
        tid := none, reason := none })) slots

/-- Settles O25: the scan, one slot's reading, the removals by the record's state, and what insertions leave. -/
theorem presenceChanges : Obligations.PresenceChanges := by
  refine ⟨fun s readings => ⟨exec_presenceScan_level s readings, fun away => ?_, fun bay => ?_⟩,
    fun st n r copy had => ⟨fun same => ?_, fun _ once => ?_, fun differs again =>
      ⟨fun empty => ?_, fun present => ?_⟩⟩,
    fun st n sl here => ⟨fun c sound filed own => ⟨?_, fun unpulled => ⟨?_, ?_⟩⟩, ?_, ?_⟩,
    fun st n sl here away => ?_⟩
  · rw [exec_presenceScan_scan, Station.onlyIf_of_false _ away, Machine.State.put_station_self]
  · rw [exec_presenceScan_scan, Station.onlyIf_of_true _ bay]
    rfl
  · exact Station.readSlot_stored (.inl (had.trans (congrArg some same.symm)))
  · exact Station.readSlot_stored (.inr once)
  · subst empty
    exact Station.readSlot_changed had differs again
  · subst present
    exact Station.readSlot_changed had differs again
  · exact Station.removal_pulled here sound filed own
  · exact Station.removal_audited here sound filed own unpulled
  · exact Station.removal_unplanned here sound filed own unpulled
  · intro unidentified unpulled
    have removal : st.removal n = (st.withRecord n .vacant).auditLifted n .unidentified := by
      rcases unidentified with ⟨sound, holds⟩ | ⟨damaged, known⟩
      · have view : sl.view = sl.record := Slot.view_of_sound sound (by rcases holds with h | h <;> simp [h])
        exact Station.removal_unidentified here unpulled (.inl sound) (view ▸ holds)
      · exact Station.removal_unidentified here unpulled (.inr known) (.inr (Slot.view_of_damaged damaged))
    rw [removal]
    exact ⟨fun at_ => Station.auditLifted_here _ at_, fun away => Station.auditLifted_elsewhere _ away⟩
  · intro damaged new unpulled apart joined busy room pend told
    dsimp only
    rw [Station.removal_found here unpulled damaged new apart joined busy room pend told,
      Station.damageTold_withRecord sl here]
    exact ⟨fun at_ => Station.auditLifted_here _ at_, fun away => Station.auditLifted_elsewhere _ away⟩
  · have away := Station.auditAway_of_cursor away
    have becomes {q r : Rec} (sound : sl.difference = 0) (holds : sl.record = q) (settled : q ≠ .unsettled)
        (h : q.inserted st.cfg = some r) := by
      have view : sl.view = q := (Slot.view_of_sound sound (holds ▸ settled)).trans holds
      exact Station.insertion_becomes here away (view ▸ h)
    refine ⟨fun c u sound holds => becomes sound holds (by simp) rfl,
      fun c t sound holds => becomes sound holds (by simp) rfl,
      fun c t sound holds => becomes sound holds (by simp) rfl,
      fun c t sound holds => becomes sound holds (by simp) rfl, fun sound holds => becomes sound holds (by simp) rfl,
      fun damaged _ => Station.insertion_becomes here away (by rw [Slot.view_of_damaged damaged]; rfl),
      fun m other => Station.insertion_records away other⟩

end Sys2Proof
end

section
/-! SUPPORT. What an insertion makes the pull queue, the transfer engine and the alerts do (R93, R111, R132, R135,
R139), and a slot without a debounced copy (R105, R106). -/

namespace Sys2Proof

/-! ### The pull queue (R111) -/

section
variable {st : Station} {n : Nat} {c : Cart}

/-- One entry taken from the queue, its requester answered CANCELLED. -/
theorem Station.cancelPulls_one {front rest : List PullEntry} {e : PullEntry} {p : PullEntry → Bool}
    (entries : st.pulls.entries = front ++ e :: rest) (mine : p e = true) (others : ∀ x ∈ front ++ rest, p x = false) :
    st.cancelPulls p = ((st.withPulls (front ++ rest)).reply .pulls e.requester 13 e.reqSeq .cancelled
      (some (.slot e.slot))).pullsChanged := by
  have beside (l : List PullEntry) (hl : ∀ x ∈ l, p x = false) : l.filter p = [] ∧ l.filter (fun e => !p e) = l :=
    ⟨List.filter_eq_nil_iff.mpr fun x hx => by simp [hl x hx],
      List.filter_eq_self.mpr fun x hx => by simp [hl x hx]⟩
  obtain ⟨before, stay⟩ := beside front fun x hx => others x (List.mem_append_left _ hx)
  obtain ⟨after, go⟩ := beside rest fun x hx => others x (List.mem_append_right _ hx)
  have gone : st.pulls.entries.filter p = [e] := by
    rw [entries, List.filter_append, List.filter_cons, if_pos mine, before, after]
    rfl
  have left : st.pulls.entries.filter (fun e => !p e) = front ++ rest := by
    rw [entries, List.filter_append, List.filter_cons, if_neg (by simp [mine]), stay, go]
  unfold Station.cancelPulls
  rw [gone, left]
  rfl

theorem Station.pullInserted_of_none (h : ∀ e ∈ st.pulls.entries, e.slot = n → e.state ≠ .out) :
    st.pullInserted n c = st := by
  have none : (st.pulls.entries.any fun e =>
      decide (e.cart = c) && decide (e.slot = n) && decide (e.state = .out)) = false := by
    refine List.any_eq_false.mpr fun e he => ?_
    by_cases slot : e.slot = n
    · simp [h e he slot]
    · simp [slot]
  unfold Station.pullInserted
  dsimp only
  rw [none]
  rfl

section
variable {front rest : List PullEntry} {e : PullEntry} (entries : st.pulls.entries = front ++ e :: rest)
  (slot : e.slot = n) (out : e.state = .out) (cart : e.cart = c)
include entries slot out cart

theorem Station.pullInserted_of_out : st.pullInserted n c =
    if st.isHeld n then st.cancelPulls fun e => decide (e.cart = c) && decide (e.slot = n) && decide (e.state = .out)
    else (st.setPullState c .waiting).pullsChanged := by
  unfold Station.pullInserted
  dsimp only
  rw [if_pos]
  rw [List.any_eq_true]
  exact ⟨e, by simp [entries], by simp [slot, out, cart]⟩

variable (apart : ∀ x ∈ front ++ rest, x.cart ≠ c)
include apart

/-- The entry waits again, with the lighting and the suspension test after it. -/
theorem Station.pullInserted_waits (outside : st.table.hold.held n = false) :
    st.pullInserted n c = (st.withPulls (front ++ { e with state := .waiting } :: rest)).pullsChanged := by
  have others (l : List PullEntry) (hl : ∀ x ∈ l, x.cart ≠ c) :
      l.map (fun x => if x.cart = c then { x with state := .waiting } else x) = l := by
    refine (List.map_congr_left fun x hx => if_neg (hl x hx)).trans (List.map_id' l)
  rw [Station.pullInserted_of_out entries slot out cart, if_neg (by simp [Station.isHeld, outside])]
  unfold Station.setPullState
  rw [entries, List.map_append, List.map_cons, if_pos cart,
    others front fun x hx => apart x (List.mem_append_left _ hx),
    others rest fun x hx => apart x (List.mem_append_right _ hx)]
  rfl

/-- The entry of a slot held by now is cancelled. -/
theorem Station.pullInserted_cancelled (held : st.table.hold.held n = true) :
    st.pullInserted n c = ((st.withPulls (front ++ rest)).reply .pulls e.requester 13 e.reqSeq .cancelled
      (some (.slot n))).pullsChanged := by
  have others : ∀ x ∈ front ++ rest,
      (decide (x.cart = c) && decide (x.slot = n) && decide (x.state = .out)) = false := fun x hx => by
    simp [apart x hx]
  rw [Station.pullInserted_of_out entries slot out cart, if_pos (by exact held),
    Station.cancelPulls_one entries (by simp [slot, out, cart]) others, slot]

end

end

/-! ### The transfer engine (R132, R135, R139) -/

section
variable {st : Station} {n : Nat} {t : Tid}

/-- An entry found by its transfer id has it. -/
theorem XferEntry.tid_of_find {l : List XferEntry} {p : XferEntry → Bool} {e : XferEntry}
    (h : (l.find? fun e => decide (e.tid = t) && p e) = some e) : e.tid = t := by
  have hit := List.find?_some h
  exact of_decide_eq_true (Bool.and_eq_true_iff.mp hit).1

theorem Station.xferReturned_unknown (h : st.sendingById t = none) : st.xferReturned t = st := by
  unfold Station.xferReturned
  rw [h]

/-- A known transfer is withdrawn, with a WITHDRAW unless it was REFUSED. -/
theorem Station.xferReturned_known {e : XferEntry} (h : st.sendingById t = some e) (slot : e.slot = some n) :
    st.xferReturned t = ((st.askLamp n .off).removeXfer t).onlyIf (decide (e.state ≠ .refused))
      fun x => x.hand .transfers e.peer (.withdraw t) := by
  unfold Station.xferReturned
  rw [h]
  dsimp only
  unfold Station.withdrawSending
  rw [slot, XferEntry.tid_of_find h]
  rfl

/-- The receiving entry with a transfer id, from any peer. -/
def Station.receivingEntry (st : Station) (t : Tid) : Option XferEntry :=
  st.xfer.entries.find? fun e => decide (e.tid = t) && e.state.receiving

theorem Station.receivingEntry_tid {e : XferEntry} (h : st.receivingEntry t = some e) : e.tid = t :=
  XferEntry.tid_of_find h

/-- The engine's part in an insertion by the receiving entry, if any. -/
theorem Station.xferInserted_eq (placing : Bool) : st.xferInserted n t placing = (st.receivingEntry t).elim st fun e =>
    if placing then if e.state = .placing then (st.askLamp n .off).removeXfer e.tid else st.askLamp n .off
    else if e.state = .expected then st.becomeArrived e else st := by
  unfold Station.xferInserted Station.receivingEntry
  cases st.xfer.entries.find? fun e => decide (e.tid = t) && e.state.receiving <;> rfl

theorem Station.xferInserted_unexpected (h : ∀ e, st.receivingEntry t = some e → e.state ≠ .expected) :
    st.xferInserted n t false = st := by
  rw [Station.xferInserted_eq]
  cases found : st.receivingEntry t with
  | none => rfl
  | some e => exact if_neg (h e found)

/-- An EXPECTED transfer is ARRIVED, and its ARRIVE handed on. -/
theorem Station.xferInserted_expected {e : XferEntry} (h : st.receivingEntry t = some e)
    (expected : e.state = .expected) : st.xferInserted n t false
      = (st.modifyXfer t fun x => { x with state := .arrived, attempts := 0, reply := none }).hand .transfers e.peer
        (.arrive t) := by
  rw [Station.xferInserted_eq, h, ← Station.receivingEntry_tid h]
  exact if_pos expected

/-- An insertion at a PLACING slot withdraws the lamp, and removes a transfer that waited for it. -/
theorem Station.xferInserted_placing : st.xferInserted n t true =
    (st.receivingEntry t).elim st fun e =>
      if e.state = .placing then (st.askLamp n .off).removeXfer t else st.askLamp n .off := by
  rw [Station.xferInserted_eq]
  cases found : st.receivingEntry t with
  | none => rfl
  | some e =>
    rw [← Station.receivingEntry_tid found]
    rfl

end

/-! ### A cartridge of unknown identity (R93) -/

section
variable {st : Station}

theorem Station.firstPlacing_none (h : ∀ (m : Nat) c t, st.contents[m]? ≠ some (Rec.placing c t, 0)) :
    st.table.firstPlacing = none := by
  refine List.findSome?_eq_none_iff.mpr fun sl hsl => ?_
  obtain ⟨m, here⟩ := List.mem_iff_getElem?.mp hsl
  split
  · next c t view =>
    obtain ⟨sound, reads⟩ := Slot.view_cart (sl := sl) (by simp [view, Rec.cart])
    refine absurd ?_ (h m c t)
    rw [Station.contents_getElem?, here, Option.map_some, ← reads, view, sound]
  · rfl

theorem Station.firstPlacing_lowest {m : Nat} {c : CartData} {t : Tid}
    (here : st.contents[m]? = some (Rec.placing c t, 0))
    (lowest : ∀ k d u, k < m → st.contents[k]? ≠ some (Rec.placing d u, 0)) :
    st.table.firstPlacing = some (c.id, t) := by
  rw [Station.contents_getElem?] at here
  obtain ⟨sl, at_m, holds⟩ := Option.map_eq_some_iff.mp here
  obtain ⟨inside, there⟩ := List.getElem?_eq_some_iff.mp at_m
  have record : sl.record = .placing c t := congrArg Prod.fst holds
  have view : sl.view = .placing c t :=
    (Slot.view_of_sound (congrArg Prod.snd holds) (by simp [record])).trans record
  refine List.findSome?_eq_some_iff.mpr ⟨st.table.slots.take m, sl, st.table.slots.drop (m + 1), ?_, ?_, ?_⟩
  · rw [← there, List.getElem_cons_drop, List.take_append_drop]
  · simp only [view]
  · intro x hx
    obtain ⟨k, hk⟩ := List.mem_iff_getElem?.mp hx
    have below : k < m := by
      have := (List.getElem?_eq_some_iff.mp hk).1
      rw [List.length_take] at this
      omega
    rw [List.getElem?_take_of_lt below] at hk
    split
    · next d u view =>
      obtain ⟨sound, reads⟩ := Slot.view_cart (sl := x) (by simp [view, Rec.cart])
      refine absurd ?_ (lowest k d u below)
      rw [Station.contents_getElem?, hk, Option.map_some, ← reads, view, sound]
    · rfl

theorem Station.damageReported_iff : st.damageReported ↔ ∀ n, st.DamageFound n := by
  constructor
  · exact fun h n sl here => h sl (List.mem_of_getElem? here)
  · intro h sl hsl
    obtain ⟨n, here⟩ := List.mem_iff_getElem?.mp hsl
    exact h n sl here

theorem Station.damageReported_handAlert (h : st.damageReported) (k : Blk) (b : AlertBody) :
    (st.handAlert k b).damageReported := by
  rw [Station.damageReported_iff] at h ⊢
  intro n
  refine Station.onlyIf_keeps (P := fun s => s.DamageFound n) (h n) fun h => ?_
  refine Station.onlyIf_keeps (P := fun s => s.DamageFound n) h fun h => ?_
  exact Station.DamageFound.offerUpTo 16 (h.of_table rfl)

theorem Station.damageReported_withRecord (h : st.damageReported) (n : Nat) (r : Rec) :
    (st.withRecord n r).damageReported := by
  intro sl hsl
  obtain ⟨m, here⟩ := List.mem_iff_getElem?.mp hsl
  change (st.table.slots.modify n _)[m]? = some sl at here
  rw [List.getElem?_modify] at here
  obtain ⟨old, there, rfl⟩ := Option.map_eq_some_iff.mp here
  split
  · exact .inl rfl
  · exact h old (List.mem_of_getElem? there)

/-- The slot STRAY, and the STRAY-INSERT alert of it. -/
def Station.strayAt (st : Station) (n : Nat) : Station :=
  (st.withRecord n .stray).handAlert .slotTable
    { kind := 1, slot := some (BitVec.ofNat 8 n), cart := none, cart2 := none, tid := none, reason := none }

variable {n : Nat} (reported : st.damageReported) (unpulled : ∀ e ∈ st.pulls.entries, e.slot ≠ n)

theorem Station.strayAt_contents : (st.strayAt n).contents = st.contents.set n (.stray, 0) :=
  (Station.contents_of_stored (Station.handAlert_stored _ _ _)).trans (st.putRecord_contents n .stray)

include reported unpulled

theorem Station.strayInserted_eq : st.strayInserted n = (st.strayAt n).table.firstPlacing.elim (st.strayAt n)
    fun p => (st.strayAt n).handAlert .slotTable
      { kind := 2, slot := some (BitVec.ofNat 8 n), cart := some p.1, cart2 := none, tid := some p.2
        reason := none } := by
  have known := Station.damageReported_handAlert (Station.damageReported_withRecord reported n .stray) .slotTable
    (alertBody .strayInsert (some n) none)
  unfold Station.strayInserted
  dsimp only
  rw [Station.writeRecord_of_unpulled _ unpulled, Station.readAll_of_reported known]
  have told : (st.withRecord n .stray).handAlert .slotTable (alertBody .strayInsert (some n) none) = st.strayAt n := rfl
  rw [told]
  cases (st.strayAt n).table.firstPlacing <;> rfl

/-- No record PLACING: the STRAY-INSERT alert alone. -/
theorem Station.strayInserted_alone
    (none : ∀ m sm c t, m ≠ n → st.table.slots[m]? = some sm → sm.difference = 0 → sm.record ≠ .placing c t) :
    st.strayInserted n = st.strayAt n := by
  rw [Station.strayInserted_eq reported unpulled, Station.firstPlacing_none fun m c t => ?_]
  · rfl
  rw [Station.strayAt_contents, List.getElem?_set]
  split
  · split <;> simp
  · next other =>
    rw [Station.contents_getElem?]
    intro found
    obtain ⟨sm, here, holds⟩ := Option.map_eq_some_iff.mp found
    exact none m sm c t (Ne.symm other) here (congrArg Prod.snd holds) (congrArg Prod.fst holds)

/-- The WRONG-SLOT alert names the lowest record PLACING. -/
theorem Station.strayInserted_wrongSlot {m : Nat} {sm : Slot} {c : CartData} {t : Tid} (other : m ≠ n)
    (here : st.table.slots[m]? = some sm) (sound : sm.difference = 0) (placing : sm.record = .placing c t)
    (lowest : ∀ k sk d u, k < m → k ≠ n → st.table.slots[k]? = some sk → sk.difference = 0 →
      sk.record ≠ .placing d u) :
    st.strayInserted n = (st.strayAt n).handAlert .slotTable
      { kind := 2, slot := some (BitVec.ofNat 8 n), cart := some c.id, cart2 := none, tid := some t
        reason := none } := by
  have at_m : (st.strayAt n).contents[m]? = some (.placing c t, 0) := by
    rw [Station.strayAt_contents, List.getElem?_set_ne (Ne.symm other), Station.contents_getElem?, here,
      Option.map_some, sound, placing]
  rw [Station.strayInserted_eq reported unpulled, Station.firstPlacing_lowest at_m fun k d u below => ?_]
  · rfl
  rw [Station.strayAt_contents, List.getElem?_set]
  split
  · split <;> simp
  · next apart =>
    rw [Station.contents_getElem?]
    intro found
    obtain ⟨sk, there, holds⟩ := Option.map_eq_some_iff.mp found
    exact lowest k sk d u below (Ne.symm apart) there (congrArg Prod.snd holds) (congrArg Prod.fst holds)

end

end Sys2Proof
end

section
/-! SUPPORT. An insertion by the slot's record (R93), and a slot that has no debounced copy (R105, R106). -/

namespace Sys2Proof

/-! ### An insertion by the slot's record -/

section
variable {st : Station} {n : Nat} {sl : Slot} {c : CartData} {t : Tid} (here : st.table.slots[n]? = some sl)
include here

theorem Station.insertion_known (known : sl.difference = 0 ∨ sl.damage ≠ .none) :
    st.insertion n = (st.insertionAt n).auditInserted n := by
  unfold Station.insertion
  rw [Station.noticeDamage_of_known here known]

/-- An insertion at a record known, where the audit does not wait for one. -/
theorem Station.insertion_eq_at (known : sl.difference = 0 ∨ sl.damage ≠ .none) (away : st.AuditAway n) :
    st.insertion n = st.insertionAt n := by
  rw [Station.insertion_away away, Station.noticeDamage_of_known here known]

theorem Station.insertionAt_unidentified (view : sl.view = .vacant ∨ sl.view = .unknown) :
    st.insertionAt n = st.strayInserted n := by
  unfold Station.insertionAt
  rw [Station.slot_eq here]
  rcases view with view | view <;> rw [view]

/-- A record that an insertion at it reads as VACANT or UNKNOWN. -/
theorem Station.insertionAt_stray
    (unidentified : (sl.difference = 0 ∧ (sl.record = .vacant ∨ sl.record = .unknown)) ∨ sl.difference ≠ 0) :
    st.insertionAt n = st.strayInserted n := by
  refine Station.insertionAt_unidentified here ?_
  rcases unidentified with ⟨sound, holds⟩ | damaged
  · rw [Slot.view_of_sound sound (by rcases holds with h | h <;> simp [h])]
    exact holds
  · exact .inr (Slot.view_of_damaged damaged)

variable (sound : sl.difference = 0)
include sound

theorem Station.insertionAt_out {u : Bool} (out : sl.record = .out c u)
    (own : ∀ e ∈ st.pulls.entries, e.slot = n → e.cart = c.id) :
    st.insertionAt n = (st.withRecord n (.filed c)).pullInserted n c.id := by
  unfold Station.insertionAt
  rw [Station.slot_eq here, Slot.view_of_sound sound (by simp [out]), out]
  dsimp only
  rw [Station.writeRecord_filed own rfl]

variable (unpulled : ∀ e ∈ st.pulls.entries, e.slot ≠ n)
include unpulled

theorem Station.insertionAt_departing (departing : sl.record = .departing c t) :
    st.insertionAt n = (st.withRecord n (.filed c)).xferReturned t := by
  unfold Station.insertionAt
  rw [Station.slot_eq here, Slot.view_of_sound sound (by simp [departing]), departing]
  dsimp only
  rw [Station.writeRecord_of_unpulled _ unpulled]

theorem Station.insertionAt_reserved (reserved : sl.record = .reserved c t) :
    st.insertionAt n = (st.withRecord n (.filed { c with
      acclim := if st.cfg.acclim = 0 then none else some st.cfg.acclim })).xferInserted n t false := by
  unfold Station.insertionAt
  rw [Station.slot_eq here, Slot.view_of_sound sound (by simp [reserved]), reserved]
  dsimp only
  rw [Station.writeRecord_of_unpulled _ unpulled]
  rfl

theorem Station.insertionAt_placing (placing : sl.record = .placing c t) :
    st.insertionAt n = (st.withRecord n (.filed { c with
      acclim := if st.cfg.acclim = 0 then none else some st.cfg.acclim })).xferInserted n t true := by
  unfold Station.insertionAt
  rw [Station.slot_eq here, Slot.view_of_sound sound (by simp [placing]), placing]
  dsimp only
  rw [Station.writeRecord_of_unpulled _ unpulled]
  rfl

end

/-! ### A slot without a debounced copy (R105, R106) -/

section
variable {st : Station} {n : Nat} {sl : Slot} (here : st.table.slots[n]? = some sl)
include here

theorem Station.modifySlot_eq (f : Slot → Slot) : st.modifySlot n f = st.withSlots (st.table.slots.set n (f sl)) := by
  refine congrArg st.withSlots ?_
  rw [List.modify_eq_set_getElem?, here]
  rfl

variable {r : Bool}

/-- A first reading is stored. -/
theorem Station.readSlot_first (differs : sl.last ≠ some r) :
    st.readSlot n r = st.withSlots (st.table.slots.set n { sl with last := some r }) := by
  rw [Station.readSlot_stored (.inr (by rwa [Station.slot_eq here])), Station.modifySlot_eq here]

/-- A reading that agrees with the one before is the copy, and settles the slot. -/
theorem Station.readSlot_second (uncopied : sl.debounced = none) (agrees : sl.last = some r) : st.readSlot n r =
    if sl.record = .unsettled then
      st.withSlots (st.table.slots.set n { record := if r then .unknown else .vacant, difference := 0
                                           debounced := some r, last := some r, damage := .none })
    else st.withSlots (st.table.slots.set n { sl with debounced := some r, last := some r }) := by
  have copied : ((st.modifySlot n fun s => { s with last := some r }).setDebounced n r)
      = st.modifySlot n fun s => { s with last := some r, debounced := some r } :=
    Station.modifySlot_modifySlot _ _ _ _
  have at_n : (st.modifySlot n fun s => { s with last := some r, debounced := some r }).table.slots[n]?
      = some { sl with last := some r, debounced := some r } := Station.modifySlot_slot here _
  unfold Station.readSlot
  dsimp only
  rw [Station.slot_eq here, if_neg (by simp [uncopied, agrees]), uncopied]
  dsimp only
  unfold Station.settleSlot
  rw [copied]
  dsimp only
  rw [Station.slot_eq at_n]
  by_cases unsettled : sl.record = .unsettled
  · rw [if_pos unsettled, if_pos unsettled]
    exact (Station.modifySlot_modifySlot _ _ _ _).trans (Station.modifySlot_eq here _)
  · rw [if_neg unsettled, if_neg unsettled]
    exact Station.modifySlot_eq here _

end

/-- Settles O26: each row of R93 with what it tells the pull queue, the engine and the alerts, then the settling. -/
theorem insertionsTold : Obligations.InsertionsTold := by
  refine ⟨fun st n sl here cursor => ?_, fun st n r sl here uncopied => ⟨fun differs => ?_, fun agrees =>
    ⟨fun unsettled => ?_, fun settled => ?_⟩⟩⟩
  · have away := Station.auditAway_of_cursor cursor
    refine ⟨fun sound => ⟨fun c u out own => ?_, fun unpulled => ⟨fun c t departing => ?_, fun c t reserved => ?_,
      fun c t placing => ?_⟩⟩, fun unidentified reported unpulled => ?_⟩
    · rw [Station.insertion_eq_at here (.inl sound) away, Station.insertionAt_out here sound out own]
      refine ⟨fun none => Station.pullInserted_of_none none, fun front rest e entries slot taken apart =>
        ⟨fun outside => ?_, fun held => ?_⟩⟩
      · exact Station.pullInserted_waits entries slot taken (own e (by simp [entries]) slot) apart outside
      · exact Station.pullInserted_cancelled entries slot taken (own e (by simp [entries]) slot) apart held
    · rw [Station.insertion_eq_at here (.inl sound) away, Station.insertionAt_departing here sound unpulled departing]
      refine ⟨fun unknown => Station.xferReturned_unknown unknown, fun e known slot => ?_⟩
      rw [Station.xferReturned_known (st := st.withRecord n _) known slot]
      exact ⟨fun refused => Station.onlyIf_of_false _ (by simp [refused]),
        fun sent => Station.onlyIf_of_true _ (by simp [sent])⟩
    · rw [Station.insertion_eq_at here (.inl sound) away, Station.insertionAt_reserved here sound unpulled reserved]
      exact ⟨fun none => Station.xferInserted_unexpected none,
        fun e found expected => Station.xferInserted_expected (st := st.withRecord n _) found expected⟩
    · rw [Station.insertion_eq_at here (.inl sound) away, Station.insertionAt_placing here sound unpulled placing,
        Station.xferInserted_placing]
      refine ⟨fun unknown => ?_, fun e found => ?_⟩
      · rw [show (st.withRecord n _).receivingEntry t = none from unknown]
        rfl
      · rw [show (st.withRecord n _).receivingEntry t = some e from found]
        exact ⟨fun waits => if_pos waits, fun other => if_neg other⟩
    · rw [Station.insertion_eq_at here (reported sl (List.mem_of_getElem? here)) away,
        Station.insertionAt_stray here unidentified]
      exact ⟨fun none => Station.strayInserted_alone reported unpulled none,
        fun m sm c t other there found placing lowest =>
          Station.strayInserted_wrongSlot reported unpulled other there found placing lowest⟩
  · exact Station.readSlot_first here differs
  · rw [Station.readSlot_second here uncopied agrees, if_pos unsettled]
    rfl
  · rw [Station.readSlot_second here uncopied agrees, if_neg settled]
    rfl

end Sys2Proof
end

section
/-! SUPPORT. The audit's movements (R116 to R121): AUDIT by its table, what an insertion at its cursor does, the
suspension test, and that handing a message on does not look at the audit. -/

namespace Sys2Proof

/-! ### Handing a message on does not look at the audit -/

section
variable (st : Station) (f : Audit → Audit)

theorem Station.select_onAudit : (st.onAudit f).select = st.select.onAudit f := by
  have same : (st.onAudit f).joined = st.joined := rfl
  unfold Station.select Station.onlyIf
  rw [same]
  split <;> rfl

theorem Station.join_onAudit (p : Pend) : (st.onAudit f).join p = (st.join p).onAudit f := by
  unfold Station.join
  cases p.body.timedTid with
  | none => exact Station.select_onAudit (st.onLine (·.append p)) f
  | some t => exact Station.select_onAudit ((st.onLine (·.append p)).loadReply t) f

theorem Station.takeDamage_onAudit (d : Nat × Nat) :
    (st.onAudit f).takeDamage d = (st.takeDamage d).onAudit f :=
  Station.join_onAudit (st.modifySlot d.1 fun sl => { sl with damage := .sent }) f _

theorem Station.takePend_onAudit (p : Pend) (rest : List Pend) :
    (st.onAudit f).takePend p rest = (st.takePend p rest).onAudit f :=
  Station.join_onAudit (st.onLine fun l => { l with pend := rest }) f p

theorem Station.placeOffer_onAudit : (st.onAudit f).placeOffer = st.placeOffer.map (·.onAudit f) := by
  have joined : (st.onAudit f).joined = st.joined := rfl
  have line : (st.onAudit f).line = st.line := rfl
  have damage : (st.onAudit f).firstDamage = st.firstDamage := rfl
  unfold Station.placeOffer
  rw [joined, line, damage]
  split
  · rfl
  · split
    · rfl
    · simp [Station.takePend_onAudit]
    · simp [Station.takeDamage_onAudit]
    · split <;> simp [Station.takePend_onAudit, Station.takeDamage_onAudit]

theorem Station.offerUpTo_onAudit (k : Nat) :
    Station.offerUpTo k (st.onAudit f) = (Station.offerUpTo k st).onAudit f := by
  induction k generalizing st with
  | zero => rfl
  | succ k ih =>
    unfold Station.offerUpTo
    rw [Station.placeOffer_onAudit]
    cases st.placeOffer with
    | none => rfl
    | some st' => exact ih st'

theorem Station.hand_onAudit (k : Blk) (d : Addr) (b : Body) :
    (st.onAudit f).hand k d b = (st.hand k d b).onAudit f := by
  have same : (st.onAudit f).joined = st.joined := rfl
  unfold Station.hand Station.onlyIf
  rw [same]
  split
  · exact Station.offerUpTo_onAudit (st.onLine fun l =>
      { l with pend := l.pend ++ [{ made := l.made, blk := k, dest := d, body := b }], made := l.made + 1 }) f 16
  · rfl

end

/-! ### The lowest PRESENT slot of a range (R116) -/

section
variable {t : SlotTable} {lo hi : Nat}

theorem SlotTable.firstPresent_lowest {n : Nat} (above : lo ≤ n) (below : n ≤ hi)
    (present : (t.slot n).debounced = some true)
    (lowest : ∀ m, lo ≤ m → m < n → (t.slot m).debounced ≠ some true) : t.firstPresent lo hi = some n := by
  have cut : List.range' lo (hi + 1 - lo) = List.range' lo (n - lo) ++ n :: List.range' (n + 1) (hi - n) := by
    have size : hi + 1 - lo = (n - lo) + (hi - n + 1) := by omega
    have at_ : lo + (n - lo) = n := by omega
    rw [size, ← List.range'_append_1, at_, List.range'_succ]
  refine List.find?_eq_some_iff_append.mpr ⟨decide_eq_true present, _, _, cut, fun m hm => ?_⟩
  have inside := List.mem_range'_1.mp hm
  simpa using lowest m inside.1 (by omega)

theorem SlotTable.firstPresent_none (absent : ∀ m, lo ≤ m → m ≤ hi → (t.slot m).debounced ≠ some true) :
    t.firstPresent lo hi = none := by
  refine List.find?_eq_none.mpr fun m hm => ?_
  have inside := List.mem_range'_1.mp hm
  simpa using absent m inside.1 (by omega)

/-- The search looks at the debounced copies alone. -/
theorem SlotTable.firstPresent_congr {u : SlotTable} (same : ∀ m, (t.slot m).debounced = (u.slot m).debounced) :
    t.firstPresent lo hi = u.firstPresent lo hi := by
  unfold SlotTable.firstPresent
  simp only [same]

end

/-! ### RUNNING at a slot, and the end of an audit -/

/-- The audit RUNNING at a slot, with its lamp and its step timer (R116). -/
def Station.auditRuns (st : Station) (n : Nat) : Station :=
  { st with audit := { st.audit with
      state := .running, cursor := some n, finding := none, strayPending := false
      step := some (ticksOfSec st.cfg.auditStepLimit), lamp := some n } }

theorem Station.auditAt_eq (st : Station) (n : Nat) : st.auditAt n = st.auditRuns n := rfl

/-- COMPLETE with the counts, and the audit as at a start (R119). -/
def Station.auditCompleted (st : Station) : Station :=
  { st.reply .pulls st.audit.requester 18 st.audit.reqSeq .complete
      (some (.counts st.audit.checked st.audit.repaired st.audit.mismatched)) with audit := .start }

theorem Station.auditComplete_eq (st : Station) : st.auditComplete = st.auditCompleted := rfl

/-! ### The suspension test (R120) -/

section
variable {st : Station}

theorem Station.suspensionTest_waiting (waiting : ∃ e ∈ st.pulls.entries, e.state ≠ .out) :
    st.suspensionTest = if st.audit.state = .running then
      { st with audit := { st.audit with state := .suspended, step := none, lamp := none } } else st := by
  unfold Station.suspensionTest
  rw [if_pos (Station.pullsWaiting_iff.mpr waiting)]
  by_cases running : st.audit.state = .running
  · rw [if_pos running, Station.onlyIf_of_true _ (decide_eq_true running)]
    rfl
  · rw [if_neg running, Station.onlyIf_of_false _ (decide_eq_false running)]

variable (free : ¬∃ e ∈ st.pulls.entries, e.state ≠ .out)
include free

theorem Station.suspensionTest_unsuspended (way : st.audit.state ≠ .suspended) : st.suspensionTest = st := by
  unfold Station.suspensionTest
  rw [if_neg fun waits => free (Station.pullsWaiting_iff.mp waits), Station.onlyIf_of_false _ (decide_eq_false way)]

/-- A suspended audit goes on from its cursor, or is complete. -/
theorem Station.suspensionTest_resumes {n : Nat} (suspended : st.audit.state = .suspended)
    (cursor : st.audit.cursor = some n) :
    st.suspensionTest = (st.table.firstPresent n st.audit.last).elim st.auditCompleted st.auditRuns := by
  unfold Station.suspensionTest
  rw [if_neg fun waits => free (Station.pullsWaiting_iff.mp waits), Station.onlyIf_of_true _ (decide_eq_true suspended),
    cursor]
  dsimp only [Option.getD_some]
  cases st.table.firstPresent n st.audit.last <;> rfl

end

/-! ### AUDIT (R116) -/

/-- An accepted AUDIT: the audit of the range begun, and placed at the lowest PRESENT slot or complete. -/
def Station.auditTaken (st : Station) (src : Addr) (seq : Byte) (first last : Nat) : Station :=
  let begun := st.onAudit fun _ => { Audit.start with first := first, last := last, requester := src, reqSeq := seq }
  (st.table.firstPresent first last).elim (begun.reply .pulls src 18 seq .started).auditCompleted
    fun n => ((begun.auditRuns n).reply .pulls src 18 seq .started (some (.slot n))).suspensionTest

section
variable {st : Station} (src : Addr) (seq : Byte) (first last : Nat)

theorem FireState.not_sealed_of_unconfirmed {f : FireState} (h : f.confirmed = false) : f.isSealed = false := by
  cases f <;> simp_all [FireState.confirmed, FireState.isSealed]

theorem Station.takeAudit_hatch (hatch : st.cfg.role = .hatch) :
    Station.takeAudit src seq first last st = st.reply .pulls src 18 seq .role := if_pos hatch

section
variable (bay : st.cfg.role = .bay)
include bay

theorem Station.takeAudit_away (away : st.joined = false) :
    Station.takeAudit src seq first last st = st.reply .pulls src 18 seq .notReady := by
  unfold Station.takeAudit
  simp only [bay, away]
  rfl

variable (joined : st.joined = true)
include joined

/-- AUDIT at a JOINED BAY: the refusals in order. -/
theorem Station.takeAudit_bay : Station.takeAudit src seq first last st =
    if st.isSealed then st.reply .pulls src 18 seq .sealed
    else if st.confirmed then st.reply .pulls src 18 seq .fire
    else if ¬(first ≤ last ∧ last ≤ 255) then st.reply .pulls src 18 seq .range
    else if st.audit.state ≠ .idle then st.reply .pulls src 18 seq .busy
    else st.auditTaken src seq first last := by
  have range : (255 < first ∨ 255 < last ∨ last < first) ↔ ¬(first ≤ last ∧ last ≤ 255) := by omega
  unfold Station.takeAudit Station.auditTaken
  rw [if_neg (by simp [bay]), if_neg (by simp [joined])]
  simp only [range]
  cases st.table.firstPresent first last <;> rfl

theorem Station.takeAudit_unconfirmed (unconfirmed : st.confirmed = false) :
    Station.takeAudit src seq first last st =
      if ¬(first ≤ last ∧ last ≤ 255) then st.reply .pulls src 18 seq .range
      else if st.audit.state ≠ .idle then st.reply .pulls src 18 seq .busy
      else st.auditTaken src seq first last := by
  have unsealed : st.isSealed = false := FireState.not_sealed_of_unconfirmed unconfirmed
  rw [Station.takeAudit_bay src seq first last bay joined, unsealed, unconfirmed]
  rfl

end

/-- The audit taken with no PRESENT slot in its range answers twice and is as it was. -/
theorem Station.auditCompleted_at_once (start : st.audit = .start) (a : Audit) (requester : a.requester = src)
    (request : a.reqSeq = seq) (checked : a.checked = 0) (repaired : a.repaired = 0) (mismatched : a.mismatched = 0) :
    ((st.onAudit fun _ => a).reply .pulls src 18 seq .started).auditCompleted
      = (st.reply .pulls src 18 seq .started).reply .pulls src 18 seq .complete (some (.counts 0 0 0)) := by
  have once : (st.onAudit fun _ => a).reply .pulls src 18 seq .started
      = (st.reply .pulls src 18 seq .started).onAudit fun _ => a := Station.hand_onAudit _ _ _ _ _
  rw [once]
  unfold Station.auditCompleted
  change { ((st.reply .pulls src 18 seq .started).onAudit fun _ => a).reply .pulls a.requester 18 a.reqSeq .complete
    (some (.counts a.checked a.repaired a.mismatched)) with audit := .start } = _
  rw [requester, request, checked, repaired, mismatched]
  have twice : ((st.reply .pulls src 18 seq .started).onAudit fun _ => a).reply .pulls src 18 seq .complete
      (some (.counts 0 0 0)) = ((st.reply .pulls src 18 seq .started).reply .pulls src 18 seq .complete
        (some (.counts 0 0 0))).onAudit fun _ => a := Station.hand_onAudit _ _ _ _ _
  have kept : ((st.reply .pulls src 18 seq .started).reply .pulls src 18 seq .complete
      (some (.counts 0 0 0))).audit = .start :=
    (Station.hand_audit _ _ _ _).trans ((Station.hand_audit _ _ _ _).trans start)
  rw [twice, ← kept]
  rfl

end

/-! ### An insertion at the cursor (R117, R119) -/

/-- What the audit's movements go by is the same: the audit, its step time and the debounced copies. -/
structure Station.AuditSame (st x : Station) : Prop where
  audit : x.audit = st.audit
  cfg : x.cfg = st.cfg
  copies : ∀ m, (x.table.slot m).debounced = (st.table.slot m).debounced

/-- The audit of a station goes on at a slot of another, with the suspension test after it. -/
def Station.auditGoesOn (st x : Station) (m : Nat) : Station :=
  ({ x with audit := { st.audit with
      state := .running, cursor := some m, finding := none, strayPending := false
      step := some (ticksOfSec st.cfg.auditStepLimit), lamp := some m } } : Station).suspensionTest

/-- The audit of a station is complete in another. -/
def Station.auditDone (st x : Station) : Station :=
  { x.reply .pulls st.audit.requester 18 st.audit.reqSeq .complete
      (some (.counts st.audit.checked st.audit.repaired st.audit.mismatched)) with audit := .start }

/-- The cursor of a station that an insertion leads to another moves to the next PRESENT slot of the range, or the
audit is complete. -/
def Station.AuditDecided (st : Station) (n : Nat) (back : Station) : Prop :=
  (∀ m, n < m → m ≤ st.audit.last → (st.table.slot m).debounced = some true →
    (∀ k, n < k → k < m → ¬(st.table.slot k).debounced = some true) → st.insertion n = st.auditGoesOn back m) ∧
  ((∀ m, n < m → m ≤ st.audit.last → ¬(st.table.slot m).debounced = some true) →
    st.insertion n = st.auditDone back)

/-- What an insertion at the cursor makes of the audit in READING and in RETURNING. -/
def Station.AuditTold (st : Station) (n : Nat) (back : Station) : Prop :=
  (st.audit.state = .reading → st.insertion n = st.auditGoesOn back n) ∧
  (st.audit.state = .returning → st.AuditDecided n back)

section
variable {st x back : Station} {n : Nat}

theorem Station.AuditSame.refl (st : Station) : st.AuditSame st := ⟨rfl, rfl, fun _ => rfl⟩

theorem Station.AuditSame.withRecord (h : st.AuditSame x) (n : Nat) (r : Rec) : st.AuditSame (x.withRecord n r) :=
  ⟨h.audit, h.cfg, fun m => (x.withRecord_debounced n r m).trans (h.copies m)⟩

theorem Station.AuditSame.of_kept {y : Station} (h : st.AuditSame x) (kept : y.kept = x.kept) : st.AuditSame y :=
  ⟨(congrArg Kept.audit kept).trans h.audit, (congrArg (fun k : Kept => k.outer.loader.cfg) kept).trans h.cfg,
    fun m => (Station.debounced_of_stored (Station.stored_of_kept kept) m).trans (h.copies m)⟩

theorem Station.AuditSame.handAlert (h : st.AuditSame x) (k : Blk) (b : AlertBody) : st.AuditSame (x.handAlert k b) :=
  h.of_kept (x.handAlert_kept k b)

theorem Station.AuditSame.modifyXfer (h : st.AuditSame x) (t : Tid) (f : XferEntry → XferEntry) :
    st.AuditSame (x.modifyXfer t f) := ⟨h.audit, h.cfg, h.copies⟩

theorem Station.AuditSame.hand (h : st.AuditSame x) (k : Blk) (d : Addr) (b : Body) : st.AuditSame (x.hand k d b) :=
  h.of_kept (x.hand_kept k d b)

theorem Station.AuditSame.runs (h : st.AuditSame x) (m : Nat) : x.auditRunAt m = st.auditGoesOn x m := by
  unfold Station.auditRunAt Station.auditGoesOn
  rw [Station.auditAt_eq, Station.auditRuns, h.audit, h.cfg]

theorem Station.AuditSame.done (h : st.AuditSame x) : x.auditComplete = st.auditDone x := by
  rw [Station.auditComplete_eq, Station.auditCompleted, h.audit]
  rfl

theorem Station.auditInserted_reading (same : st.AuditSame x) (cursor : st.audit.cursor = some n)
    (reading : st.audit.state = .reading) : x.auditInserted n = st.auditGoesOn x n := by
  unfold Station.auditInserted
  rw [same.audit, if_pos (Audit.isAt_iff.mpr ⟨reading, cursor⟩), same.runs]

theorem Station.auditInserted_returning (same : st.AuditSame x) (cursor : st.audit.cursor = some n)
    (returning : st.audit.state = .returning) : x.auditInserted n = (x.auditStray n).auditAdvance n := by
  unfold Station.auditInserted
  rw [same.audit, if_neg (by simp [Audit.isAt, returning]), if_pos (Audit.isAt_iff.mpr ⟨returning, cursor⟩)]

theorem Station.AuditSame.advance (h : st.AuditSame back) (moved : st.insertion n = back.auditAdvance n) :
    st.AuditDecided n back := by
  have search : back.table.firstPresent (n + 1) st.audit.last = st.table.firstPresent (n + 1) st.audit.last :=
    SlotTable.firstPresent_congr h.copies
  unfold Station.auditAdvance at moved
  rw [h.audit, search] at moved
  refine ⟨fun m beyond inside present lowest => ?_, fun absent => ?_⟩
  · rw [SlotTable.firstPresent_lowest beyond inside present fun k above below => lowest k above below] at moved
    exact moved.trans (h.runs m)
  · rw [SlotTable.firstPresent_none fun m above below => absent m above below] at moved
    exact moved.trans h.done

/-- The audit is told of an insertion that left no stray of its finding. -/
theorem Station.auditTold_of (cursor : st.audit.cursor = some n) (same : st.AuditSame back)
    (moved : st.insertion n = back.auditInserted n) (stray : back.auditStray n = back) : st.AuditTold n back := by
  refine ⟨fun reading => ?_, fun returning => same.advance ?_⟩
  · rw [moved, Station.auditInserted_reading same cursor reading]
  · rw [moved, Station.auditInserted_returning same cursor returning, stray]

/-- Only a record FILED with the id of the finding is written STRAY by the audit. -/
theorem Station.auditStray_other
    (other : ∀ c, (x.table.slot n).view = .filed c → x.audit.finding ≠ some (.identified c.id)) :
    x.auditStray n = x := by
  unfold Station.auditStray
  split
  · next y c _ found view => exact if_neg fun same => other c view (found.trans (by rw [same]))
  · rfl

/-- The record at the cursor FILED again, or STRAY where that is pending for its id (R119). -/
theorem Station.auditStray_filed {c : CartData} (view : (x.table.slot n).view = .filed c) :
    x.auditStray n = if x.audit.strayPending = true ∧ x.audit.finding = some (.identified c.id)
      then x.writeRecord n .stray else x := by
  unfold Station.auditStray
  rw [view]
  split
  · next y d pending found view =>
    obtain rfl : c = d := Rec.filed.inj view
    by_cases same : c.id = y
    · simp [same, pending, found]
    · simp [same, pending, found, Ne.symm same]
  · next other =>
    refine (if_neg fun both => ?_).symm
    exact other c.id c both.1 both.2 rfl

theorem Station.withRecord_withRecord (st : Station) (n : Nat) (q r : Rec) :
    (st.withRecord n q).withRecord n r = st.withRecord n r := Station.modifySlot_modifySlot st n _ _

end

/-! ### The record at the cursor (R93, R119) -/

section
variable {st : Station} {n : Nat} {sl : Slot} (here : st.table.slots[n]? = some sl)
include here

theorem Station.withRecord_view {r : Rec} (settled : r ≠ .unsettled) : ((st.withRecord n r).table.slot n).view = r := by
  rw [Station.slot_eq (Station.withRecord_slot r here)]
  exact Slot.view_of_sound rfl settled

variable (cursor : st.audit.cursor = some n)
include cursor

/-- A VACANT or UNKNOWN record, and a DAMAGED one, STRAY with its alerts. -/
theorem Station.insertion_unidentified (known : sl.difference = 0 ∨ sl.damage ≠ .none)
    (unidentified : (sl.difference = 0 ∧ (sl.record = .vacant ∨ sl.record = .unknown)) ∨ sl.difference ≠ 0)
    {back : Station} (inserted : st.strayInserted n = back) (alerts : back.kept = (st.withRecord n .stray).kept) :
    st.AuditTold n back := by
  refine Station.auditTold_of cursor (((Station.AuditSame.refl st).withRecord n .stray).of_kept alerts) ?_ ?_
  · rw [Station.insertion_known here known, Station.insertionAt_stray here unidentified, inserted]
  · refine Station.auditStray_other fun c view => ?_
    rw [Station.view_of_stored (Station.stored_of_kept alerts), Station.withRecord_view here (by simp)] at view
    cases view

variable (unpulled : ∀ e ∈ st.pulls.entries, e.slot ≠ n)
include unpulled

/-- A sound OUT record FILED again. -/
theorem Station.insertion_filed {c : CartData} {u : Bool} (sound : sl.difference = 0) (out : sl.record = .out c u) :
    (st.audit.state = .reading → st.insertion n = st.auditGoesOn (st.withRecord n (.filed c)) n) ∧
    (st.audit.state = .returning → st.AuditDecided n
      (if st.audit.strayPending = true ∧ st.audit.finding = some (.identified c.id)
        then st.withRecord n .stray else st.withRecord n (.filed c))) ∧
    (st.audit.state ≠ .reading → st.audit.state ≠ .returning → st.insertion n = st.withRecord n (.filed c)) := by
  have at_ : st.insertionAt n = st.withRecord n (.filed c) :=
    (Station.insertionAt_out here sound out fun e he slot => absurd slot (unpulled e he)).trans
      (Station.pullInserted_of_none fun e he slot => absurd slot (unpulled e he))
  have moved : st.insertion n = (st.withRecord n (.filed c)).auditInserted n := by
    rw [Station.insertion_known here (.inl sound), at_]
  have same := (Station.AuditSame.refl st).withRecord n (.filed c)
  refine ⟨fun reading => ?_, fun returning => ?_, fun notReading notReturning => ?_⟩
  · rw [moved, Station.auditInserted_reading same cursor reading]
  · have decided : (st.withRecord n (.filed c)).auditStray n
        = if st.audit.strayPending = true ∧ st.audit.finding = some (.identified c.id)
          then st.withRecord n .stray else st.withRecord n (.filed c) := by
      rw [Station.auditStray_filed (Station.withRecord_view here (by simp)),
        Station.writeRecord_of_unpulled (st := st.withRecord n _) _ unpulled, Station.withRecord_withRecord]
      rfl
    refine Station.AuditSame.advance ?_ ?_
    · split
      · exact (Station.AuditSame.refl st).withRecord n .stray
      · exact same
    · rw [moved, Station.auditInserted_returning same cursor returning, decided]
  · rw [Station.insertion_eq_at here (.inl sound) (Station.auditAway_of_state notReading notReturning), at_]

/-- A RESERVED record FILED, with what the transfer engine makes of it. -/
theorem Station.insertion_reserved {c d : CartData} {t : Tid} (sound : sl.difference = 0)
    (reserved : sl.record = .reserved c t) (found : st.audit.finding ≠ some (.identified c.id)) {back : Station}
    (becomes : d = { c with acclim := if st.cfg.acclim = 0 then none else some st.cfg.acclim })
    (inserted : (st.withRecord n (.filed d)).xferInserted n t false = back)
    (same : (st.withRecord n (.filed d)).AuditSame back) (stored : back.stored = (st.withRecord n (.filed d)).stored) :
    st.AuditTold n back := by
  have whole : st.AuditSame back := ⟨same.audit, same.cfg, fun m =>
    (same.copies m).trans (st.withRecord_debounced n _ m)⟩
  refine Station.auditTold_of cursor whole ?_ ?_
  · rw [Station.insertion_known here (.inl sound), Station.insertionAt_reserved here sound unpulled reserved, ← becomes,
      inserted]
  · refine Station.auditStray_other fun e view => ?_
    rw [Station.view_of_stored stored, Station.withRecord_view here (by simp)] at view
    rw [whole.audit, ← Rec.filed.inj view, becomes]
    exact found

end

theorem exec_audit (src : Addr) (seq : Byte) (first last : Nat) (s : Machine.State)
    (heard : s.station.hearsConsole src) :
    Machine.exec (.audit src seq first last) s = .next (s.put (Station.takeAudit src seq first last s.station)) :=
  congrArg (fun st => Host.Outcome.next (s.put st)) (Station.fromConsole_heard _ heard)

theorem exec_auditStepExpiry (s : Machine.State) : Machine.exec .auditStepExpiry s
    = .next (s.put (s.station.onlyIf (s.station.bay && s.station.audit.step.isSome) Station.auditAbort)) := rfl

/-- Settles O34: AUDIT's table, the step timer's expiry, the insertions at the cursor and the suspension test. -/
theorem auditMoves : Obligations.AuditMoves := by
  refine ⟨fun s src seq first last heard => ⟨fun away => ?_, fun joined => ⟨fun hatch => ?_, fun bay =>
      ⟨fun closed => ?_, fun open_ confirmed => ?_, fun unconfirmed => ⟨fun invalid => ?_, fun valid busy => ?_,
        fun valid idle => ⟨fun n above below present lowest => ?_, fun start absent => ?_⟩⟩⟩⟩⟩,
    fun s bay => ⟨fun stopped => ?_, fun n sl loaded way cursor here sound => ⟨fun other => ?_,
      fun c u out free => ?_⟩⟩,
    fun st n sl here cursor unpulled => ⟨fun c u sound out => Station.insertion_filed here cursor unpulled sound out,
      fun unidentified reported => ⟨fun none => ?_, fun m sm c t other there found placing lowest => ?_⟩,
      fun c t sound reserved found => ⟨fun unexpected => ?_, fun e receiving expected => ?_⟩⟩,
    fun st => ⟨fun waiting running => ?_, fun waiting way => ?_, fun free way => ?_, fun n free suspended cursor =>
      ⟨fun m above below present lowest => ?_, fun absent => ?_⟩⟩⟩
  · rw [exec_audit src seq first last s heard]
    refine s.next_put ?_
    cases role : s.station.cfg.role with
    | hatch => rw [Station.takeAudit_hatch _ _ _ _ role, Station.reply_not_joined away]
    | bay => rw [Station.takeAudit_away _ _ _ _ role away, Station.reply_not_joined away]
  · rw [exec_audit src seq first last s heard, Station.takeAudit_hatch _ _ _ _ hatch]
  · rw [exec_audit src seq first last s heard, Station.takeAudit_bay _ _ _ _ bay joined,
      if_pos (show s.station.isSealed = true from (FireState.isSealed_iff _).mpr closed)]
  · rw [exec_audit src seq first last s heard, Station.takeAudit_bay _ _ _ _ bay joined,
      if_neg (show ¬s.station.isSealed = true from fun closed => open_ ((FireState.isSealed_iff _).mp closed)),
      if_pos confirmed]
  · rw [exec_audit src seq first last s heard, Station.takeAudit_unconfirmed _ _ _ _ bay joined unconfirmed,
      if_pos invalid]
  · rw [exec_audit src seq first last s heard, Station.takeAudit_unconfirmed _ _ _ _ bay joined unconfirmed,
      if_neg (not_not_intro valid), if_pos busy]
  · rw [exec_audit src seq first last s heard, Station.takeAudit_unconfirmed _ _ _ _ bay joined unconfirmed,
      if_neg (not_not_intro valid), if_neg (not_not_intro idle), Station.auditTaken,
      SlotTable.firstPresent_lowest above below present fun m from_ under => lowest m from_ under]
    rfl
  · rw [exec_audit src seq first last s heard, Station.takeAudit_unconfirmed _ _ _ _ bay joined unconfirmed,
      if_neg (not_not_intro valid), if_neg (not_not_intro idle), Station.auditTaken,
      SlotTable.firstPresent_none fun m above below => absent m above below]
    exact s.next_put (Station.auditCompleted_at_once src seq start _ rfl rfl rfl rfl rfl)
  · rw [exec_auditStepExpiry, Station.onlyIf_of_false _ (by simp [stopped]), Machine.State.put_station_self]
  · rw [exec_auditStepExpiry, Station.onlyIf_of_true _ (by simp [bay, loaded])]
    refine s.next_put (Station.auditAbort_leaves here (.inl sound) way cursor fun c u out => ?_)
    exact absurd (Slot.view_out_iff.mp out).2 (other c u)
  · rw [exec_auditStepExpiry, Station.onlyIf_of_true _ (by simp [bay, loaded])]
    exact s.next_put (Station.auditAbort_unplans here (.inl sound) way cursor (Slot.view_out_iff.mpr ⟨sound, out⟩) free)
  · exact Station.insertion_unidentified here cursor (reported sl (List.mem_of_getElem? here)) unidentified
      (Station.strayInserted_alone reported unpulled none) (Station.handAlert_kept _ _ _)
  · exact Station.insertion_unidentified here cursor (reported sl (List.mem_of_getElem? here)) unidentified
      (Station.strayInserted_wrongSlot reported unpulled other there found placing lowest)
      ((Station.handAlert_kept _ _ _).trans (Station.handAlert_kept _ _ _))
  · exact Station.insertion_reserved here cursor unpulled sound reserved found rfl
      (Station.xferInserted_unexpected unexpected) (Station.AuditSame.refl _) rfl
  · exact Station.insertion_reserved here cursor unpulled sound reserved found rfl
      (Station.xferInserted_expected (st := st.withRecord n _) receiving expected)
      (((Station.AuditSame.refl _).modifyXfer _ _).hand _ _ _) (Station.hand_stored _ _ _ _)
  · rw [Station.suspensionTest_waiting waiting, if_pos running]
  · rw [Station.suspensionTest_waiting waiting, if_neg way]
  · exact Station.suspensionTest_unsuspended free way
  · rw [Station.suspensionTest_resumes free suspended cursor,
      SlotTable.firstPresent_lowest above below present fun k from_ under => lowest k from_ under]
    rfl
  · rw [Station.suspensionTest_resumes free suspended cursor,
      SlotTable.firstPresent_none fun m above below => absent m above below]
    rfl

end Sys2Proof
end

section
/-! SUPPORT. The opening of a transfer (R126, R128) and the scan of a pulled cartridge (R114). -/

namespace Sys2Proof

/-! ### What the engine declines (R128) -/

section
variable {st : Station}

theorem PeerView.reachable_iff {v : PeerView} {a : Addr} {r : Role} : v.reachable a r = true ↔
    ∃ data, v.records[a.toNat]? = some (.alive data) ∧ data.roleDemand.map Prod.fst = some r := by
  unfold PeerView.reachable
  rw [List.getD_eq_getElem?_getD]
  cases v.records[a.toNat]? with
  | none => simp
  | some p => cases p <;> simp

theorem Station.xferByCart_isSome {c : Cart} : (st.xferByCart c).isSome = true ↔ ∃ e ∈ st.xfer.entries, e.cart = c := by
  simp [Station.xferByCart, List.find?_isSome]

theorem Station.claimed_iff {c : Cart} : st.claimed c = true ↔ ∃ k ∈ st.xfer.claims, k.cart = c := by
  simp [Station.claimed]

theorem Station.declines_iff {d : Direction} {c : Cart} {peer : Addr} : st.declines d c peer = true ↔
    st.joined = false ∨ 16 ≤ st.xfer.entries.length ∨ (∃ e ∈ st.xfer.entries, e.cart = c)
      ∨ (∃ k ∈ st.xfer.claims, k.cart = c)
      ∨ ¬∃ data, st.peers.records[peer.toNat]? = some (.alive data) ∧
          data.roleDemand.map Prod.fst = some d.peerRole := by
  unfold Station.declines
  rw [Bool.or_eq_true, Bool.or_eq_true, Bool.or_eq_true, Bool.or_eq_true, Station.xferByCart_isSome,
    Station.claimed_iff, Bool.not_eq_true', Bool.not_eq_true', ← Bool.not_eq_true (st.peers.reachable _ _),
    PeerView.reachable_iff, decide_eq_true_iff]
  simp only [or_assoc]

/-! ### An opening -/

/-- Fewer than 17 numbers leave one of 17 in a row free. -/
theorem nextCounter_free {used : List Byte} (few : used.length < 17) (c : Byte) :
    ∃ h < 17, c + 1 + BitVec.ofNat 8 h ∉ used := by
  by_contra none
  have taken : ∀ h < 17, c + 1 + BitVec.ofNat 8 h ∈ used := fun h hh => by
    by_contra free
    exact none ⟨h, hh, free⟩
  let row : List Byte := (List.range 17).map fun h => c + 1 + BitVec.ofNat 8 h
  have distinct : row.Nodup := by
    refine List.Nodup.map_on (fun a ha b hb same => ?_) List.nodup_range
    have below_a := List.mem_range.mp ha
    have below_b := List.mem_range.mp hb
    have plain : BitVec.ofNat 8 a = BitVec.ofNat 8 b := by simpa using same
    have values := congrArg BitVec.toNat plain
    simp only [BitVec.toNat_ofNat] at values
    omega
  have within : row ⊆ used := fun x hx => by
    obtain ⟨h, hh, rfl⟩ := List.mem_map.mp hx
    exact taken h (List.mem_range.mp hh)
  have := (distinct.subperm within).length_le
  simp [row] at this
  omega

/-- A station with the entry of an opening under a number, its OFFER handed on. -/
def Station.opened (st : Station) (d : Direction) (c : Cart) (job : Job) (slot : Option Nat) (custody : Option Cart)
    (peer : Addr) (k : Byte) : Station :=
  ({ st with
    xfer := { st.xfer with
      check := 0, counter := k
      entries := st.xfer.entries ++ [
        { tid := { origin := st.loader.own, oseq := k }, cart := c, peer := peer, job := job, direction := d
          state := .offered, attempts := 0
          transit := if st.confirmed = true then .paused (125000 * st.cfg.transitLimit)
            else .running (125000 * st.cfg.transitLimit)
          slot := slot, custody := custody, acceptedSlot := none, reply := none }] } } : Station).hand
    .transfers peer (.offer { origin := st.loader.own, oseq := k } c job d.code)

variable {d : Direction} {c : Cart} {job : Job} {slot : Option Nat} {custody : Option Cart} {peer : Addr}

theorem Station.openXfer_declined (h : st.declines d c peer = true) :
    st.openXfer d c job slot custody peer = (st, none) := if_pos h

/-- An opening takes the first number after the counter that no entry is under. -/
theorem Station.openXfer_opened (h : st.declines d c peer = false) : ∃ (k : Byte) (i : Nat),
    k = st.xfer.counter + 1 + BitVec.ofNat 8 i ∧ (∀ e ∈ st.xfer.entries, e.tid.oseq ≠ k) ∧
    (∀ h < i, ∃ e ∈ st.xfer.entries, e.tid.oseq = st.xfer.counter + 1 + BitVec.ofNat 8 h) ∧
    st.openXfer d c job slot custody peer
      = (st.opened d c job slot custody peer k, some { origin := st.loader.own, oseq := k }) := by
  have few : (st.xfer.entries.map (·.tid.oseq)).length < 17 := by
    have room : ¬16 ≤ st.xfer.entries.length := fun full => by
      rw [Station.declines_iff.mpr (.inr (.inl full))] at h
      cases h
    rw [List.length_map]
    omega
  obtain ⟨i, number, free, taken⟩ := nextCounter_first _ 17 st.xfer.counter (nextCounter_free few _)
  refine ⟨_, i, number, fun e he same => ?_, fun k hk => List.mem_map.mp (taken k hk), if_neg (by simp [h])⟩
  exact free (number ▸ List.mem_map.mpr ⟨e, he, same⟩)

end

/-! ### The scan of a pulled cartridge (R114) -/

theorem Station.departure_declined {st : Station} {p : PullEntry} {sl : Slot} {c : CartData} {u : Bool}
    (here : st.table.slots[p.slot]? = some sl) (sound : sl.difference = 0) (out : sl.record = .out c u)
    (holds : c.id = p.cart) (h : st.declines .outbound p.cart p.hatch = true) : st.departure p = st := by
  unfold Station.departure
  rw [Station.noticeDamage_of_known here (.inl sound)]
  dsimp only
  rw [Station.slot_eq here, Slot.view_out_iff.mpr ⟨sound, out⟩]
  dsimp only
  rw [if_pos holds, Station.openXfer_declined h]

theorem Station.openXfer_pulls (st : Station) (d : Direction) (c : Cart) (job : Job) (slot : Option Nat)
    (custody : Option Cart) (peer : Addr) : (st.openXfer d c job slot custody peer).1.pulls = st.pulls := by
  unfold Station.openXfer
  split
  · rfl
  · exact Station.hand_pulls _ _ _ _

section
variable {st : Station} {front rest : List PullEntry} {p : PullEntry} {sl : Slot}
  (entries : st.pulls.entries = front ++ p :: rest) (before : ∀ x ∈ front, x.cart ≠ p.cart)
include entries before

/-- The scan of a cartridge with an OUT entry is a departure. -/
theorem Station.checkStation_departure (way : st.audit.state ≠ .reading) (out : p.state = .out) :
    st.checkStation p.cart = st.departure p := by
  have found : (st.pulls.entries.find? fun e => decide (e.cart = p.cart) && decide (e.state = .out)) = some p := by
    rw [entries, List.find?_append, List.find?_eq_none.mpr fun x hx => by simp [before x hx]]
    simp [out]
  unfold Station.checkStation
  rw [if_neg way, found]

variable (after : ∀ x ∈ rest, x.cart ≠ p.cart) (here : st.table.slots[p.slot]? = some sl)
include after here

/-- A record that does not hold the cartridge any more has its entry cancelled. -/
theorem Station.departure_lost (known : sl.difference = 0 ∨ sl.damage ≠ .none)
    (other : ∀ c u, sl.view = .out c u → c.id ≠ p.cart) :
    st.departure p = ((st.withPulls (front ++ rest)).reply .pulls p.requester 13 p.reqSeq .cancelled
      (some (.slot p.slot))).pullsChanged := by
  have beside : ∀ x ∈ front ++ rest, decide (x.cart = p.cart) = false := fun x hx =>
    decide_eq_false ((List.mem_append.mp hx).elim (before x) (after x))
  rw [← Station.cancelPulls_one entries (decide_eq_true rfl) beside]
  unfold Station.departure
  rw [Station.noticeDamage_of_known here known]
  dsimp only
  rw [Station.slot_eq here]
  split
  · next c u view => rw [if_neg (other c u view)]
  · rfl

variable {c : CartData} {u : Bool} (sound : sl.difference = 0) (out : sl.record = .out c u) (holds : c.id = p.cart)
include sound out holds

/-- A transfer opened for it: the record DEPARTING, the entry gone. -/
theorem Station.departure_opens {opened : Station} {t : Tid}
    (opens : st.openXfer .outbound p.cart p.job (some p.slot) none p.hatch = (opened, some t)) :
    st.departure p = (opened.withRecord p.slot (.departing c t)).withPulls (front ++ rest) := by
  have pulls : opened.pulls = st.pulls := by
    have same := st.openXfer_pulls .outbound p.cart p.job (some p.slot) none p.hatch
    rwa [opens] at same
  have left : (front ++ p :: rest).filter (fun x => decide (x.cart ≠ p.cart)) = front ++ rest := by
    rw [List.filter_append, List.filter_cons, if_neg (by simp),
      List.filter_eq_self.mpr fun x hx => decide_eq_true (before x hx),
      List.filter_eq_self.mpr fun x hx => decide_eq_true (after x hx)]
  unfold Station.departure
  rw [Station.noticeDamage_of_known here (.inl sound)]
  dsimp only
  rw [Station.slot_eq here, Slot.view_out_iff.mpr ⟨sound, out⟩]
  dsimp only
  rw [if_pos holds, opens]
  dsimp only
  rw [pulls, entries, left]
  rfl

end

theorem exec_checkStationScan {s : Machine.State} (bay : s.station.bay = true) (joined : s.station.joined = true)
    (c : Cart) : Machine.exec (.checkStationScan .cartridge c) s = .next (s.put (s.station.checkStation c)) :=
  congrArg (fun st => Host.Outcome.next (s.put st)) (Station.onlyIf_of_true _ (by simp [bay, joined]))

/-- Settles O33: the opening of a transfer, then a departure at the record that holds the cartridge and at others. -/
theorem departureOpensTransfer : Obligations.DepartureOpensTransfer := by
  refine ⟨fun st d c job slot custody peer => ⟨?_, fun declined => Station.openXfer_declined declined, fun open_ => ?_⟩,
    fun s front rest p sl bay joined way entries pulled before after here => ⟨fun c u sound out holds =>
      ⟨fun declined => ?_, fun opened t opens => ?_⟩, fun other => ?_⟩⟩
  · rw [Station.declines_iff]
    cases d <;> rfl
  · obtain ⟨k, i, number, free, taken, opens⟩ := Station.openXfer_opened (job := job) (slot := slot)
      (custody := custody) open_
    refine ⟨k, i, number, free, taken, opens.trans ?_⟩
    cases d <;> rfl
  · rw [exec_checkStationScan bay joined, Station.checkStation_departure entries before way pulled,
      Station.departure_declined here sound out holds declined, Machine.State.put_station_self]
  · rw [exec_checkStationScan bay joined, Station.checkStation_departure entries before way pulled,
      Station.departure_opens entries before after here sound out holds opens]
  · rw [exec_checkStationScan bay joined, Station.checkStation_departure entries before way pulled]
    refine s.next_put (Station.departure_lost entries before after here (other.imp And.left And.right) ?_)
    intro c u view
    obtain ⟨sound, out⟩ := Slot.view_out_iff.mp view
    rcases other with ⟨-, other⟩ | ⟨damaged, -⟩
    · exact other c u out
    · exact absurd sound damaged

end Sys2Proof
end

section
/-! SUPPORT. The reserve write (R94) and the OFFER's table (R130). -/

namespace Sys2Proof

/-! ### The reserve write (R94) -/

section
variable {st : Station} (reported : st.damageReported) {c : Cart} (t : Tid)
include reported

/-- A cartridge that the lookup finds is not reserved for. -/
theorem Station.reserveWrite_held (found : st.table.lookup c ≠ .absent) : st.reserveWrite c t = (st, .held) := by
  have hit : (st.table.lookup c).found = true := by
    cases h : st.table.lookup c with
    | absent => exact absurd h found
    | sound n r => rfl
    | damaged n => rfl
  unfold Station.reserveWrite
  rw [Station.readAll_of_reported reported]
  exact if_pos hit

variable (absent : st.table.lookup c = .absent)
include absent

theorem Station.reserveWrite_eq : st.reserveWrite c t = ((List.range 256).find? st.isFreeSlot).elim (st, .full)
    fun n => (st.writeRecord n (.reserved { id := c, exposure := 0, acclim := none, inspect := false, mark := none } t),
      .slot n) := by
  unfold Station.reserveWrite
  rw [Station.readAll_of_reported reported]
  dsimp only
  rw [absent, if_neg (by simp [Lookup.found])]
  cases (List.range 256).find? st.isFreeSlot <;> rfl

theorem Station.reserveWrite_full (none : ∀ n, n ≤ 255 → st.isFreeSlot n = false) :
    st.reserveWrite c t = (st, .full) := by
  rw [Station.reserveWrite_eq reported t absent, List.find?_eq_none.mpr fun n hn => by
    simp [none n (by have := List.mem_range.mp hn; omega)]]
  rfl

/-- The lowest free slot is reserved. -/
theorem Station.reserveWrite_lowest {n : Nat} (inside : n ≤ 255) (free : st.isFreeSlot n = true)
    (lowest : ∀ m, m < n → st.isFreeSlot m = false) (unpulled : ∀ e ∈ st.pulls.entries, e.slot ≠ n) :
    st.reserveWrite c t = (st.withRecord n
      (.reserved { id := c, exposure := 0, acclim := none, inspect := false, mark := none } t), .slot n) := by
  have found : (List.range 256).find? st.isFreeSlot = some n :=
    List.find?_range_eq_some.mpr ⟨free, List.mem_range.mpr (by omega), fun m hm => by simp [lowest m hm]⟩
  rw [Station.reserveWrite_eq reported t absent, found, Option.elim_some, Station.writeRecord_of_unpulled _ unpulled]

end

/-! ### The refusals (R130 rows 2 to 7) -/

/-- The OFFER of an entry of the table again (R130 row 1). -/
@[reducible] def Station.OfferSame (st : Station) (src : Addr) (t : Tid) (c : Cart) : Prop :=
  ∃ e, st.xferById t = some e ∧ e.peer = src ∧ e.cart = c

/-- The transfer id or the cartridge is with this station already (R130 row 2). -/
@[reducible] def Station.OfferKnown (st : Station) (t : Tid) (c : Cart) : Prop :=
  (∃ e ∈ st.xfer.entries, e.tid = t ∨ e.cart = c) ∨ (∃ k ∈ st.xfer.claims, k.cart = c)
    ∨ (st.cfg.role = .hatch ∧ ((∃ e ∈ st.hatch.custody, e.cart = c)
      ∨ (∃ m ∈ st.hatch.session.manifest, m.cart = c) ∨ (∃ e ∈ st.hatch.expected, e.cart = c)))

/-- The direction of a station's receiving transfers. -/
def Role.receives : Role → Direction
  | .bay => .inbound
  | .hatch => .outbound

/-- The refusal of an OFFER that is not known here. -/
def Station.offerTests (st : Station) (direction : Byte) : Option Reason :=
  if 16 ≤ st.xfer.entries.length then some .full
  else if st.isSealed then some .sealed
  else if st.confirmed then some .fire
  else if Direction.ofCode direction ≠ some st.cfg.role.receives then some .role
  else if st.cfg.role = .hatch ∧ 32 ≤ st.placesTaken then some .full
  else none

section
variable {st : Station} {t : Tid} {c : Cart} (direction : Byte)

theorem Station.xferById_isSome : (st.xferById t).isSome = true ↔ ∃ e ∈ st.xfer.entries, e.tid = t := by
  simp [Station.xferById, List.find?_isSome]

/-- The test of row 2 as the model makes it. -/
theorem Station.offerKnown_iff : ((st.xferById t).isSome || (st.xferByCart c).isSome || st.claimed c
    || (decide (st.cfg.role = .hatch) &&
      (st.hatch.custody.any (fun e => decide (e.cart = c))
        || st.hatch.session.manifest.any (fun m => decide (m.cart = c))
        || st.hatch.expected.any (fun e => decide (e.cart = c))))) = true ↔ st.OfferKnown t c := by
  have entries : (∃ e ∈ st.xfer.entries, e.tid = t ∨ e.cart = c)
      ↔ (∃ e ∈ st.xfer.entries, e.tid = t) ∨ ∃ e ∈ st.xfer.entries, e.cart = c := by
    simp only [and_or_left, exists_or]
  simp only [Bool.or_eq_true, Bool.and_eq_true, decide_eq_true_iff, List.any_eq_true, Station.xferById_isSome,
    Station.xferByCart_isSome, Station.claimed_iff, Station.OfferKnown, entries, or_assoc]

theorem Station.offerRefusal_known (h : st.OfferKnown t c) : st.offerRefusal t c direction = some .duplicate :=
  if_pos (Station.offerKnown_iff.mpr h)

theorem Station.offerRefusal_new (h : ¬st.OfferKnown t c) :
    st.offerRefusal t c direction = st.offerTests direction := by
  refine (if_neg fun known => h (Station.offerKnown_iff.mp known)).trans ?_
  unfold Station.offerTests Role.receives
  cases st.cfg.role <;> rfl

end

/-! ### An OFFER taken in (R130) -/

/-- An OFFER that passes the tests: a HATCH takes it, a BAY reserves a slot for it. -/
def Station.offerPlaced (st : Station) (src : Addr) (t : Tid) (c : Cart) (job : Job) : Station :=
  match st.cfg.role with
  | .hatch => st.acceptOffer src t c job none
  | .bay =>
    match (st.reserveWrite c t).2 with
    | .held => (st.reserveWrite c t).1.sendXfer src (.refuse t Reason.duplicate.code)
    | .full => (st.reserveWrite c t).1.sendXfer src (.refuse t Reason.full.code)
    | .slot n => (st.reserveWrite c t).1.acceptOffer src t c job (some n)

section
variable {st : Station} {src : Addr} {t : Tid} {c : Cart} (job : Job) (direction : Byte)

theorem Station.takeOffer_away (h : st.joined = false) : Station.takeOffer src t c job direction st = st := by
  unfold Station.takeOffer
  exact Station.onlyIf_of_false _ h

section
variable (joined : st.joined = true)
include joined

theorem Station.takeOffer_again {e : XferEntry} (found : st.xferById t = some e) (same : st.OfferSame src t c) :
    Station.takeOffer src t c job direction st
      = st.hand .transfers src (.accept t (e.slot.map (BitVec.ofNat 8))) := by
  obtain ⟨e', there, peer, cart⟩ := same
  obtain rfl : e = e' := Option.some.inj (found.symm.trans there)
  unfold Station.takeOffer
  rw [Station.onlyIf_of_true _ joined, found]
  exact if_pos ⟨peer, cart⟩

/-- An OFFER of no entry here is refused with the first reason, or placed. -/
theorem Station.takeOffer_other (other : ¬st.OfferSame src t c) : Station.takeOffer src t c job direction st =
    (st.offerRefusal t c direction).elim (st.offerPlaced src t c job)
      fun r => st.hand .transfers src (.refuse t r.code) := by
  unfold Station.takeOffer
  rw [Station.onlyIf_of_true _ joined]
  dsimp only
  cases found : st.xferById t with
  | some e =>
    have known : st.OfferKnown t c := by
      refine .inl ⟨e, List.mem_of_find?_eq_some found, .inl ?_⟩
      simpa using List.find?_some found
    rw [Station.offerRefusal_known direction known]
    exact if_neg fun same => other ⟨e, found, same⟩
  | none =>
    dsimp only
    cases st.offerRefusal t c direction with
    | some r => rfl
    | none =>
      dsimp only [Option.elim_none]
      unfold Station.offerPlaced
      cases st.cfg.role with
      | hatch => rfl
      | bay =>
        dsimp only
        rcases st.reserveWrite c t with ⟨x, r⟩
        cases r <;> rfl

end

/-- The receiving entry of an OFFER at the end of the table (R130 row 10). -/
def Station.offerCreated (st : Station) (src : Addr) (t : Tid) (c : Cart) (job : Job) (slot : Option Nat) : Station :=
  { st with
    xfer := { st.xfer with
      check := 0
      entries := st.xfer.entries ++ [
        { tid := t, cart := c, peer := src, job := job
          direction := if st.cfg.role = .bay then .inbound else .outbound
          state := .expected, attempts := 0, transit := .stopped, slot := slot, custody := none
          acceptedSlot := none, reply := none }] } }

theorem Station.acceptOffer_eq (slot : Option Nat) : st.acceptOffer src t c job slot
    = (st.offerCreated src t c job slot).hand .transfers src (.accept t (slot.map (BitVec.ofNat 8))) := by
  unfold Station.acceptOffer Station.offerCreated expectedEntry Station.setXfers Station.onXfer
  cases st.cfg.role <;> rfl

end

theorem exec_offer (s : Machine.State) {src : Addr} (t : Tid) (c : Cart) (job : Job) (direction : Byte)
    (heard : s.station.hearsPeer src) : Machine.exec (.offer src t c job direction) s
      = .next (s.put (Station.takeOffer src t c job direction (s.station.modifyPeer src Peer.refresh))) :=
  congrArg (fun st => Host.Outcome.next (s.put st)) (Station.fromPeer_heard _ heard)

theorem Direction.ofCode_eq_iff {b : Byte} {d : Direction} : Direction.ofCode b = some d ↔ b.toNat = d.code.toNat := by
  unfold Direction.ofCode
  split
  · next zero => cases d <;> simp [zero, Direction.code]
  · next one => cases d <;> simp [one, Direction.code]
  · next zero one =>
    cases d with
    | outbound => simpa [Direction.code] using zero
    | inbound => simpa [Direction.code] using one

/-- The tests of an OFFER that a station not in a confirmed state has room for. -/
theorem Station.offerTests_open {st : Station} {direction : Byte} (room : st.xfer.entries.length < 16)
    (unconfirmed : st.confirmed = false) : st.offerTests direction =
      if direction.toNat ≠ st.cfg.role.receives.code.toNat then some .role
      else if st.cfg.role = .hatch ∧ 32 ≤ st.placesTaken then some .full
      else none := by
  have unsealed : st.isSealed = false := FireState.not_sealed_of_unconfirmed unconfirmed
  unfold Station.offerTests
  rw [if_neg (by omega), unsealed, unconfirmed]
  simp only [ne_eq, Direction.ofCode_eq_iff]
  rfl

/-- The entries that take a place at a hatch are those of R130. -/
theorem XferState.receiving_eq (x : XferState) :
    x.receiving = decide (x = .expected ∨ x = .arrived ∨ x = .placing) := by
  cases x <;> rfl

section
variable {st : Station} {src : Addr} {t : Tid} {c : Cart} (job : Job)

theorem Station.offerPlaced_hatch (hatch : st.cfg.role = .hatch) : st.offerPlaced src t c job
    = (st.offerCreated src t c job none).hand .transfers src (.accept t none) := by
  unfold Station.offerPlaced
  rw [hatch]
  exact Station.acceptOffer_eq job none

variable (bay : st.cfg.role = .bay)
include bay

theorem Station.offerPlaced_held (held : st.reserveWrite c t = (st, .held)) :
    st.offerPlaced src t c job = st.hand .transfers src (.refuse t Reason.duplicate.code) := by
  unfold Station.offerPlaced
  rw [bay, held]
  rfl

theorem Station.offerPlaced_full (full : st.reserveWrite c t = (st, .full)) :
    st.offerPlaced src t c job = st.hand .transfers src (.refuse t Reason.full.code) := by
  unfold Station.offerPlaced
  rw [bay, full]
  rfl

theorem Station.offerPlaced_reserved {x : Station} {n : Nat} (reserved : st.reserveWrite c t = (x, .slot n)) :
    st.offerPlaced src t c job
      = (x.offerCreated src t c job (some n)).hand .transfers src (.accept t (some (BitVec.ofNat 8 n))) := by
  unfold Station.offerPlaced
  rw [bay, reserved]
  exact Station.acceptOffer_eq job (some n)

end

section
variable {st : Station} {src : Addr} {t : Tid} {c : Cart} (job : Job) {direction : Byte}
  (joined : st.joined = true) (other : ¬st.OfferSame src t c) (new : ¬st.OfferKnown t c)
include joined other

theorem Station.takeOffer_known (known : st.OfferKnown t c) : Station.takeOffer src t c job direction st
    = st.hand .transfers src (.refuse t Reason.duplicate.code) := by
  rw [Station.takeOffer_other job direction joined other, Station.offerRefusal_known direction known]
  rfl

include new

theorem Station.takeOffer_refused {r : Reason} (refusal : st.offerTests direction = some r) :
    Station.takeOffer src t c job direction st = st.hand .transfers src (.refuse t r.code) := by
  rw [Station.takeOffer_other job direction joined other, Station.offerRefusal_new direction new, refusal]
  rfl

theorem Station.takeOffer_passed (passed : st.offerTests direction = none) :
    Station.takeOffer src t c job direction st = st.offerPlaced src t c job := by
  rw [Station.takeOffer_other job direction joined other, Station.offerRefusal_new direction new, passed]
  rfl

theorem Station.takeOffer_full (full : 16 ≤ st.xfer.entries.length) :
    Station.takeOffer src t c job direction st = st.hand .transfers src (.refuse t 0) :=
  Station.takeOffer_refused job joined other new (if_pos full)

variable (room : st.xfer.entries.length < 16)
include room

theorem Station.takeOffer_sealed (closed : st.supp.fire = .soak ∨ st.supp.fire = .vent) :
    Station.takeOffer src t c job direction st = st.hand .transfers src (.refuse t 2) := by
  have sealed : st.isSealed = true := (FireState.isSealed_iff _).mpr closed
  exact Station.takeOffer_refused job joined other new ((if_neg (Nat.not_le.mpr room)).trans (if_pos sealed))

theorem Station.takeOffer_fire (soak : st.supp.fire ≠ .soak) (vent : st.supp.fire ≠ .vent)
    (confirmed : st.confirmed = true) :
    Station.takeOffer src t c job direction st = st.hand .transfers src (.refuse t 3) := by
  have unsealed : ¬st.isSealed = true := fun closed => ((FireState.isSealed_iff _).mp closed).elim soak vent
  exact Station.takeOffer_refused job joined other new
    ((if_neg (Nat.not_le.mpr room)).trans ((if_neg unsealed).trans (if_pos confirmed)))

variable (unconfirmed : st.confirmed = false)
include unconfirmed

theorem Station.takeOffer_role (wrong : direction.toNat ≠ if st.cfg.role = .bay then 1 else 0) :
    Station.takeOffer src t c job direction st = st.hand .transfers src (.refuse t 4) := by
  refine Station.takeOffer_refused (r := .role) job joined other new
    ((Station.offerTests_open room unconfirmed).trans ?_)
  refine if_pos fun right => wrong (right.trans ?_)
  cases st.cfg.role <;> rfl

/-- An OFFER out of a bay, at a hatch. -/
theorem Station.takeOffer_hatch (outbound : direction.toNat = 0) (hatch : st.cfg.role = .hatch) :
    Station.takeOffer src t c job direction st =
      if 32 ≤ st.placesTaken then st.hand .transfers src (.refuse t 0)
      else (st.offerCreated src t c job none).hand .transfers src (.accept t none) := by
  have tests := Station.offerTests_open (direction := direction) room unconfirmed
  rw [hatch, if_neg (by simp [outbound, Role.receives, Direction.code])] at tests
  by_cases full : 32 ≤ st.placesTaken
  · rw [if_pos full]
    exact Station.takeOffer_refused (r := .full) job joined other new (tests.trans (if_pos ⟨rfl, full⟩))
  · rw [if_neg full, Station.takeOffer_passed job joined other new (tests.trans (if_neg fun h => full h.2)),
      Station.offerPlaced_hatch job hatch]

/-- An OFFER into a bay, at a bay. -/
theorem Station.takeOffer_bay (inbound : direction.toNat = 1) (bay : st.cfg.role = .bay) :
    Station.takeOffer src t c job direction st = st.offerPlaced src t c job := by
  have tests := Station.offerTests_open (direction := direction) room unconfirmed
  rw [bay, if_neg (by simp [inbound, Role.receives, Direction.code]), if_neg (by simp)] at tests
  exact Station.takeOffer_passed job joined other new tests

end

/-- The places of a hatch are counted as R130 counts them. -/
theorem Station.placesTaken_eq (st : Station) : st.placesTaken = st.hatch.custody.length
    + (if st.hatch.session.direction = some .inbound then st.hatch.session.manifest.length else 0)
    + (st.xfer.entries.filter fun e => decide (e.state = .expected ∨ e.state = .arrived ∨ e.state = .placing)).length
    + st.xfer.claims.length := by
  simp only [Station.placesTaken, XferState.receiving_eq]

/-- Settles O35: the rows of R130 in order, at the station with the sender's record refreshed. -/
theorem offerTable : Obligations.OfferTable := by
  intro s src t c job dir hears reported apart
  let heard := s.station.modifyPeer src Peer.refresh
  have takes {x : Station} (h : Station.takeOffer src t c job dir heard = x) :
      Machine.exec (.offer src t c job dir) s = .next (s.put x) := by
    rw [← h]
    exact exec_offer s t c job dir hears
  refine ⟨fun away => takes (Station.takeOffer_away (st := heard) job dir away), fun joined => ⟨fun e found same =>
    takes (Station.takeOffer_again (st := heard) job dir joined found same), fun other => ⟨fun known =>
      takes (Station.takeOffer_known (st := heard) job joined other known), fun new full =>
        takes (Station.takeOffer_full (st := heard) job joined other new full), fun new room => ⟨fun closed =>
      takes (Station.takeOffer_sealed (st := heard) job joined other new room closed), fun soak vent confirmed =>
        takes (Station.takeOffer_fire (st := heard) job joined other new room soak vent confirmed), fun unconfirmed =>
      ⟨fun wrong => takes (Station.takeOffer_role (st := heard) job joined other new room unconfirmed wrong),
        fun outbound hatch => ?_, fun inbound bay => ?_⟩⟩⟩⟩⟩
  · have took := Station.takeOffer_hatch (st := heard) job joined other new room unconfirmed outbound hatch
    have places := s.station.placesTaken_eq
    refine ⟨fun full => takes (took.trans (if_pos ?_)), fun free => takes (took.trans (if_neg ?_))⟩
    · exact full.trans_eq places.symm
    · exact Nat.not_le.mpr (places.trans_lt free)
  · have placed := Station.takeOffer_bay (st := heard) job joined other new room unconfirmed inbound bay
    refine ⟨fun found => ?_, fun absent none => ?_, fun n absent inside free lowest => ?_⟩
    · exact takes (placed.trans (Station.offerPlaced_held (st := heard) job bay
        (Station.reserveWrite_held (st := heard) reported t found)))
    · exact takes (placed.trans (Station.offerPlaced_full (st := heard) job bay
        (Station.reserveWrite_full (st := heard) reported t absent none)))
    · have unpulled : ∀ e ∈ heard.pulls.entries, e.slot ≠ n := fun e he at_ => by
        have taken := apart e he
        rw [at_] at taken
        exact Bool.false_ne_true (taken.symm.trans free)
      exact takes (placed.trans (Station.offerPlaced_reserved (st := heard) job bay
        (Station.reserveWrite_lowest (st := heard) reported t absent inside free lowest unpulled)))

end Sys2Proof
end

section
/-! SUPPORT. Reads of reader B (R113): cartridges that nothing awaits, arrivals, and the audit's scan (R118). -/

namespace Sys2Proof

section
variable {st : Station} {c : Cart}

/-! ### A cartridge that nothing awaits (R113 rows 4 to 7) -/

theorem Station.checkStation_unpulled (way : st.audit.state ≠ .reading)
    (unpulled : ∀ e ∈ st.pulls.entries, e.cart = c → e.state ≠ .out) :
    st.checkStation c = (st.expectedXfer c).elim (st.strangeScan c) st.arrival := by
  have none : (st.pulls.entries.find? fun e => decide (e.cart = c) && decide (e.state = .out)) = none :=
    List.find?_eq_none.mpr fun e he => by simpa using unpulled e he
  unfold Station.checkStation
  rw [if_neg way, none]
  cases st.expectedXfer c <;> rfl

theorem Station.expectedXfer_none (unexpected : ∀ e ∈ st.xfer.entries, e.cart = c → e.state ≠ .expected) :
    st.expectedXfer c = none :=
  List.find?_eq_none.mpr fun e he => by simpa using unexpected e he

section
variable (reported : st.damageReported)
include reported

theorem Station.strangeScan_absent (h : st.table.lookup c = .absent) : st.strangeScan c = st.makeClaim c := by
  unfold Station.strangeScan
  rw [Station.readAll_of_reported reported]
  dsimp only
  rw [h]

theorem Station.strangeScan_damaged {n : Nat} (h : st.table.lookup c = .damaged n) : st.strangeScan c = st := by
  unfold Station.strangeScan
  rw [Station.readAll_of_reported reported]
  dsimp only
  rw [h]

/-- A record that a transfer holds leaves the scan without effect. -/
theorem Station.strangeScan_transfer {n : Nat} {d : CartData} {t : Tid}
    (h : st.table.lookup c = .sound n (.departing d t) ∨ st.table.lookup c = .sound n (.reserved d t)
      ∨ st.table.lookup c = .sound n (.placing d t)) :
    st.strangeScan c = st := by
  unfold Station.strangeScan
  rw [Station.readAll_of_reported reported]
  rcases h with h | h | h <;> simp only [h]

/-- A cartridge of a slot's record is the wrong one. -/
theorem Station.strangeScan_wrong {n : Nat} {d : CartData} {u : Bool}
    (h : st.table.lookup c = .sound n (.out d u) ∨ st.table.lookup c = .sound n (.filed d)) :
    st.strangeScan c = st.wrongCartridge n c := by
  unfold Station.strangeScan
  rw [Station.readAll_of_reported reported]
  rcases h with h | h <;> simp only [h]

end

theorem Station.makeClaim_none (h : (∃ k ∈ st.xfer.claims, k.cart = c) ∨ (∃ e ∈ st.xfer.entries, e.cart = c)
    ∨ 4 ≤ st.xfer.claims.length) : st.makeClaim c = st := by
  unfold Station.makeClaim
  rcases h with claimed | held | full
  · exact if_pos (.inl (Station.claimed_iff.mpr claimed))
  · exact if_pos (.inr (Station.xferByCart_isSome.mpr held))
  · rw [if_pos full, ite_self]

/-- A claim of 2 s, and a CLAIM to ALL (R141). -/
theorem Station.makeClaim_bay (bay : st.cfg.role = .bay) (unclaimed : ∀ k ∈ st.xfer.claims, k.cart ≠ c)
    (free : ∀ e ∈ st.xfer.entries, e.cart ≠ c) (room : st.xfer.claims.length < 4) :
    st.makeClaim c = ({ st with xfer := { st.xfer with
      claims := st.xfer.claims ++ [{ cart := c, timer := ticksOfSec 2 }] } } : Station).hand
        .transfers 255 (.claim c) := by
  have none : ¬(st.claimed c = true ∨ (st.xferByCart c).isSome = true) := by
    rw [Station.claimed_iff, Station.xferByCart_isSome]
    rintro (⟨k, hk, same⟩ | ⟨e, he, same⟩)
    · exact unclaimed k hk same
    · exact free e he same
  unfold Station.makeClaim
  rw [if_neg none, if_neg (Nat.not_le.mpr room), if_neg (by simp [bay])]
  rfl

/-! ### An arrival (R115, R132) -/

/-- The entry ARRIVED, and its ARRIVE handed to its peer. -/
def Station.toldArrived (st : Station) (e : XferEntry) : Station :=
  (st.modifyXfer e.tid fun y => { y with state := .arrived, attempts := 0, reply := none }).hand .transfers e.peer
    (.arrive e.tid)

section
variable {e : XferEntry} {n : Nat} {sl : Slot} (bay : st.cfg.role = .bay) (slot : e.slot = some n)
  (here : st.table.slots[n]? = some sl)
include bay slot here

/-- The slot reserved for the transfer is PLACING, with its lamp on. -/
theorem Station.arrival_placed {d : CartData} (sound : sl.difference = 0) (reserved : sl.record = .reserved d e.tid)
    (unpulled : ∀ x ∈ st.pulls.entries, x.slot ≠ n) :
    st.arrival e = ((st.withRecord n (.placing d e.tid)).askLamp n .on).toldArrived e := by
  have view : (st.table.slot n).view = .reserved d e.tid := by
    rw [Station.slot_eq here, Slot.view_of_sound sound (by simp [reserved]), reserved]
  have placed : st.placeWrite n e.tid = (st.withRecord n (.placing d e.tid), true) := by
    unfold Station.placeWrite
    rw [Station.noticeDamage_of_known here (.inl sound)]
    dsimp only
    rw [view, ← Station.writeRecord_of_unpulled _ unpulled]
    exact if_pos rfl
  unfold Station.arrival Station.placeFor
  rw [bay, slot]
  dsimp only
  rw [placed]
  rfl

/-- A slot not reserved for it any more gives a STRAY-ARRIVAL (R127). -/
theorem Station.arrival_stray (known : sl.difference = 0 ∨ sl.damage ≠ .none)
    (other : ∀ d, sl.view ≠ .reserved d e.tid) :
    st.arrival e = (st.engineAlert 10 none e.cart (some e.tid) none).toldArrived e := by
  have unplaced : st.placeWrite n e.tid = (st, false) := by
    unfold Station.placeWrite
    rw [Station.noticeDamage_of_known here known]
    dsimp only
    rw [Station.slot_eq here]
    split
    · next d t view => exact if_neg fun same => other d (by rw [view, same])
    · rfl
  unfold Station.arrival Station.placeFor
  rw [bay, slot]
  dsimp only
  rw [unplaced]
  rfl

end

/-! ### The other record's part in an audit write (R87) -/

theorem Station.elsewhere_absent (h : st.table.lookup c = .absent) : st.elsewhere c = .free false := by
  unfold Station.elsewhere
  rw [h]

theorem Station.elsewhere_damaged {m : Nat} (h : st.table.lookup c = .damaged m) : st.elsewhere c = .free true := by
  unfold Station.elsewhere
  rw [h]

theorem Station.elsewhere_rewrite {m : Nat} {d : CartData} (h : st.table.lookup c = .sound m (.filed d))
    (unpulled : ∀ e ∈ st.pulls.entries, e.cart ≠ c) : st.elsewhere c = .rewrite m := by
  unfold Station.elsewhere
  rw [h]
  exact if_neg (by simp [Station.pullFor_eq_none unpulled])

theorem Station.elsewhere_kept {m : Nat} {r : Rec} (h : st.table.lookup c = .sound m r)
    (kept : (∀ d, r ≠ .filed d) ∨ ¬∀ e ∈ st.pulls.entries, e.cart ≠ c) : st.elsewhere c = .kept := by
  unfold Station.elsewhere
  rw [h]
  cases r with
  | filed d =>
    have pulled := kept.resolve_left fun other => other d rfl
    push Not at pulled
    exact if_pos ((Station.pullFor_isSome_iff c).mpr pulled)
  | _ => rfl

end

/-! ### The decision of an audit scan (R118) -/

/-- The record that an audit writes for a scanned id. -/
def auditWritten (y : Cart) (m : Mark) : Rec :=
  .out { id := y, exposure := 0, acclim := none, inspect := true, mark := some m } false

/-- A disagreement: alerted with what was found, and counted; a stray may be left pending. -/
def Station.auditMismatched (st : Station) (n : Nat) (y : Cart) (second : Option Cart) (pending : Bool) : Station :=
  (st.auditMismatch n y second).onAudit fun a =>
    { a.count false true with strayPending := a.strayPending || pending }

theorem Station.auditMismatched_plain (st : Station) (n : Nat) (y : Cart) (second : Option Cart) :
    (st.auditMismatch n y second).onAudit (·.count false true) = st.auditMismatched n y second false :=
  congrArg (st.auditMismatch n y second).onAudit (funext fun a => by simp [Audit.count])

/-- Another id than the one lifted is scanned: it is written where no record keeps it. -/
def Station.auditReplaced (st : Station) (n : Nat) (y x : Cart) : Station :=
  match st.elsewhere y with
  | .free _ => (st.writeRecord n (auditWritten y .mismatch)).auditMismatched n y (some x) false
  | .rewrite m =>
    ((st.writeRecord m .unknown).writeRecord n (auditWritten y .mismatch)).auditMismatched n y (some x) false
  | .kept => st.auditMismatched n y (some x) true

/-- An id is scanned for an unidentified slot: it is written where no record keeps it. -/
def Station.auditFilled (st : Station) (n : Nat) (y : Cart) : Station :=
  match st.elsewhere y with
  | .free false => (st.writeRecord n (auditWritten y .matched)).onAudit (·.count true false)
  | .free true => (st.writeRecord n (auditWritten y .matched)).auditMismatched n y none false
  | .rewrite m => ((st.writeRecord m .unknown).writeRecord n (auditWritten y .matched)).auditMismatched n y none false
  | .kept => st.auditMismatched n y none false

section
variable {st : Station} {n : Nat} {sl : Slot} {y : Cart} (here : st.table.slots[n]? = some sl)
  (sound : sl.difference = 0)
include here sound

/-- An audit scan at a record still OUT as it was lifted. -/
theorem Station.auditDecide_identified {c : CartData} {u : Bool} (found : st.audit.finding = some (.identified c.id))
    (out : sl.record = .out c u) : st.auditDecide n y =
      if y = c.id then (st.writeRecord n (.out { c with mark := some .matched } u)).onAudit (·.count false false)
      else st.readAll.auditReplaced n y c.id := by
  unfold Station.auditDecide
  rw [found, Station.slot_eq here, Slot.view_of_sound sound (by simp [out]), out]
  refine (if_neg (not_not_intro rfl)).trans ?_
  unfold Station.auditReplaced
  simp only [← Station.auditMismatched_plain]
  cases st.readAll.elsewhere y <;> simp [Station.auditMismatched, auditWritten, auditedCart]

/-- An audit scan at a record still VACANT as it was left. -/
theorem Station.auditDecide_unidentified (found : st.audit.finding = some .unidentified)
    (vacant : sl.record = .vacant) :
    st.auditDecide n y = st.readAll.auditFilled n y := by
  unfold Station.auditDecide
  rw [found, Station.slot_eq here, Slot.view_of_sound sound (by simp [vacant]), vacant]
  unfold Station.auditFilled
  simp only [← Station.auditMismatched_plain]
  rcases st.readAll.elsewhere y with (_ | _) | _ | _ <;> rfl

/-- A record that is not as the removal left it is left so. -/
theorem Station.auditDecide_changed (settled : sl.record ≠ .unsettled)
    (changed : (∃ x, st.audit.finding = some (.identified x) ∧ ∀ c u, sl.record = .out c u → c.id ≠ x)
      ∨ (st.audit.finding = some .unidentified ∧ sl.record ≠ .vacant)) :
    st.auditDecide n y = st.auditMismatched n y (sl.record.cart.map CartData.id) false := by
  rw [← Station.auditMismatched_plain]
  unfold Station.auditDecide
  rw [Station.slot_eq here, Slot.view_of_sound sound settled]
  rcases changed with ⟨x, found, other⟩ | ⟨found, other⟩
  · rw [found]
    cases record : sl.record with
    | out c u => exact if_pos (other c u record)
    | _ => rfl
  · rw [found]
    cases record : sl.record with
    | vacant => exact absurd record other
    | _ => rfl

end

/-! ### The audit RETURNING (R118) -/

/-- The audit RETURNING after a scan, its step timer loaded. -/
def Station.auditReturning (st : Station) : Station :=
  { st with audit := { st.audit with
      state := .returning, step := some (ticksOfSec st.cfg.auditStepLimit) } }

/-- What a disagreement does to a station with the audit of another: the alert, the counts, a stray pending. -/
def Station.auditTells (st : Station) (n : Nat) (y : Cart) (second : Option Cart) (pending : Bool) (x : Station) :
    Station :=
  { x.hand .pulls 255 (.custodyAlert
      { kind := 4, slot := some (BitVec.ofNat 8 n), cart := some y, cart2 := second, tid := none, reason := none }) with
    audit := { st.audit with
      state := .returning, step := some (ticksOfSec st.cfg.auditStepLimit)
      checked := st.audit.checked + 1, mismatched := st.audit.mismatched + 1
      strayPending := st.audit.strayPending || pending } }

section
variable {st x : Station} {n : Nat} {sl : Slot} {y : Cart}

theorem Station.auditMismatched_returning (same : st.AuditSame x) (second : Option Cart) (pending : Bool) :
    (x.auditMismatched n y second pending).auditReturning = st.auditTells n y second pending x := by
  have audit : (x.auditMismatch n y second).audit = st.audit := (Station.hand_audit _ _ _ _).trans same.audit
  have cfg : (x.auditMismatch n y second).cfg = st.cfg := (same.hand _ _ _).cfg
  unfold Station.auditReturning Station.auditMismatched Station.onAudit
  change { x.auditMismatch n y second with audit := { (x.auditMismatch n y second).audit with
    state := .returning, step := some (ticksOfSec (x.auditMismatch n y second).cfg.auditStepLimit)
    checked := (x.auditMismatch n y second).audit.checked + 1
    mismatched := (x.auditMismatch n y second).audit.mismatched + 1
    strayPending := (x.auditMismatch n y second).audit.strayPending || pending } } = _
  rw [audit, cfg]
  rfl

/-- A scan in READING is decided at the cursor. -/
theorem Station.checkStation_audit (reading : st.audit.state = .reading) (cursor : st.audit.cursor = some n)
    (here : st.table.slots[n]? = some sl) (sound : sl.difference = 0) :
    st.checkStation y = (st.auditDecide n y).auditReturning := by
  unfold Station.checkStation
  rw [if_pos reading]
  unfold Station.auditScan
  rw [cursor]
  dsimp only
  rw [Station.noticeDamage_of_known here (.inl sound)]
  rfl

end

/-! ### The writes of an audit scan -/

section
variable {st : Station} {n : Nat} {y x : Cart} (unpulled : ∀ e ∈ st.pulls.entries, e.slot ≠ n)

theorem Station.auditReplaced_kept (h : st.elsewhere y = .kept) :
    st.auditReplaced n y x = st.auditMismatched n y (some x) true := by
  unfold Station.auditReplaced
  rw [h]

theorem Station.auditFilled_kept (h : st.elsewhere y = .kept) :
    st.auditFilled n y = st.auditMismatched n y none false := by
  unfold Station.auditFilled
  rw [h]

include unpulled

theorem Station.auditReplaced_free {b : Bool} (h : st.elsewhere y = .free b) : st.auditReplaced n y x
    = (st.withRecord n (auditWritten y .mismatch)).auditMismatched n y (some x) false := by
  unfold Station.auditReplaced
  rw [h, ← Station.writeRecord_of_unpulled _ unpulled]

theorem Station.auditFilled_free (h : st.elsewhere y = .free false) : st.auditFilled n y
    = (st.withRecord n (auditWritten y .matched)).onAudit (·.count true false) := by
  unfold Station.auditFilled
  rw [h, ← Station.writeRecord_of_unpulled _ unpulled]

theorem Station.auditFilled_damaged (h : st.elsewhere y = .free true) : st.auditFilled n y
    = (st.withRecord n (auditWritten y .matched)).auditMismatched n y none false := by
  unfold Station.auditFilled
  rw [h, ← Station.writeRecord_of_unpulled _ unpulled]

section
variable {m : Nat} (h : st.elsewhere y = .rewrite m) (apart : ∀ e ∈ st.pulls.entries, e.slot ≠ m)
include h apart

theorem Station.auditReplaced_rewrite : st.auditReplaced n y x
    = ((st.withRecord m .unknown).withRecord n (auditWritten y .mismatch)).auditMismatched n y (some x) false := by
  unfold Station.auditReplaced
  rw [h]
  dsimp only
  rw [Station.writeRecord_of_unpulled (st := st) _ apart,
    Station.writeRecord_of_unpulled (st := st.withRecord m .unknown) _ unpulled]

theorem Station.auditFilled_rewrite : st.auditFilled n y
    = ((st.withRecord m .unknown).withRecord n (auditWritten y .matched)).auditMismatched n y none false := by
  unfold Station.auditFilled
  rw [h]
  dsimp only
  rw [Station.writeRecord_of_unpulled (st := st) _ apart,
    Station.writeRecord_of_unpulled (st := st.withRecord m .unknown) _ unpulled]

end

end

/-! ### The scans -/

section
variable {st : Station} {n : Nat} {sl : Slot} {y : Cart} (reading : st.audit.state = .reading)
  (cursor : st.audit.cursor = some n) (here : st.table.slots[n]? = some sl) (sound : sl.difference = 0)
include reading cursor here sound

theorem Station.checkStation_replaced {c : CartData} {u : Bool} (reported : st.damageReported)
    (found : st.audit.finding = some (.identified c.id)) (out : sl.record = .out c u) (other : y ≠ c.id) :
    st.checkStation y = (st.auditReplaced n y c.id).auditReturning := by
  rw [Station.checkStation_audit reading cursor here sound, Station.auditDecide_identified here sound found out,
    if_neg other, Station.readAll_of_reported reported]

theorem Station.checkStation_filled (reported : st.damageReported) (found : st.audit.finding = some .unidentified)
    (vacant : sl.record = .vacant) : st.checkStation y = (st.auditFilled n y).auditReturning := by
  rw [Station.checkStation_audit reading cursor here sound, Station.auditDecide_unidentified here sound found vacant,
    Station.readAll_of_reported reported]

theorem Station.checkStation_changed (settled : sl.record ≠ .unsettled)
    (changed : (∃ x, st.audit.finding = some (.identified x) ∧ ∀ c u, sl.record = .out c u → c.id ≠ x)
      ∨ (st.audit.finding = some .unidentified ∧ sl.record ≠ .vacant)) :
    st.checkStation y = st.auditTells n y (sl.record.cart.map CartData.id) false st := by
  rw [Station.checkStation_audit reading cursor here sound, Station.auditDecide_changed here sound settled changed,
    Station.auditMismatched_returning (Station.AuditSame.refl st)]

end

/-- Settles O32: the reads that nothing awaits, the arrivals, the audit's scans of a free id and of one held
elsewhere. -/
theorem checkStationScans : Obligations.CheckStationScans := by
  refine ⟨⟨fun s cls c apart => ?_, fun s c bay joined reported way unpulled unexpected => ?_⟩,
    fun s c e n sl bay joined way unpulled expected slot here => ?_,
    fun s n sl y bay joined reported reading cursor here sound unpulled => ?_,
    fun s n sl y bay joined reported reading cursor here sound unpulled => ?_⟩
  · have off : (s.station.bay && s.station.joined && decide (cls = .cartridge)) = false := by
      rcases apart with other | away | away <;> simp [*]
    exact s.next_put (Station.onlyIf_of_false _ off)
  · have read : s.station.checkStation c = s.station.strangeScan c := by
      rw [Station.checkStation_unpulled way unpulled, Station.expectedXfer_none unexpected]
      rfl
    have takes {x : Station} (h : s.station.strangeScan c = x) :
        Machine.exec (.checkStationScan .cartridge c) s = .next (s.put x) := by
      rw [exec_checkStationScan bay joined, read, h]
    have role := Station.role_of_bay bay
    refine ⟨fun n damaged => takes (Station.strangeScan_damaged reported damaged),
      fun n d t held => takes (Station.strangeScan_transfer reported held),
      fun n d u wrong => takes (Station.strangeScan_wrong reported wrong), fun absent => ⟨fun none => takes ?_,
        fun unclaimed free room => takes ?_⟩⟩
    · rw [Station.strangeScan_absent reported absent, Station.makeClaim_none none]
    · rw [Station.strangeScan_absent reported absent, Station.makeClaim_bay role unclaimed free room]
  · have read : s.station.checkStation c = s.station.arrival e := by
      rw [Station.checkStation_unpulled way unpulled, expected]
      rfl
    have cart : e.cart = c := by
      have hit := List.find?_some expected
      exact of_decide_eq_true (Bool.and_eq_true_iff.mp hit).1
    have takes {x : Station} (h : s.station.arrival e = x.toldArrived e) :
        Machine.exec (.checkStationScan .cartridge c) s = .next (s.put (x.toldArrived e)) := by
      rw [exec_checkStationScan bay joined, read, h]
    have role := Station.role_of_bay bay
    refine ⟨fun d sound reserved apart => takes (Station.arrival_placed role slot here sound reserved apart),
      fun other => takes ?_⟩
    rw [← cart]
    refine Station.arrival_stray role slot here (other.imp And.left And.right) fun d view => ?_
    rcases other with ⟨sound, other⟩ | ⟨damaged, -⟩
    · by_cases unsettled : sl.record = .unsettled
      · simp [Slot.view, Slot.sound, sound, unsettled] at view
      · exact other d ((Slot.view_of_sound sound unsettled).symm.trans view)
    · simp [Slot.view_of_damaged damaged] at view
  · have takes {x : Station} (h : s.station.checkStation y = x) :
        Machine.exec (.checkStationScan .cartridge y) s = .next (s.put x) := by
      rw [exec_checkStationScan bay joined, h]
    refine ⟨fun c u found out => ⟨fun same => takes ?_, fun other absent => takes ?_⟩,
      fun found vacant absent => takes ?_⟩
    · rw [Station.checkStation_audit reading cursor here sound, Station.auditDecide_identified here sound found out,
        if_pos same, Station.writeRecord_of_unpulled _ unpulled]
      rfl
    · rw [Station.checkStation_replaced reading cursor here sound reported found out other,
        Station.auditReplaced_free unpulled (Station.elsewhere_absent absent), ← Station.auditMismatched_plain]
      rfl
    · rw [Station.checkStation_filled reading cursor here sound reported found vacant,
        Station.auditFilled_free unpulled (Station.elsewhere_absent absent)]
      rfl
  · have takes {x : Station} (h : s.station.checkStation y = x) :
        Machine.exec (.checkStationScan .cartridge y) s = .next (s.put x) := by
      rw [exec_checkStationScan bay joined, h]
    have same := Station.AuditSame.refl s.station
    refine ⟨fun c u found out other => ?_, fun found vacant => ?_, fun x found settled changed =>
      takes (Station.checkStation_changed reading cursor here sound settled (.inl ⟨x, found, changed⟩)),
      fun found settled filled =>
        takes (Station.checkStation_changed reading cursor here sound settled (.inr ⟨found, filled⟩))⟩
    · have replaced := Station.checkStation_replaced reading cursor here sound reported found out other
      refine ⟨fun m damaged => takes ?_, fun m d filed free apart => takes ?_, fun m r held kept => takes ?_⟩
      · rw [replaced, Station.auditReplaced_free unpulled (Station.elsewhere_damaged damaged),
          Station.auditMismatched_returning (same.withRecord n _)]
        rfl
      · rw [replaced, Station.auditReplaced_rewrite unpulled (Station.elsewhere_rewrite filed free) apart,
          Station.auditMismatched_returning ((same.withRecord m _).withRecord n _)]
        rfl
      · rw [replaced, Station.auditReplaced_kept (Station.elsewhere_kept held kept),
          Station.auditMismatched_returning same]
        rfl
    · have filled := Station.checkStation_filled reading cursor here sound reported found vacant (y := y)
      refine ⟨fun m damaged => takes ?_, fun m d filed free apart => takes ?_, fun m r held kept => takes ?_⟩
      · rw [filled, Station.auditFilled_damaged unpulled (Station.elsewhere_damaged damaged),
          Station.auditMismatched_returning (same.withRecord n _)]
        rfl
      · rw [filled, Station.auditFilled_rewrite unpulled (Station.elsewhere_rewrite filed free) apart,
          Station.auditMismatched_returning ((same.withRecord m _).withRecord n _)]
        rfl
      · rw [filled, Station.auditFilled_kept (Station.elsewhere_kept held kept), Station.auditMismatched_returning same]
        rfl

end Sys2Proof
end

section
/-! SUPPORT. The key switch and HOLD-SET (R98, R99), the pulls that a new held set cancels (R111), and INSPECT-CLEAR
(R102). -/

namespace Sys2Proof

/-! ### The key switch (R98) -/

theorem exec_keySwitchChange_level (s : Machine.State) (on : Bool) :
    Machine.exec (.keySwitchChange (.level on)) s
      = .next (s.put (Station.onlyIf { s.station with pins := { s.station.pins with keyInput := on } } s.station.bay
        fun st => { st with table := { st.table with
          keyFilter := filterSwitch st.table.keyFilter st.table.keyOn on } })) := rfl

theorem exec_keySwitchChange_filtered (s : Machine.State) (on : Bool) :
    Machine.exec (.keySwitchChange (.filtered on)) s = .next (s.put (s.station.onlyIf s.station.bay fun st =>
      { st with
        pins := { st.pins with keyInput := on }
        table := { st.table with keyOn := on, keyFilter := none } })) := rfl

/-! ### The bytes of a HOLD-SET -/

theorem HoldEnd.ofCode_some {b : Byte} (h : b.toNat ≤ 1) :
    HoldEnd.ofCode b.toNat = some (if b = 0 then .low else .high) := by
  obtain rfl | rfl : b = 0 ∨ b = 1 := by bv_omega
  · rfl
  · rfl

theorem flagOfCode_some {b : Byte} (h : b.toNat ≤ 1) : flagOfCode b.toNat = some (decide (b = 1)) := by
  obtain rfl | rfl : b = 0 ∨ b = 1 := by bv_omega
  · rfl
  · rfl

theorem HoldMode.ofCode_some {b : Byte} (h : b.toNat ≤ 2) :
    HoldMode.ofCode b.toNat = some (if b = 0 then .opened else if b = 1 then .keyed else .fixed) := by
  obtain rfl | rfl | rfl : b = 0 ∨ b = 1 ∨ b = 2 := by bv_omega
  · rfl
  · rfl
  · rfl

theorem HoldEnd.ofCode_none {n : Nat} (h : 1 < n) : HoldEnd.ofCode n = none :=
  match n, h with | _ + 2, _ => rfl

theorem flagOfCode_none {n : Nat} (h : 1 < n) : flagOfCode n = none :=
  match n, h with | _ + 2, _ => rfl

theorem HoldMode.ofCode_none {n : Nat} (h : 2 < n) : HoldMode.ofCode n = none :=
  match n, h with | _ + 3, _ => rfl

section
variable {extent endCode complement mode : Byte}

theorem holdOfBytes_valid
    (valid : extent.toNat ≤ 8 ∧ endCode.toNat ≤ 1 ∧ complement.toNat ≤ 1 ∧ mode.toNat ≤ 2) :
    holdOfBytes extent endCode complement mode = some
      ({ extent := extent.toNat, holdEnd := if endCode = 0 then .low else .high
         complement := decide (complement = 1) },
        if mode = 0 then .opened else if mode = 1 then .keyed else .fixed) := by
  obtain ⟨ext, side, flag, kind⟩ := valid
  unfold holdOfBytes
  rw [HoldEnd.ofCode_some side, flagOfCode_some flag, HoldMode.ofCode_some kind]
  exact if_pos ext

theorem holdOfBytes_invalid
    (invalid : ¬(extent.toNat ≤ 8 ∧ endCode.toNat ≤ 1 ∧ complement.toNat ≤ 1 ∧ mode.toNat ≤ 2)) :
    holdOfBytes extent endCode complement mode = none := by
  unfold holdOfBytes
  by_cases side : endCode.toNat ≤ 1
  · by_cases flag : complement.toNat ≤ 1
    · by_cases kind : mode.toNat ≤ 2
      · rw [HoldEnd.ofCode_some side, flagOfCode_some flag, HoldMode.ofCode_some kind]
        exact if_neg fun ext => invalid ⟨ext, side, flag, kind⟩
      · rw [HoldEnd.ofCode_some side, flagOfCode_some flag, HoldMode.ofCode_none (Nat.not_le.mp kind)]
    · rw [HoldEnd.ofCode_some side, flagOfCode_none (Nat.not_le.mp flag)]
  · rw [HoldEnd.ofCode_none (Nat.not_le.mp side)]

end

/-! ### HOLD-SET by its table (R98) -/

/-- A setting and a mode installed. -/
def Station.withHold (st : Station) (h : HoldSetting) (m : HoldMode) : Station :=
  { st with table := { st.table with hold := h, mode := m } }

section
variable {st : Station} (src : Addr) (seq : Byte) {extent endCode complement mode : Byte}

theorem Station.takeHoldSet_away (away : st.joined = false) :
    Station.takeHoldSet src seq extent endCode complement mode st = st := by
  unfold Station.takeHoldSet
  simp only [Station.reply_not_joined away, away]
  split <;> rfl

theorem Station.takeHoldSet_hatch (hatch : st.cfg.role = .hatch) :
    Station.takeHoldSet src seq extent endCode complement mode st = st.reply .slotTable src 16 seq .role := if_pos hatch

section
variable (joined : st.joined = true) (bay : st.cfg.role = .bay)
include joined bay

theorem Station.takeHoldSet_sealed (closed : st.supp.fire = .soak ∨ st.supp.fire = .vent) :
    Station.takeHoldSet src seq extent endCode complement mode st = st.reply .slotTable src 16 seq .sealed := by
  have sealed : st.isSealed = true := (FireState.isSealed_iff _).mpr closed
  unfold Station.takeHoldSet
  rw [if_neg (by simp [bay]), if_neg (by simp [joined])]
  exact if_pos sealed

/-- A HOLD-SET at an open BAY by the setting and mode of its bytes. -/
theorem Station.takeHoldSet_open (unsealed : ¬(st.supp.fire = .soak ∨ st.supp.fire = .vent)) :
    Station.takeHoldSet src seq extent endCode complement mode st =
      (holdOfBytes extent endCode complement mode).elim (st.reply .slotTable src 16 seq .range) fun set =>
        if st.table.mode = .fixed ∨ (st.table.mode = .keyed ∧ st.table.keyOn = false) then
          st.reply .slotTable src 16 seq .locked
        else (st.withHold set.1 set.2).cancelHeld.reply .slotTable src 16 seq .done := by
  have unsealed : ¬st.isSealed = true := fun closed => unsealed ((FireState.isSealed_iff _).mp closed)
  unfold Station.takeHoldSet
  rw [if_neg (by simp [bay]), if_neg (by simp [joined]), if_neg unsealed]
  cases holdOfBytes extent endCode complement mode with
  | none => rfl
  | some set =>
    dsimp only [Option.elim_some]
    by_cases fixed : st.table.mode = .fixed
    · rw [if_pos fixed, if_pos (.inl fixed)]
      rfl
    · rw [if_neg fixed]
      simp only [fixed, false_or, Bool.not_eq_true']
      rfl

end

end

/-! ### The pulls of a new held set (R99, R111) -/

theorem relit_carts (frozen : Bool) (es : List PullEntry) :
    (relit frozen es).map PullEntry.cart = es.map PullEntry.cart := by
  induction es generalizing frozen with
  | nil => rfl
  | cons e es ih =>
    unfold relit
    split <;> simp [ih]

section
variable (st : Station) (p : PullEntry → Bool)

/-- Each entry taken is answered in queue order, the lighting and the suspension test after all. -/
theorem Station.cancelPulls_some (some_ : st.pulls.entries.filter p ≠ []) :
    st.cancelPulls p = ((st.pulls.entries.filter p).foldl
      (fun x e => x.reply .pulls e.requester 13 e.reqSeq .cancelled (some (.slot e.slot)))
      (st.withPulls (st.pulls.entries.filter fun e => !p e))).pullsChanged := by
  unfold Station.cancelPulls
  dsimp only
  rw [if_neg (by simpa using some_)]
  rfl

theorem Station.pullsChanged_carts : st.pullsChanged.pulls.entries.map PullEntry.cart
    = st.pulls.entries.map PullEntry.cart := by
  have pulls : st.pullsChanged.pulls = st.relight.pulls := Station.suspensionTest_pulls _
  rw [pulls]
  exact relit_carts _ _

/-- The entries left, in their order. -/
theorem Station.cancelPulls_carts : (st.cancelPulls p).pulls.entries.map PullEntry.cart
    = (st.pulls.entries.filter fun e => !p e).map PullEntry.cart := by
  by_cases none : st.pulls.entries.filter p = []
  · have stays : ∀ e ∈ st.pulls.entries, p e = false := fun e he => by
      simpa using List.filter_eq_nil_iff.mp none e he
    rw [Station.cancelPulls_of_none stays, List.filter_eq_self.mpr fun e he => by simp [stays e he]]
  · have answered (l : List PullEntry) (x : Station) :
        (l.foldl (fun x e => x.reply .pulls e.requester 13 e.reqSeq .cancelled (some (.slot e.slot))) x).pulls
          = x.pulls :=
      List.foldlRecOn (motive := fun y : Station => y.pulls = x.pulls) l _ rfl
        fun y hy e _ => (y.hand_pulls _ _ _).trans hy
    rw [Station.cancelPulls_some st p none, Station.pullsChanged_carts, answered]
    rfl

end

/-- The entries a new held set takes are those that do not stay. -/
theorem Station.cancelHeld_eq (st : Station) :
    st.cancelHeld = st.cancelPulls fun e => !(decide (e.state = .out) || !st.isHeld e.slot) :=
  congrArg st.cancelPulls (funext fun e => by simp)

/-! ### INSPECT-CLEAR (R102) -/

theorem CartData.cleared_ne_iff {c : CartData} : c.cleared ≠ c ↔ c.exposure ≠ 0 ∨ c.inspect = true := by
  obtain ⟨id, exposure, acclim, inspect, mark⟩ := c
  simp only [CartData.cleared, ne_eq, CartData.mk.injEq, true_and, and_true, not_and_or, eq_comm (a := (0 : Nat)),
    Bool.false_eq, Bool.not_eq_false]

/-- A record that INSPECT-CLEAR of ALL counts is a sound one with exposure or the inspect flag (R102). -/
theorem Slot.clearable_eq (sl : Slot) : sl.clearable
    = (decide (sl.difference = 0) && sl.record.cart.elim false fun c => decide (c.exposure ≠ 0) || c.inspect) := by
  unfold Slot.clearable Slot.sound
  cases sl.record.cart with
  | none => rfl
  | some c => simp [CartData.cleared_ne_iff]

section
variable {st : Station} (src : Addr) (seq : Byte) (slot : Option Nat)

theorem Station.takeInspectClear_away (away : st.joined = false) : Station.takeInspectClear src seq slot st = st := by
  unfold Station.takeInspectClear
  simp only [Station.reply_not_joined away, away]
  split <;> rfl

theorem Station.takeInspectClear_hatch (hatch : st.cfg.role = .hatch) :
    Station.takeInspectClear src seq slot st = st.reply .slotTable src 17 seq .role := if_pos hatch

section
variable (joined : st.joined = true) (bay : st.cfg.role = .bay)
include joined bay

theorem Station.takeInspectClear_sealed (closed : st.supp.fire = .soak ∨ st.supp.fire = .vent) :
    Station.takeInspectClear src seq slot st = st.reply .slotTable src 17 seq .sealed := by
  have sealed : st.isSealed = true := (FireState.isSealed_iff _).mpr closed
  unfold Station.takeInspectClear
  rw [if_neg (by simp [bay]), if_neg (by simp [joined])]
  exact if_pos sealed

variable (unsealed : ¬(st.supp.fire = .soak ∨ st.supp.fire = .vent))
include unsealed

theorem Station.takeInspectClear_range {n : Nat} (outside : 256 ≤ n) :
    Station.takeInspectClear src seq (some n) st = st.reply .slotTable src 17 seq .range := by
  have unsealed : ¬st.isSealed = true := fun closed => unsealed ((FireState.isSealed_iff _).mp closed)
  unfold Station.takeInspectClear
  rw [if_neg (by simp [bay]), if_neg (by simp [joined]), if_neg unsealed]
  exact if_pos outside

/-- INSPECT-CLEAR of one slot by the cartridge its record reads as holding. -/
theorem Station.takeInspectClear_slot {n : Nat} {sl : Slot} (inside : n ≤ 255) (here : st.table.slots[n]? = some sl)
    (known : sl.difference = 0 ∨ sl.damage ≠ .none) : Station.takeInspectClear src seq (some n) st =
      if sl.view.cart = none then st.reply .slotTable src 17 seq .notFound
      else (st.withRecord n (sl.view.mapCart CartData.cleared)).reply .slotTable src 17 seq .done := by
  have unsealed : ¬st.isSealed = true := fun closed => unsealed ((FireState.isSealed_iff _).mp closed)
  unfold Station.takeInspectClear
  rw [if_neg (by simp [bay]), if_neg (by simp [joined]), if_neg unsealed]
  refine (if_neg (Nat.not_lt.mpr inside)).trans ?_
  rw [Station.noticeDamage_of_known here known]
  dsimp only
  rw [Station.slot_eq here]
  cases sl.view.cart <;> rfl

/-- INSPECT-CLEAR of ALL, answered with how many records it changes. -/
theorem Station.takeInspectClear_all (reported : st.damageReported) : Station.takeInspectClear src seq none st =
    (st.withSlots (st.table.slots.map fun sl =>
      if sl.difference = 0 then { sl with record := sl.record.mapCart CartData.cleared } else sl)).reply
        .slotTable src 17 seq .done (some (.number (st.table.slots.filter Slot.clearable).length)) := by
  have unsealed : ¬st.isSealed = true := fun closed => unsealed ((FireState.isSealed_iff _).mp closed)
  have slots : (st.table.slots.map fun sl =>
      if sl.sound && true then { sl with record := sl.record.mapCart CartData.cleared } else sl)
      = st.table.slots.map fun sl =>
        if sl.difference = 0 then { sl with record := sl.record.mapCart CartData.cleared } else sl := by
    simp [Slot.sound]
  unfold Station.takeInspectClear
  rw [if_neg (by simp [bay]), if_neg (by simp [joined]), if_neg unsealed]
  dsimp only
  rw [Station.readAll_of_reported reported, ← slots]
  rfl

end

end

/-- What a damaged, an unsettled and a cartridgeless record read as holds no cartridge; a sound one with a cartridge
reads as itself. -/
theorem Slot.view_cart_none {sl : Slot} (h : sl.difference ≠ 0 ∨ sl.record.cart = none) : sl.view.cart = none := by
  by_contra held
  obtain ⟨sound, reads⟩ := Slot.view_cart (Option.isSome_iff_ne_none.mpr held)
  exact h.elim (fun damaged => damaged sound) fun none => held (reads ▸ none)

theorem Slot.view_of_cart {sl : Slot} (sound : sl.difference = 0) (held : sl.record.cart.isSome) :
    sl.view = sl.record :=
  Slot.view_of_sound sound fun unsettled => by simp [unsettled, Rec.cart] at held

theorem exec_holdSet (s : Machine.State) {src : Addr} (seq extent endCode complement mode : Byte)
    (heard : s.station.hearsConsole src) : Machine.exec (.holdSet src seq extent endCode complement mode) s
      = .next (s.put (Station.takeHoldSet src seq extent endCode complement mode s.station)) :=
  congrArg (fun st => Host.Outcome.next (s.put st)) (Station.fromConsole_heard _ heard)

theorem exec_inspectClear (s : Machine.State) {src : Addr} (seq : Byte) (slot : Option Nat)
    (heard : s.station.hearsConsole src) : Machine.exec (.inspectClear src seq slot) s
      = .next (s.put (Station.takeInspectClear src seq slot s.station)) :=
  congrArg (fun st => Host.Outcome.next (s.put st)) (Station.fromConsole_heard _ heard)

/-- Settles O28: the key switch, HOLD-SET, the pulls cancelled by a new held set, and INSPECT-CLEAR. -/
theorem holdSetAndInspectClear : Obligations.HoldSetAndInspectClear := by
  refine ⟨fun s on => ⟨fun away => ⟨?_, ?_⟩, fun bay => ⟨fun same => ?_, fun other rests => ?_,
      fun n other runs => ?_, ?_⟩⟩,
    fun s src seq extent endCode complement mode heard => ?_, fun st => ⟨fun none => ?_, fun some_ => ?_, ?_⟩,
    fun s src seq slot heard reported => ?_⟩
  · rw [exec_keySwitchChange_level, Station.onlyIf_of_false _ away]
  · rw [exec_keySwitchChange_filtered, Station.onlyIf_of_false _ away, Machine.State.put_station_self]
  · rw [exec_keySwitchChange_level, Station.onlyIf_of_true _ bay, filterSwitch_same same]
  · rw [exec_keySwitchChange_level, Station.onlyIf_of_true _ bay, filterSwitch_other other, rests]
    rfl
  · rw [exec_keySwitchChange_level, Station.onlyIf_of_true _ bay, filterSwitch_other other, runs]
    rfl
  · rw [exec_keySwitchChange_filtered, Station.onlyIf_of_true _ bay]
  · have takes {x : Station} (h : Station.takeHoldSet src seq extent endCode complement mode s.station = x) :
        Machine.exec (.holdSet src seq extent endCode complement mode) s = .next (s.put x) := by
      rw [exec_holdSet s seq extent endCode complement mode heard, h]
    refine ⟨fun away => takes (Station.takeHoldSet_away src seq away), fun joined => ⟨fun hatch =>
      takes (Station.takeHoldSet_hatch src seq hatch), fun bay => ⟨fun closed =>
        takes (Station.takeHoldSet_sealed src seq joined bay closed), fun unsealed invalid => takes ?_,
        fun unsealed valid locked => takes ?_, fun unsealed valid unlocked => takes ?_⟩⟩⟩
    · rw [Station.takeHoldSet_open src seq joined bay unsealed, holdOfBytes_invalid invalid]
      rfl
    · rw [Station.takeHoldSet_open src seq joined bay unsealed, holdOfBytes_valid valid]
      exact if_pos locked
    · rw [Station.takeHoldSet_open src seq joined bay unsealed, holdOfBytes_valid valid]
      exact if_neg unlocked
  · rw [Station.cancelHeld_eq]
    exact Station.cancelPulls_of_none fun e he => by simpa using List.filter_eq_nil_iff.mp none e he
  · rw [Station.cancelHeld_eq, Station.cancelPulls_some st _ some_]
    simp only [Bool.not_not]
  · rw [Station.cancelHeld_eq, Station.cancelPulls_carts]
    simp only [Bool.not_not]
  · have takes {x : Station} (h : Station.takeInspectClear src seq slot s.station = x) :
        Machine.exec (.inspectClear src seq slot) s = .next (s.put x) := by
      rw [exec_inspectClear s seq slot heard, h]
    refine ⟨fun away => takes (Station.takeInspectClear_away src seq slot away), fun joined => ⟨fun hatch =>
      takes (Station.takeInspectClear_hatch src seq slot hatch), fun bay => ⟨fun closed =>
        takes (Station.takeInspectClear_sealed src seq slot joined bay closed), fun unsealed n is => ?_,
        fun unsealed all => ?_⟩⟩⟩
    · subst is
      refine ⟨fun outside => takes (Station.takeInspectClear_range src seq joined bay unsealed outside),
        fun sl inside here => ?_⟩
      have taken := Station.takeInspectClear_slot src seq joined bay unsealed inside here
        (reported sl (List.mem_of_getElem? here))
      refine ⟨fun none => takes (taken.trans (if_pos (Slot.view_cart_none none))), fun sound held => takes ?_⟩
      rw [taken, Slot.view_of_cart sound held, if_neg (Option.isSome_iff_ne_none.mp held)]
      rfl
    · subst all
      refine takes ((Station.takeInspectClear_all src seq joined bay unsealed reported).trans ?_)
      refine congrArg (fun slots : List Slot => (s.station.withSlots _).reply .slotTable src 17 seq .done
        (some (.number slots.length))) (List.filter_congr fun sl _ => sl.clearable_eq.trans ?_)
      cases sl.record.cart <;> rfl

end Sys2Proof
end

section
/-! SUPPORT. QUERY (R103, R145, R163): the image of a slot's record, the answers by slot and by cartridge id, and the
image of a transfer entry. -/

namespace Sys2Proof

/-! ### The image of a slot's record (R103) -/

/-- The unplanned flag of an OUT record. -/
def Rec.unplannedFlag : Rec → Option Bool
  | .out _ u => some u
  | _ => none

section
variable {st : Station} {n : Nat} {sl : Slot}

theorem Station.recordImage_sound (here : st.table.slots[n]? = some sl) (sound : sl.difference = 0) :
    st.recordImage n =
      { slot := n
        presence := if sl.record = .unsettled then sl.debounced else some sl.record.presence
        state := sl.record.stateCode
        held := st.table.hold.held n, damaged := false, cart := sl.record.cart.map CartData.id
        unplanned := sl.record.unplannedFlag
        exposure := sl.record.cart.map CartData.exposure, acclim := sl.record.cart.bind CartData.acclim
        inspect := sl.record.cart.map CartData.inspect, mark := sl.record.cart.bind CartData.mark
        tref := sl.record.tref } := by
  unfold Station.recordImage
  rw [Station.slot_eq here]
  exact if_pos (Slot.sound_iff.mpr sound)

theorem Station.recordImage_damaged (here : st.table.slots[n]? = some sl) (damaged : sl.difference ≠ 0) :
    st.recordImage n =
      { slot := n, presence := sl.debounced, state := 7, held := st.table.hold.held n, damaged := true
        cart := sl.record.cart.map CartData.id, unplanned := none, exposure := none, acclim := none, inspect := none
        mark := none, tref := none } := by
  unfold Station.recordImage
  rw [Station.slot_eq here]
  exact if_neg fun sound => damaged (Slot.sound_iff.mp sound)

/-- The image does not look at the damage reports. -/
theorem Station.recordImage_of_stored {a b : Station} (h : a.stored = b.stored) (n : Nat) :
    a.recordImage n = b.recordImage n := by
  have slot := Station.slot_of_stored h n
  have held : a.isHeld n = b.isHeld n := congrArg (·.held n) (Station.hold_of_stored h)
  have sound : (a.table.slot n).sound = (b.table.slot n).sound :=
    show (a.table.slot n).content.sound = (b.table.slot n).content.sound from congrArg Slot.sound slot
  have record : (a.table.slot n).record = (b.table.slot n).record :=
    show (a.table.slot n).content.record = (b.table.slot n).content.record from congrArg Slot.record slot
  have debounced : (a.table.slot n).debounced = (b.table.slot n).debounced := Station.debounced_of_stored h n
  unfold Station.recordImage
  simp only [held, sound, record, debounced]

/-! ### The answers (R103, R163) -/

/-- Where all damage has been reported, no read finds another. -/
theorem Station.noticeDamage_of_reported (reported : st.damageReported) (n : Nat) : st.noticeDamage n = st := by
  cases here : st.table.slots[n]? with
  | none =>
    refine Station.noticeDamage_of_sound_slot ?_
    simp [SlotTable.slot, List.getD_eq_getElem?_getD, here, Slot.blank]
  | some sl => exact Station.noticeDamage_of_known here (reported sl (List.mem_of_getElem? here))

theorem Station.answerRecord_reported (reported : st.damageReported) (src : Addr) (seq : Byte) (n : Nat) :
    st.answerRecord src seq n = st.reply .slotTable src 21 seq .done (some (.record (st.recordImage n))) := by
  unfold Station.answerRecord
  rw [Station.noticeDamage_of_reported reported]
  rfl

section
variable (src : Addr) (seq : Byte)

theorem Station.takeQuerySlot_hatch (hatch : st.cfg.role = .hatch) (n : Nat) :
    Station.takeQuerySlot src seq n st = st.reply .slotTable src 21 seq .role := if_pos hatch

theorem Station.takeQuerySlot_range (bay : st.cfg.role = .bay) (outside : 256 ≤ n) :
    Station.takeQuerySlot src seq n st = st.reply .slotTable src 21 seq .range :=
  (if_neg (by simp [bay])).trans (if_pos outside)

theorem Station.takeQuerySlot_record (bay : st.cfg.role = .bay) (inside : n ≤ 255) :
    Station.takeQuerySlot src seq n st = st.answerRecord src seq n :=
  (if_neg (by simp [bay])).trans (if_neg (Nat.not_lt.mpr inside))

theorem Station.takeQueryCartridge_absent (bay : st.cfg.role = .bay) (reported : st.damageReported) {c : Cart}
    (absent : st.table.lookup c = .absent) :
    Station.takeQueryCartridge src seq c st = st.reply .slotTable src 21 seq .notFound := by
  unfold Station.takeQueryCartridge Station.bayQuery
  rw [bay, Station.readAll_of_reported reported]
  dsimp only
  rw [absent]
  rfl

theorem Station.takeQueryCartridge_found (bay : st.cfg.role = .bay) (reported : st.damageReported) {c : Cart} {r : Rec}
    (found : st.table.lookup c = .sound n r ∨ st.table.lookup c = .damaged n) :
    Station.takeQueryCartridge src seq c st = st.answerRecord src seq n := by
  unfold Station.takeQueryCartridge Station.bayQuery
  rw [bay, Station.readAll_of_reported reported]
  dsimp only
  rcases found with found | found <;> rw [found]

/-- A HATCH answers from its custody list, then from its expected list. -/
theorem Station.takeQueryCartridge_hatch (hatch : st.cfg.role = .hatch) (c : Cart) :
    Station.takeQueryCartridge src seq c st = (st.custodyFor c).elim
      ((st.expectedFor c).elim (st.reply .hatch src 21 seq .notFound)
        fun e => st.reply .hatch src 21 seq .done (some (.expected e.job e.dest)))
      fun e => st.reply .hatch src 21 seq .done (some (.custody e.state e.job e.dest)) := by
  unfold Station.takeQueryCartridge Station.hatchQuery
  rw [hatch]
  dsimp only
  cases st.custodyFor c with
  | some e => rfl
  | none => cases st.expectedFor c <;> rfl

theorem Station.custodyFor_none {c : Cart} (h : ∀ e ∈ st.hatch.custody, e.cart ≠ c) : st.custodyFor c = none :=
  List.find?_eq_none.mpr fun e he => by simpa using h e he

theorem Station.expectedFor_none {c : Cart} (h : ∀ e ∈ st.hatch.expected, e.cart ≠ c) : st.expectedFor c = none :=
  List.find?_eq_none.mpr fun e he => by simpa using h e he

end

end

/-! ### The image of a transfer entry (R145) -/

theorem remainingSeconds_whole (n : Nat) : remainingSeconds (125000 * n) = n := by
  have second : ticksOfSec 1 = 125000 := rfl
  unfold remainingSeconds
  rw [second, Nat.mul_mod_right, if_pos rfl]
  simp

theorem XferEntry.image_sending {e : XferEntry} (sending : e.state.receiving = false) :
    e.image.transit = some e.transit.image := if_neg (by simp [sending])

/-! ### The commands -/

section
variable (s : Machine.State) {src : Addr} (seq : Byte) (heard : s.station.hearsConsole src)
include heard

theorem exec_querySlot (n : Nat) : Machine.exec (.querySlot src seq n) s
    = .next (s.put (Station.takeQuerySlot src seq n s.station)) :=
  congrArg (fun st => Host.Outcome.next (s.put st)) (Station.fromConsole_heard _ heard)

theorem exec_queryCartridge (c : Cart) : Machine.exec (.queryCartridge src seq c) s
    = .next (s.put (Station.takeQueryCartridge src seq c s.station)) :=
  congrArg (fun st => Host.Outcome.next (s.put st)) (Station.fromConsole_heard _ heard)

theorem exec_queryTransfer (t : Tid) : Machine.exec (.queryTransfer src seq t) s
    = .next (s.put (Station.takeQueryTransfer src seq t s.station)) :=
  congrArg (fun st => Host.Outcome.next (s.put st)) (Station.fromConsole_heard _ heard)

end

/-- Settles O29: the lookup, QUERY in both roles, a record's image, a first find of damage, and QUERY by transfer id. -/
theorem lookupAndQuery : Obligations.LookupAndQuery := by
  refine ⟨fun t c => ⟨fun n r found => ?_, fun n found => ⟨fun m sl holds => ?_, ?_, fun m sl holds => ?_⟩, ?_⟩,
    fun s src seq heard reported => ⟨fun hatch => ⟨fun n => ?_, fun c e found => ?_, fun c e apart found => ?_,
      fun c apart unexpected => ?_⟩, fun bay => ⟨fun n outside => ?_, fun n inside => ?_, fun c absent => ?_,
        fun c n r found => ?_⟩⟩,
    fun st n sl here => ⟨fun sound => ?_, fun damaged => ?_⟩,
    fun s src seq n sl heard bay joined inside here damaged new busy room pend told => ?_,
    fun s src seq t heard => ⟨fun unknown => ?_, fun e found => ?_⟩⟩
  · obtain ⟨sl, here, holds, sound, record⟩ := SlotTable.lookup_sound found
    exact ⟨sl, ⟨here, Slot.holds_iff.mp holds⟩, sound, record⟩
  · exact SlotTable.lookup_not_sound (fun k r sound => by rw [found] at sound; cases sound) holds.1
      (Slot.holds_iff.mpr holds.2)
  · obtain ⟨⟨sl, here, holds⟩, -⟩ := SlotTable.lookup_damaged found
    exact ⟨sl, here, Slot.holds_iff.mp holds⟩
  · exact (SlotTable.lookup_damaged found).2 m sl holds.1 (Slot.holds_iff.mpr holds.2)
  · rw [SlotTable.lookup_absent_iff]
    refine forall_congr' fun n => forall_congr' fun sl => ?_
    rw [not_and, ← Slot.holds_iff, Bool.not_eq_true]
  · rw [exec_querySlot s seq heard, Station.takeQuerySlot_hatch src seq hatch]
  · rw [exec_queryCartridge s seq heard, Station.takeQueryCartridge_hatch src seq hatch,
      show s.station.custodyFor c = some e from found]
    rfl
  · rw [exec_queryCartridge s seq heard, Station.takeQueryCartridge_hatch src seq hatch, Station.custodyFor_none apart,
      show s.station.expectedFor c = some e from found]
    rfl
  · rw [exec_queryCartridge s seq heard, Station.takeQueryCartridge_hatch src seq hatch, Station.custodyFor_none apart,
      Station.expectedFor_none unexpected]
    rfl
  · rw [exec_querySlot s seq heard, Station.takeQuerySlot_range src seq bay outside]
  · rw [exec_querySlot s seq heard, Station.takeQuerySlot_record src seq bay inside,
      Station.answerRecord_reported reported]
  · rw [exec_queryCartridge s seq heard, Station.takeQueryCartridge_absent src seq bay reported absent]
  · rw [exec_queryCartridge s seq heard, Station.takeQueryCartridge_found src seq bay reported found,
      Station.answerRecord_reported reported]
  · rw [Station.recordImage_sound here sound]
    cases sl.record <;> rfl
  · rw [Station.recordImage_damaged here damaged]
    cases sl.record <;> rfl
  · have image : (s.station.noticeDamage n).recordImage n = s.station.recordImage n :=
      Station.recordImage_of_stored (s.station.noticeDamage_stored n) n
    rw [exec_querySlot s seq heard, Station.takeQuerySlot_record src seq (Station.role_of_bay bay) inside]
    unfold Station.answerRecord
    dsimp only
    rw [image, Station.noticeDamage_found joined busy room pend told here damaged new]
    refine s.next_put (congrArg (fun x : Station => x.reply .slotTable src 21 seq .done
      (some (.record (s.station.recordImage n)))) ?_)
    split
    · next none => exact Station.cancelPulls_of_none fun e he => by simpa using List.filter_eq_nil_iff.mp none e he
    · next some_ => exact Station.cancelPulls_some (s.station.damageTold n sl) _ some_
  · rw [exec_queryTransfer s seq heard]
    unfold Station.takeQueryTransfer
    rw [unknown]
    rfl
  · refine ⟨e.image.transit, ?_, fun receiving => if_pos receiving, fun sending => ?_⟩
    · rw [exec_queryTransfer s seq heard]
      unfold Station.takeQueryTransfer
      rw [found]
      rfl
    · rw [XferEntry.image_sending sending]
      refine ⟨fun stopped => ?_, fun n running => ?_, fun n paused => ?_⟩
      · rw [stopped]
        rfl
      · rw [running, Transit.image, remainingSeconds_whole]
      · rw [paused, Transit.image, remainingSeconds_whole]

end Sys2Proof
end

section
/-! SUPPORT. CHECKOUT by its table, addressed or broadcast (R108, R109). -/

namespace Sys2Proof

section
variable {st : Station}

/-- A record's refusals by the fields of the cartridge it holds (R108). -/
theorem Station.recordRefusal_of_cart (n : Nat) {r : Rec} {d : CartData} (cart : r.cart = some d) :
    st.recordRefusal n r =
      if st.table.hold.held n = true then some .held
      else if d.inspect = true then some .inspect
      else if d.acclim.isSome then some .acclimatizing
      else if r ≠ .filed d then some .busy
      else none := by
  unfold Station.recordRefusal
  rw [cart]
  cases r
  case filed e =>
    obtain rfl : e = d := Option.some.inj cart
    rw [if_neg (not_not_intro rfl)]
    rfl
  all_goals rfl

section
variable (src : Addr) (seq : Byte) (c : Cart) (job : Job) (hatch : Addr)

/-! ### The tests before the lookup (R108) -/

/-- Outside JOINED no answer of a CHECKOUT leaves the station. -/
theorem Station.checkoutTests_away (away : st.joined = false) : st.checkoutTests src seq c job hatch = st := by
  unfold Station.checkoutTests
  simp only [Station.reply_not_joined away, away]
  split <;> rfl

theorem Station.checkoutTests_hatch (at_hatch : st.cfg.role = .hatch) :
    st.checkoutTests src seq c job hatch = st.reply .pulls src 13 seq .role := if_pos at_hatch

section
variable (bay : st.cfg.role = .bay) (joined : st.joined = true)
include bay joined

theorem Station.checkoutTests_sealed (closed : st.supp.fire = .soak ∨ st.supp.fire = .vent) :
    st.checkoutTests src seq c job hatch = st.reply .pulls src 13 seq .sealed := by
  have closed : st.isSealed = true := (FireState.isSealed_iff _).mpr closed
  unfold Station.checkoutTests
  rw [if_neg (by simp [bay]), if_neg (by simp [joined])]
  exact if_pos closed

theorem Station.checkoutTests_fire (unsealed : ¬(st.supp.fire = .soak ∨ st.supp.fire = .vent))
    (confirmed : st.confirmed = true) :
    st.checkoutTests src seq c job hatch = st.reply .pulls src 13 seq .fire := by
  have unsealed : ¬st.isSealed = true := fun closed => unsealed ((FireState.isSealed_iff _).mp closed)
  unfold Station.checkoutTests
  rw [if_neg (by simp [bay]), if_neg (by simp [joined]), if_neg unsealed]
  exact if_pos confirmed

theorem Station.checkoutTests_unconfirmed (unconfirmed : st.confirmed = false) (reported : st.damageReported) :
    st.checkoutTests src seq c job hatch = st.checkoutLookup src seq c job hatch := by
  have unsealed : st.isSealed = false := FireState.not_sealed_of_unconfirmed unconfirmed
  unfold Station.checkoutTests
  rw [if_neg (by simp [bay]), if_neg (by simp [joined]), if_neg (by simp [unsealed]), if_neg (by simp [unconfirmed]),
    Station.readAll_of_reported reported]

end

/-! ### The tests from the lookup on (R108) -/

theorem Station.checkoutLookup_absent (absent : st.table.lookup c = .absent) :
    st.checkoutLookup src seq c job hatch = st.reply .pulls src 13 seq .notFound := by
  unfold Station.checkoutLookup
  rw [absent]
  rfl

/-- A cartridge with a pull entry, whether the record that holds it is sound or DAMAGED. -/
theorem Station.checkoutLookup_queued (found : st.table.lookup c ≠ .absent)
    (queued : ∃ e ∈ st.pulls.entries, e.cart = c) :
    st.checkoutLookup src seq c job hatch = st.reply .pulls src 13 seq .duplicate := by
  have queued : (st.pullFor c).isSome = true := (Station.pullFor_isSome_iff c).mpr queued
  unfold Station.checkoutLookup
  cases answer : st.table.lookup c with
  | absent => exact absurd answer found
  | sound n r => exact if_pos queued
  | damaged n => exact if_pos queued

section
variable {n : Nat} (unqueued : ¬∃ e ∈ st.pulls.entries, e.cart = c)
include unqueued

theorem Station.checkoutLookup_damaged (damaged : st.table.lookup c = .damaged n) :
    st.checkoutLookup src seq c job hatch = st.reply .pulls src 13 seq .damaged := by
  unfold Station.checkoutLookup
  rw [damaged]
  exact if_neg fun queued => unqueued ((Station.pullFor_isSome_iff c).mp queued)

variable {r : Rec} (sound : st.table.lookup c = .sound n r)
include sound

theorem Station.checkoutLookup_refused {o : ReplyOutcome} (refused : st.recordRefusal n r = some o) :
    st.checkoutLookup src seq c job hatch = st.reply .pulls src 13 seq o := by
  unfold Station.checkoutLookup
  rw [sound]
  refine (if_neg fun queued => unqueued ((Station.pullFor_isSome_iff c).mp queued)).trans ?_
  rw [refused]
  rfl

/-- A record that refuses nothing: the hatch and the room decide. -/
theorem Station.checkoutLookup_filed (passes : st.recordRefusal n r = none) :
    st.checkoutLookup src seq c job hatch =
      if ¬st.peers.reachable hatch .hatch = true then st.reply .pulls src 13 seq .unreachable
      else if 16 ≤ st.pulls.entries.length then st.reply .pulls src 13 seq .full
      else st.queuePull
        { cart := c, slot := n, job := job, hatch := hatch, requester := src, reqSeq := seq, state := .waiting } := by
  unfold Station.checkoutLookup
  rw [sound]
  refine (if_neg fun queued => unqueued ((Station.pullFor_isSome_iff c).mp queued)).trans ?_
  rw [passes]
  simp only [Bool.not_eq_true, Bool.not_eq_true']
  rfl

end

/-! ### One sent to ALL (R109) -/

/-- A BAY whose damage has been reported tests a CHECKOUT sent to ALL where its lookup finds the cartridge. -/
theorem Station.takeCheckout_all_bay (bay : st.cfg.role = .bay) (reported : st.damageReported) :
    Station.takeCheckout src seq true c job hatch st =
      st.onlyIf (st.table.lookup c).found (·.checkoutTests src seq c job hatch) := by
  unfold Station.takeCheckout
  rw [if_pos rfl, if_neg (by simp [bay]), Station.readAll_of_reported reported]

theorem Station.takeCheckout_all_ignored (reported : st.damageReported)
    (ignored : st.cfg.role = .hatch ∨ st.table.lookup c = .absent) :
    Station.takeCheckout src seq true c job hatch st = st := by
  cases role : st.cfg.role with
  | hatch => exact if_pos role
  | bay =>
    have absent : st.table.lookup c = .absent := ignored.resolve_left (by simp [role])
    rw [Station.takeCheckout_all_bay src seq c job hatch role reported, absent]
    rfl

theorem Station.takeCheckout_all_found (reported : st.damageReported) (bay : st.cfg.role = .bay)
    (found : st.table.lookup c ≠ .absent) : Station.takeCheckout src seq true c job hatch st
      = Station.takeCheckout src seq false c job hatch st := by
  have found : (st.table.lookup c).found = true := by
    cases answer : st.table.lookup c with
    | absent => exact absurd answer found
    | sound n r => rfl
    | damaged n => rfl
  rw [Station.takeCheckout_all_bay src seq c job hatch bay reported, Station.onlyIf_of_true _ found]
  rfl

end

end

theorem exec_checkout (s : Machine.State) {src : Addr} (seq : Byte) (toAll : Bool) (c : Cart) (job : Job) (hatch : Addr)
    (heard : s.station.hearsConsole src) : Machine.exec (.checkout src seq toAll c job hatch) s
      = .next (s.put (Station.takeCheckout src seq toAll c job hatch s.station)) :=
  congrArg (fun st => Host.Outcome.next (s.put st)) (Station.fromConsole_heard _ heard)

/-- Settles O30: the table of R108 row by row, then a CHECKOUT sent to ALL. -/
theorem checkoutTable : Obligations.CheckoutTable := by
  intro s src seq c job hatch heard reported
  have tested {x : Station} (h : s.station.checkoutTests src seq c job hatch = x) :
      Machine.exec (.checkout src seq false c job hatch) s = .next (s.put x) :=
    (exec_checkout s seq false c job hatch heard).trans (s.next_put h)
  refine ⟨fun away => tested (Station.checkoutTests_away src seq c job hatch away), fun joined =>
    ⟨fun at_hatch => tested (Station.checkoutTests_hatch src seq c job hatch at_hatch), fun bay =>
      ⟨fun closed => tested (Station.checkoutTests_sealed src seq c job hatch bay joined closed),
        fun unsealed confirmed => tested (Station.checkoutTests_fire src seq c job hatch bay joined unsealed confirmed),
        fun unconfirmed => ?_⟩⟩,
    fun ignored => ?_, fun bay found => ?_⟩
  · have looked {x : Station} (h : s.station.checkoutLookup src seq c job hatch = x) :
        Machine.exec (.checkout src seq false c job hatch) s = .next (s.put x) :=
      tested ((Station.checkoutTests_unconfirmed src seq c job hatch bay joined unconfirmed reported).trans h)
    refine ⟨fun absent => looked (Station.checkoutLookup_absent src seq c job hatch absent),
      fun found queued => looked (Station.checkoutLookup_queued src seq c job hatch found queued),
      fun n damaged unqueued => looked (Station.checkoutLookup_damaged src seq c job hatch unqueued damaged),
      fun n r sound unqueued d cart => ?_⟩
    have refused {o : ReplyOutcome} (h : s.station.recordRefusal n r = some o) :=
      looked (Station.checkoutLookup_refused src seq c job hatch unqueued sound h)
    have refusal := Station.recordRefusal_of_cart (st := s.station) n cart
    refine ⟨fun held => refused (refusal.trans (if_pos held)), fun free => ?_⟩
    replace refusal := refusal.trans (if_neg (by simp [free]))
    refine ⟨fun inspect => refused (refusal.trans (if_pos inspect)), fun clear => ?_⟩
    replace refusal := refusal.trans (if_neg (by simp [clear]))
    refine ⟨fun acclim => refused (refusal.trans (if_pos acclim)), fun settled => ?_⟩
    replace refusal := refusal.trans (if_neg (by simp [settled]))
    refine ⟨fun unfiled => refused (refusal.trans (if_pos unfiled)), fun filed => ?_⟩
    have passes := Station.checkoutLookup_filed src seq c job hatch unqueued sound
      (refusal.trans (if_neg (not_not_intro filed)))
    exact ⟨fun unreachable => looked (passes.trans
        (if_pos fun known => unreachable (PeerView.reachable_iff.mp known))),
      fun reachable full => looked (passes.trans
        ((if_neg (not_not_intro (PeerView.reachable_iff.mpr reachable))).trans (if_pos full))),
      fun reachable room => looked (passes.trans
        ((if_neg (not_not_intro (PeerView.reachable_iff.mpr reachable))).trans (if_neg (Nat.not_le.mpr room))))⟩
  · exact (exec_checkout s seq true c job hatch heard).trans
      (s.next_put (Station.takeCheckout_all_ignored src seq c job hatch reported ignored))
  · rw [exec_checkout s seq true c job hatch heard, exec_checkout s seq false c job hatch heard,
      Station.takeCheckout_all_found src seq c job hatch reported bay found]

end Sys2Proof
end

section
/-! SUPPORT. The lighting of the pull queue (R110), and CANCEL by its table (R112). -/

namespace Sys2Proof

/-! ### The lighting (R110) -/

/-- What R110 makes of an entry behind those of `front`: an entry not in OUT is LIT where the queue is not frozen and
all before it are in OUT. -/
def PullEntry.relitBehind (frozen : Bool) (front : List PullEntry) (e : PullEntry) : PullEntry :=
  if e.state = .out then e
  else { e with state := if frozen || front.any fun x => decide (x.state ≠ .out) then .waiting else .lit }

/-- The entry in front counts as the queue frozen where it is not in OUT. -/
theorem PullEntry.relitBehind_cons (frozen : Bool) (x : PullEntry) (front : List PullEntry) :
    PullEntry.relitBehind frozen (x :: front) = PullEntry.relitBehind (frozen || decide (x.state ≠ .out)) front := by
  funext e
  unfold PullEntry.relitBehind
  rw [List.any_cons, Bool.or_assoc]

/-- Each entry keeps its place. -/
theorem relit_getElem? (frozen : Bool) (es : List PullEntry) (i : Nat) :
    (relit frozen es)[i]? = es[i]?.map (PullEntry.relitBehind frozen (es.take i)) := by
  induction es generalizing frozen i with
  | nil => rfl
  | cons e es ih =>
    unfold relit
    cases i with
    | zero => split <;> simp [PullEntry.relitBehind, *]
    | succ i =>
      rw [List.take_succ_cons, PullEntry.relitBehind_cons]
      split
      · next out => simp [ih, out]
      · next inside => simp [ih, inside]

section
variable {frozen : Bool} {front : List PullEntry} {e : PullEntry}

theorem PullEntry.relitBehind_out (out : e.state = .out) : e.relitBehind frozen front = e := if_pos out

theorem PullEntry.relitBehind_in (inside : e.state ≠ .out) : e.relitBehind frozen front
    = { e with state := if frozen || front.any fun x => decide (x.state ≠ .out) then .waiting else .lit } :=
  if_neg inside

theorem PullEntry.relitBehind_lit_or_waiting (inside : e.state ≠ .out) :
    (e.relitBehind frozen front).state = .lit ∨ (e.relitBehind frozen front).state = .waiting := by
  rw [PullEntry.relitBehind_in inside]
  dsimp only
  split
  · exact .inr rfl
  · exact .inl rfl

theorem PullEntry.relitBehind_lit_iff (inside : e.state ≠ .out) :
    (e.relitBehind frozen front).state = .lit ↔ frozen = false ∧ ∀ x ∈ front, x.state = .out := by
  rw [PullEntry.relitBehind_in inside]
  cases frozen <;> simp

end

theorem forall_mem_take_iff {α : Type} {es : List α} {i : Nat} {p : α → Prop} :
    (∀ x ∈ es.take i, p x) ↔ ∀ j g, j < i → es[j]? = some g → p g := by
  simp only [List.mem_iff_getElem?, List.getElem?_take]
  constructor
  · exact fun all j g before here => all g ⟨j, (if_pos before).trans here⟩
  · rintro all g ⟨j, here⟩
    split at here
    · next before => exact all j g before here
    · cases here

theorem litSlot_some {es : List PullEntry} {n : Nat} (asks : litSlot es = some n) :
    ∃ f ∈ es, f.state = .lit ∧ f.slot = n := by
  obtain ⟨f, found, rfl⟩ := Option.map_eq_some_iff.mp asks
  exact ⟨f, List.mem_of_find?_eq_some found, by simpa using List.find?_some found, rfl⟩

theorem litSlot_eq_none_iff {es : List PullEntry} : litSlot es = none ↔ ∀ f ∈ es, f.state ≠ .lit := by
  simp [litSlot]

section
variable {st : Station}

theorem Station.frozen_eq_false_iff : st.frozen = false ↔ ¬(st.joined = false ∨ st.confirmed = true) := by
  simp [Station.frozen]

theorem Station.relight_entries : st.relight.pulls.entries = relit st.frozen st.pulls.entries := rfl

/-! ### CANCEL (R112) -/

/-- The entry for a cartridge, where none before it is for the same. -/
theorem Station.pullFor_first {front rest : List PullEntry} {e : PullEntry}
    (queue : st.pulls.entries = front ++ e :: rest) (before : ∀ x ∈ front, x.cart ≠ e.cart) :
    st.pullFor e.cart = some e := by
  have none : front.find? (fun x => decide (x.cart = e.cart)) = none :=
    List.find?_eq_none.mpr fun x hx => by simpa using before x hx
  simp [Station.pullFor, queue, none]

/-- The one entry for a cartridge cancelled. -/
theorem Station.cancelPulls_only {front rest : List PullEntry} {e : PullEntry}
    (queue : st.pulls.entries = front ++ e :: rest) (before : ∀ x ∈ front, x.cart ≠ e.cart)
    (behind : ∀ x ∈ rest, x.cart ≠ e.cart) : st.cancelPulls (fun x => decide (x.cart = e.cart)) =
      ((st.withPulls (front ++ rest)).reply .pulls e.requester 13 e.reqSeq .cancelled
        (some (.slot e.slot))).pullsChanged := by
  have gone : st.pulls.entries.filter (fun x => decide (x.cart = e.cart)) = [e] := by
    rw [queue, List.filter_append, List.filter_cons_of_pos (by simp),
      List.filter_eq_nil_iff.mpr fun x hx => by simpa using before x hx,
      List.filter_eq_nil_iff.mpr fun x hx => by simpa using behind x hx]
    rfl
  have left : st.pulls.entries.filter (fun x => !decide (x.cart = e.cart)) = front ++ rest := by
    rw [queue, List.filter_append, List.filter_cons_of_neg (by simp),
      List.filter_eq_self.mpr fun x hx => by simpa using before x hx,
      List.filter_eq_self.mpr fun x hx => by simpa using behind x hx]
  rw [Station.cancelPulls_some st _ (by simp [gone]), gone, left]
  rfl

section
variable (src : Addr) (seq : Byte) (c : Cart)

/-- Outside JOINED no answer of a CANCEL leaves the station. -/
theorem Station.takeCancel_away (away : st.joined = false) : Station.takeCancel src seq c st = st := by
  unfold Station.takeCancel
  simp only [Station.reply_not_joined away, away]
  split <;> rfl

theorem Station.takeCancel_hatch (hatch : st.cfg.role = .hatch) :
    Station.takeCancel src seq c st = st.reply .pulls src 15 seq .role := if_pos hatch

section
variable (bay : st.cfg.role = .bay) (joined : st.joined = true)
include bay joined

theorem Station.takeCancel_sealed (closed : st.supp.fire = .soak ∨ st.supp.fire = .vent) :
    Station.takeCancel src seq c st = st.reply .pulls src 15 seq .sealed := by
  have closed : st.isSealed = true := (FireState.isSealed_iff _).mpr closed
  unfold Station.takeCancel
  rw [if_neg (by simp [bay]), if_neg (by simp [joined])]
  exact if_pos closed

/-- CANCEL at an open BAY by the pull entry for the cartridge. -/
theorem Station.takeCancel_open (unsealed : ¬(st.supp.fire = .soak ∨ st.supp.fire = .vent)) :
    Station.takeCancel src seq c st = (st.pullFor c).elim (st.reply .pulls src 15 seq .notFound) fun e =>
      if e.state = .out then st.reply .pulls src 15 seq .busy
      else (st.cancelPulls fun x => decide (x.cart = c)).reply .pulls src 15 seq .done := by
  have unsealed : ¬st.isSealed = true := fun closed => unsealed ((FireState.isSealed_iff _).mp closed)
  unfold Station.takeCancel
  rw [if_neg (by simp [bay]), if_neg (by simp [joined]), if_neg unsealed]
  cases st.pullFor c <;> rfl

end

end

end

theorem exec_cancel (s : Machine.State) {src : Addr} (seq : Byte) (c : Cart) (heard : s.station.hearsConsole src) :
    Machine.exec (.cancel src seq c) s = .next (s.put (Station.takeCancel src seq c s.station)) :=
  congrArg (fun st => Host.Outcome.next (s.put st)) (Station.fromConsole_heard _ heard)

/-- Settles O31: the lighting entry by entry, by what `relit` makes of the entry at each place; then CANCEL's table. -/
theorem pullLightingAndCancel : Obligations.PullLightingAndCancel := by
  refine ⟨fun st => ⟨rfl, Station.Obeys.relit_length _ _, fun i e f here there => ?_,
    fun n asks => litSlot_some asks, litSlot_eq_none_iff⟩, fun s src seq c heard => ?_⟩
  · have becomes : f = e.relitBehind st.frozen (st.pulls.entries.take i) := by
      rw [Station.relight_entries, relit_getElem?, here] at there
      exact (Option.some.inj there).symm
    subst becomes
    refine ⟨fun out => PullEntry.relitBehind_out out, fun inside => ?_⟩
    refine ⟨by rw [PullEntry.relitBehind_in inside], PullEntry.relitBehind_lit_or_waiting inside, ?_⟩
    rw [PullEntry.relitBehind_lit_iff inside, Station.frozen_eq_false_iff, forall_mem_take_iff]
  · have takes {x : Station} (h : Station.takeCancel src seq c s.station = x) :
        Machine.exec (.cancel src seq c) s = .next (s.put x) :=
      (exec_cancel s seq c heard).trans (s.next_put h)
    refine ⟨fun away => takes (Station.takeCancel_away src seq c away), fun joined =>
      ⟨fun hatch => takes (Station.takeCancel_hatch src seq c hatch), fun bay =>
        ⟨fun closed => takes (Station.takeCancel_sealed src seq c bay joined closed), fun unsealed =>
          ⟨fun unqueued => takes ?_, fun front rest e queue mine before behind => ?_⟩⟩⟩⟩
    · rw [Station.takeCancel_open src seq c bay joined unsealed, Station.pullFor_eq_none unqueued]
      rfl
    · subst mine
      have taken := Station.takeCancel_open src seq e.cart bay joined unsealed
      rw [Station.pullFor_first queue before, Station.cancelPulls_only queue before behind] at taken
      exact ⟨fun out => takes (taken.trans (if_pos out)), fun inside => takes (taken.trans (if_neg inside))⟩

end Sys2Proof
end

section
/-! SUPPORT. The ledger of the transfer engine (R125): its entries by transfer id and cartridge, and the claimed
cartridges, which is all that the law of R125 speaks of. One simp lemma for each operation that leaves it alone. -/

namespace Sys2Proof

/-- The transfer table by id and cartridge, and the cartridges of the claim list. -/
structure Ledger where
  entries : List (Tid × Cart)
  claims : List Cart

/-- An entry by its transfer id and cartridge. -/
def XferEntry.key (e : XferEntry) : Tid × Cart := (e.tid, e.cart)

/-- The ledger of a station. -/
def Station.ledger (st : Station) : Ledger where
  entries := st.xfer.entries.map XferEntry.key
  claims := st.xfer.claims.map Claim.cart

/-- Handing messages on moves reply timers alone. -/
theorem Station.ledger_of_kept {a b : Station} (h : a.kept = b.kept) : a.ledger = b.ledger := by
  have entries := congrArg (List.map XferEntry.key) (Station.xfers_of_kept h)
  have claims : a.xfer.claims = b.xfer.claims := congrArg (fun k => k.xfer.claims) h
  simp only [List.map_map] at entries
  simp only [Station.ledger, claims]
  exact congrArg (Ledger.mk · _) entries

/-- The hatch unit's session leaves the transfer engine beside its reply timers. -/
theorem Station.ledger_of_queues {a b : Station} (h : a.queues = b.queues) : a.ledger = b.ledger := by
  have same : a.kept.xfer = b.kept.xfer := congrArg (fun q => q.2.2) h
  have entries := congrArg (fun x : Transfers => x.entries.map XferEntry.key) same
  simp only [Station.kept, List.map_map] at entries
  have claims : a.xfer.claims = b.xfer.claims :=
    show a.kept.xfer.claims = b.kept.xfer.claims from congrArg _ same
  simp only [Station.ledger, claims]
  exact congrArg (Ledger.mk · _) entries

/-- The station that an operation answers beside a value. -/
theorem Station.ledger_of_answer {α : Type} {p : Station × α} {x : Station} {v : α} (h : p = (x, v)) :
    x.ledger = p.1.ledger := by rw [h]

section
variable (st : Station)

@[simp] theorem Station.ledger_ite {c : Prop} [Decidable c] (x y : Station) :
    (if c then x else y).ledger = if c then x.ledger else y.ledger := apply_ite Station.ledger c x y

@[simp] theorem Station.onlyIf_ledger (c : Bool) (f : Station → Station) :
    (st.onlyIf c f).ledger = if c then (f st).ledger else st.ledger := by
  cases c <;> rfl

/-- A fold of operations that leave the ledger alone leaves it alone. -/
theorem Station.foldl_ledger {α : Type} {f : Station → α → Station} (l : List α) (st : Station)
    (h : ∀ s x, (f s x).ledger = s.ledger) : (l.foldl f st).ledger = st.ledger :=
  List.foldlRecOn (motive := fun s : Station => s.ledger = st.ledger) l f rfl
    fun s hs x _ => (h s x).trans hs

/-! ### Updates of a block -/

@[simp] theorem Station.onLoader_ledger (f) : (st.onLoader f).ledger = st.ledger := rfl
@[simp] theorem Station.onRetention_ledger (f) : (st.onRetention f).ledger = st.ledger := rfl
@[simp] theorem Station.onPins_ledger (f) : (st.onPins f).ledger = st.ledger := rfl
@[simp] theorem Station.onMoist_ledger (f) : (st.onMoist f).ledger = st.ledger := rfl
@[simp] theorem Station.onAir_ledger (f) : (st.onAir f).ledger = st.ledger := rfl
@[simp] theorem Station.onMotion_ledger (f) : (st.onMotion f).ledger = st.ledger := rfl
@[simp] theorem Station.onDet_ledger (f) : (st.onDet f).ledger = st.ledger := rfl
@[simp] theorem Station.onSupp_ledger (f) : (st.onSupp f).ledger = st.ledger := rfl
@[simp] theorem Station.onDoor_ledger (f) : (st.onDoor f).ledger = st.ledger := rfl
@[simp] theorem Station.onTable_ledger (f) : (st.onTable f).ledger = st.ledger := rfl
@[simp] theorem Station.onPulls_ledger (f) : (st.onPulls f).ledger = st.ledger := rfl
@[simp] theorem Station.onAudit_ledger (f) : (st.onAudit f).ledger = st.ledger := rfl
@[simp] theorem Station.onHatch_ledger (f) : (st.onHatch f).ledger = st.ledger := rfl
@[simp] theorem Station.onPeers_ledger (f) : (st.onPeers f).ledger = st.ledger := rfl
@[simp] theorem Station.onLine_ledger (f) : (st.onLine f).ledger = st.ledger := rfl
@[simp] theorem Station.onSession_ledger (f) : (st.onSession f).ledger = st.ledger := rfl
@[simp] theorem Station.setPulls_ledger (es) : (st.setPulls es).ledger = st.ledger := rfl
@[simp] theorem Station.setPullState_ledger (c s) : (st.setPullState c s).ledger = st.ledger := rfl
@[simp] theorem Station.setCustody_ledger (es) : (st.setCustody es).ledger = st.ledger := rfl
@[simp] theorem Station.setExpected_ledger (es) : (st.setExpected es).ledger = st.ledger := rfl
@[simp] theorem Station.setOccupancy_ledger (ids) : (st.setOccupancy ids).ledger = st.ledger := rfl
@[simp] theorem Station.modifySlot_ledger (n f) : (st.modifySlot n f).ledger = st.ledger := rfl
@[simp] theorem Station.putRecord_ledger (n r) : (st.putRecord n r).ledger = st.ledger := rfl
@[simp] theorem Station.modifyPeer_ledger (a f) : (st.modifyPeer a f).ledger = st.ledger := rfl
@[simp] theorem Station.askLamp_ledger (n l) : (st.askLamp n l).ledger = st.ledger := rfl
@[simp] theorem Station.numbered_ledger : st.numbered.ledger = st.ledger := rfl
@[simp] theorem Station.relight_ledger : st.relight.ledger = st.ledger := rfl
@[simp] theorem Station.auditAt_ledger (n) : (st.auditAt n).ledger = st.ledger := rfl

/-! ### The transmit queue -/

@[simp] theorem Station.select_ledger : st.select.ledger = st.ledger := Station.ledger_of_kept st.select_kept
@[simp] theorem Station.offerPlaces_ledger : st.offerPlaces.ledger = st.ledger :=
  Station.ledger_of_kept st.offerPlaces_kept
@[simp] theorem Station.hand_ledger (k d b) : (st.hand k d b).ledger = st.ledger :=
  Station.ledger_of_kept (st.hand_kept k d b)
@[simp] theorem Station.handAlert_ledger (k b) : (st.handAlert k b).ledger = st.ledger :=
  Station.ledger_of_kept (st.handAlert_kept k b)
@[simp] theorem Station.reply_ledger (k c n q o d) : (st.reply k c n q o d).ledger = st.ledger :=
  Station.ledger_of_kept (st.reply_kept k c n q o d)
@[simp] theorem Station.handFire_ledger (b) : (st.handFire b).ledger = st.ledger :=
  Station.ledger_of_kept (st.handFire_kept b)
@[simp] theorem Station.handFireReport_ledger : st.handFireReport.ledger = st.ledger :=
  st.handFire_ledger _
@[simp] theorem Station.sendXfer_ledger (d b) : (st.sendXfer d b).ledger = st.ledger := st.hand_ledger _ d b
@[simp] theorem Station.xferAlert_ledger (k n c t r) : (st.xferAlert k n c t r).ledger = st.ledger :=
  st.hand_ledger _ _ _

/-! ### The pull queue and the audit's cursor -/

@[simp] theorem Station.auditReply_ledger (o d) : (st.auditReply o d).ledger = st.ledger :=
  st.reply_ledger _ _ _ _ _ _

@[simp] theorem Station.auditComplete_ledger : st.auditComplete.ledger = st.ledger := st.auditReply_ledger _ _

@[simp] theorem Station.suspensionTest_ledger : st.suspensionTest.ledger = st.ledger := by
  unfold Station.suspensionTest
  split
  · simp
  · refine Station.onlyIf_keeps (P := fun s => s.ledger = st.ledger) rfl fun _ => ?_
    split <;> simp

@[simp] theorem Station.auditRunAt_ledger (n) : (st.auditRunAt n).ledger = st.ledger :=
  (st.auditAt n).suspensionTest_ledger

@[simp] theorem Station.pullsChanged_ledger : st.pullsChanged.ledger = st.ledger :=
  st.relight.suspensionTest_ledger

@[simp] theorem Station.cancelPulls_ledger (p) : (st.cancelPulls p).ledger = st.ledger := by
  simp [Station.cancelPulls, Station.foldl_ledger, Station.replyCancelled]

@[simp] theorem Station.cancelHeld_ledger : st.cancelHeld.ledger = st.ledger := st.cancelPulls_ledger _

@[simp] theorem Station.pullInserted_ledger (n c) : (st.pullInserted n c).ledger = st.ledger := by
  simp [Station.pullInserted]

@[simp] theorem Station.queuePull_ledger (e) : (st.queuePull e).ledger = st.ledger := by
  simp [Station.queuePull]

/-! ### Slot records -/

@[simp] theorem Station.noticeDamage_ledger (n) : (st.noticeDamage n).ledger = st.ledger := by
  unfold Station.noticeDamage
  dsimp only
  split
  · split <;> simp
  · rfl

@[simp] theorem Station.readAll_ledger : st.readAll.ledger = st.ledger :=
  Station.foldl_ledger _ _ Station.noticeDamage_ledger

@[simp] theorem Station.writeRecord_ledger (n r) : (st.writeRecord n r).ledger = st.ledger :=
  (st.putRecord n r).cancelPulls_ledger _

@[simp] theorem Station.placeWrite_ledger (n t) : (st.placeWrite n t).1.ledger = st.ledger := by
  unfold Station.placeWrite
  dsimp only
  split
  · split <;> simp
  · simp

@[simp] theorem Station.closeOutWrite_ledger (n t) : (st.closeOutWrite n t).ledger = st.ledger := by
  unfold Station.closeOutWrite
  dsimp only
  split <;> simp

@[simp] theorem Station.freeWrite_ledger (n t) : (st.freeWrite n t).1.ledger = st.ledger := by
  unfold Station.freeWrite
  dsimp only
  split
  · split <;> simp
  · simp

@[simp] theorem Station.reserveWrite_ledger (c t) : (st.reserveWrite c t).1.ledger = st.ledger := by
  unfold Station.reserveWrite
  dsimp only
  split
  · simp
  · split <;> simp

@[simp] theorem Station.setUnplanned_ledger (n) : (st.setUnplanned n).ledger = st.ledger := by
  unfold Station.setUnplanned
  split <;> simp

/-! ### The audit -/

@[simp] theorem Station.auditLifted_ledger (n f) : (st.auditLifted n f).ledger = st.ledger := by
  simp [Station.auditLifted]

@[simp] theorem Station.auditAdvance_ledger (n) : (st.auditAdvance n).ledger = st.ledger := by
  unfold Station.auditAdvance
  split <;> simp

@[simp] theorem Station.auditStray_ledger (n) : (st.auditStray n).ledger = st.ledger := by
  unfold Station.auditStray
  split <;> simp

@[simp] theorem Station.auditInserted_ledger (n) : (st.auditInserted n).ledger = st.ledger := by
  simp [Station.auditInserted]

@[simp] theorem Station.auditAbort_ledger : st.auditAbort.ledger = st.ledger := by
  refine Station.onlyIf_keeps (P := fun s => s.ledger = st.ledger) rfl fun _ => ?_
  dsimp only
  split
  · simp
  · split <;> simp

@[simp] theorem Station.auditMismatch_ledger (n y c) : (st.auditMismatch n y c).ledger = st.ledger :=
  st.hand_ledger _ _ _

@[simp] theorem Station.auditDecide_ledger (n y) : (st.auditDecide n y).ledger = st.ledger := by
  unfold Station.auditDecide
  split
  · dsimp only
    split
    · simp
    · split
      · simp
      · split <;> simp
  · dsimp only
    split <;> simp
  · simp

@[simp] theorem Station.auditScan_ledger (y) : (st.auditScan y).ledger = st.ledger := by
  unfold Station.auditScan
  split <;> simp

@[simp] theorem Station.takeAudit_ledger (src seq f l) :
    (Station.takeAudit src seq f l st).ledger = st.ledger := by
  unfold Station.takeAudit
  cases st.table.firstPresent f l <;> simp

/-! ### The motion channel and the hatch unit -/

/-- An operation of the channel changes the channel alone. -/
theorem Station.ledger_of_motion {a b : Station} (e : b = { a with motion := b.motion }) :
    b.ledger = a.ledger := by
  rw [e]
  rfl

@[simp] theorem Station.command_ledger (e) : (st.command e).1.ledger = st.ledger :=
  Station.ledger_of_motion (st.command_motion e)

@[simp] theorem Station.arrivalComes_ledger (e) : (st.arrivalComes e).1.ledger = st.ledger :=
  Station.ledger_of_motion (st.arrivalComes_motion e)

@[simp] theorem Station.loadLeaves_ledger (e) : (st.loadLeaves e).1.ledger = st.ledger :=
  Station.ledger_of_motion (st.loadLeaves_motion e)

@[simp] theorem Station.stopEvent_ledger (c) : (st.stopEvent c).1.ledger = st.ledger :=
  Station.ledger_of_motion (st.stopEvent_motion c)

@[simp] theorem Station.travelExpired_ledger : st.travelExpired.1.ledger = st.ledger :=
  Station.ledger_of_motion st.travelExpired_motion

@[simp] theorem Station.deadExpired_ledger : st.deadExpired.1.ledger = st.ledger :=
  Station.ledger_of_motion st.deadExpired_motion

@[simp] theorem Station.settleSession_ledger : st.settleSession.ledger = st.ledger :=
  Station.ledger_of_queues st.settleSession_queues

@[simp] theorem Station.abortSession_ledger (r) : (st.abortSession r).ledger = st.ledger :=
  Station.ledger_of_queues (st.abortSession_queues r)

@[simp] theorem Station.handOutbound_ledger : st.handOutbound.ledger = st.ledger := by
  simp [Station.handOutbound, Station.bringIn, Station.handover, Station.endSession]

@[simp] theorem Station.fileInbound_ledger (j c) : (st.fileInbound j c).ledger = st.ledger := rfl

@[simp] theorem Station.handInbound_ledger : st.handInbound.ledger = st.ledger := by
  simp [Station.handInbound, Station.handover, Station.endSession,
    Station.foldl_ledger _ _ fun s (m : ManifestItem) => s.fileInbound_ledger _ m.cart]

@[simp] theorem Station.hatchReport_ledger (r) : (st.hatchReport r).ledger = st.ledger := by
  unfold Station.hatchReport
  split <;> simp

/-- The owner acts on what an operation of the channel reports (R37). -/
@[simp] theorem Station.reported_ledger (p : Station × Option Report) :
    (Station.reported p).ledger = p.1.ledger := by
  unfold Station.reported
  split <;> simp

@[simp] theorem Station.retry_ledger : st.retry.ledger = st.ledger := by simp [Station.retry]

@[simp] theorem Station.setPosition_ledger (n) : (st.setPosition n).ledger = st.ledger := by
  simp [Station.setPosition, Station.positionMoved]

@[simp] theorem Station.encoderChanged_ledger (x y) : (st.encoderChanged x y).ledger = st.ledger := by
  unfold Station.encoderChanged
  dsimp only
  split <;> simp

@[simp] theorem Station.flapChanged_ledger (o) : (st.flapChanged o).ledger = st.ledger := by
  simp [Station.flapChanged]

@[simp] theorem Station.innerEndClosed_ledger : st.innerEndClosed.ledger = st.ledger := by
  simp [Station.innerEndClosed]

@[simp] theorem Station.sendPressed_ledger : st.sendPressed.ledger = st.ledger := by
  simp [Station.sendPressed]

@[simp] theorem Station.donePressed_ledger : st.donePressed.ledger = st.ledger := by
  simp [Station.donePressed]

@[simp] theorem Station.sessionExpired_ledger : st.sessionExpired.ledger = st.ledger := by
  simp [Station.sessionExpired]

@[simp] theorem Station.courierCard_ledger (n) : (st.courierCard n).ledger = st.ledger := by
  simp [Station.courierCard, Station.beginSession]

@[simp] theorem Station.setCustodyState_ledger (c s) : (st.setCustodyState c s).ledger = st.ledger := rfl

@[simp] theorem Station.loadDrawer_ledger (c) : (st.loadDrawer c).ledger = st.ledger := by
  simp [Station.loadDrawer]

@[simp] theorem Station.fileScanned_ledger (e) : (st.fileScanned e).ledger = st.ledger := by
  simp [Station.fileScanned, Station.hatchAlert]

@[simp] theorem Station.outerScan_ledger (c) : (st.outerScan c).ledger = st.ledger := by
  unfold Station.outerScan
  split <;> simp [Station.presentScan, Station.receiveScan, Station.hatchAlert]

@[simp] theorem Station.takeCheckin_ledger (src seq j c d) :
    (Station.takeCheckin src seq j c d st).ledger = st.ledger := by
  simp [Station.takeCheckin, Station.assignStray]

@[simp] theorem Station.hatchQuery_ledger (src seq c) : (Station.hatchQuery src seq c st).ledger = st.ledger := by
  unfold Station.hatchQuery
  split
  · simp
  · split <;> simp

/-! ### The slot table and its requests -/

@[simp] theorem Station.removal_ledger (n) : (st.removal n).ledger = st.ledger := by
  unfold Station.removal
  dsimp only
  split <;> simp

@[simp] theorem Station.strayInserted_ledger (n) : (st.strayInserted n).ledger = st.ledger := by
  unfold Station.strayInserted
  dsimp only
  split <;> simp

@[simp] theorem Station.settleSlot_ledger (n r) : (st.settleSlot n r).ledger = st.ledger := by
  unfold Station.settleSlot
  dsimp only
  split <;> rfl

@[simp] theorem Station.minuteExpired_ledger : st.minuteExpired.ledger = st.ledger := by
  simp [Station.minuteExpired]

@[simp] theorem Station.markDischarge_ledger : st.markDischarge.ledger = st.ledger := by
  simp [Station.markDischarge]

@[simp] theorem Station.takeHoldSet_ledger (src seq e d c m) :
    (Station.takeHoldSet src seq e d c m st).ledger = st.ledger := by
  unfold Station.takeHoldSet
  cases holdOfBytes e d c m <;> simp

@[simp] theorem Station.takeInspectClear_ledger (src seq n) :
    (Station.takeInspectClear src seq n st).ledger = st.ledger := by
  unfold Station.takeInspectClear
  dsimp only
  iterate 3
    split
    · simp
  split
  · split
    · simp
    · split <;> simp
  · simp

@[simp] theorem Station.answerRecord_ledger (src seq n) : (st.answerRecord src seq n).ledger = st.ledger := by
  simp [Station.answerRecord]

@[simp] theorem Station.takeQuerySlot_ledger (src seq n) :
    (Station.takeQuerySlot src seq n st).ledger = st.ledger := by
  simp [Station.takeQuerySlot]

@[simp] theorem Station.takeQueryCartridge_ledger (src seq c) :
    (Station.takeQueryCartridge src seq c st).ledger = st.ledger := by
  unfold Station.takeQueryCartridge Station.bayQuery
  dsimp only
  split
  · split <;> simp
  · simp

@[simp] theorem Station.takeQueryTransfer_ledger (src seq t) :
    (Station.takeQueryTransfer src seq t st).ledger = st.ledger := by
  unfold Station.takeQueryTransfer
  split <;> simp

@[simp] theorem Station.takeQuery_ledger (src seq q) : (Station.takeQuery src seq q st).ledger = st.ledger := by
  cases q <;> simp [Station.takeQuery]

/-! ### Check-out -/

@[simp] theorem Station.checkoutLookup_ledger (src seq c j d) :
    (st.checkoutLookup src seq c j d).ledger = st.ledger := by
  unfold Station.checkoutLookup
  dsimp only
  split
  · simp
  · simp
  · split
    · simp
    · split <;> simp

@[simp] theorem Station.takeCheckout_ledger (src seq a c j d) :
    (Station.takeCheckout src seq a c j d st).ledger = st.ledger := by
  simp [Station.takeCheckout, Station.checkoutTests]

@[simp] theorem Station.takeCancel_ledger (src seq c) : (Station.takeCancel src seq c st).ledger = st.ledger := by
  unfold Station.takeCancel
  cases st.pullFor c <;> simp

@[simp] theorem Station.wrongCartridge_ledger (n c) : (st.wrongCartridge n c).ledger = st.ledger :=
  st.hand_ledger _ _ _

/-! ### The dry-air unit, the fire state and the door -/

@[simp] theorem Station.evalForcedSafe_ledger : st.evalForcedSafe.ledger = st.ledger := by
  unfold Station.evalForcedSafe
  split
  · rfl
  · split <;> simp

@[simp] theorem Station.onTransits_ledger (f) : (st.onTransits f).ledger = st.ledger := by
  simp [Station.onTransits, Station.ledger, Station.setXfers, Function.comp_def, XferEntry.key]

@[simp] theorem Station.setFire_ledger (f) : (st.setFire f).ledger = st.ledger := by
  simp [Station.setFire, Station.followConfirmed, Station.followUnconfirmed, Station.followAir,
    Station.abandonRestart]

@[simp] theorem Station.enterCountdown_ledger : st.enterCountdown.ledger = st.ledger := by
  simp [Station.enterCountdown]

@[simp] theorem Station.confirm_ledger : st.confirm.ledger = st.ledger := by simp [Station.confirm]

@[simp] theorem Station.latched_ledger (k) : (st.latched k).ledger = st.ledger := by
  cases k <;> simp [Station.latched, Station.takeLatch, Station.takeManualLatch]

@[simp] theorem Station.loopSampled_ledger (n c) : (st.loopSampled n c).ledger = st.ledger := by
  simp [Station.loopSampled]

@[simp] theorem Station.neighbourTest_ledger : st.neighbourTest.ledger = st.ledger := by
  simp [Station.neighbourTest]

@[simp] theorem Station.holdSwitch_ledger (x) : (st.holdSwitch x).ledger = st.ledger := by
  unfold Station.holdSwitch
  dsimp only
  split <;> simp

@[simp] theorem Station.takeRestore_ledger (src seq) : (Station.takeRestore src seq st).ledger = st.ledger := by
  simp [Station.takeRestore, Station.restored]

@[simp] theorem Station.emptyBayCheck_ledger (n) : (st.emptyBayCheck n).ledger = st.ledger := by
  unfold Station.emptyBayCheck
  dsimp only
  split <;> simp

@[simp] theorem Station.bayEmptied_ledger : st.bayEmptied.ledger = st.ledger := by
  simp [Station.bayEmptied, Station.foldl_ledger, Station.occupancyEmptied]

@[simp] theorem Station.badgeRead_ledger (id) : (st.badgeRead id).ledger = st.ledger := by
  simp [Station.badgeRead, Station.unlockPulse]

@[simp] theorem Station.takeOccupancyClear_ledger (src seq) :
    (Station.takeOccupancyClear src seq st).ledger = st.ledger := by
  simp [Station.takeOccupancyClear]

/-! ### The peer view, the line and the starts -/

@[simp] theorem Station.takeStatus_ledger (src b) : (Station.takeStatus src b st).ledger = st.ledger := by
  unfold Station.takeStatus
  split <;> simp

@[simp] theorem Station.takeFireReport_ledger (src b) :
    (Station.takeFireReport src b st).ledger = st.ledger := by
  unfold Station.takeFireReport
  split <;> simp

@[simp] theorem Station.takeDischarge_ledger (src x) : (Station.takeDischarge src x st).ledger = st.ledger := by
  simp [Station.takeDischarge, Station.neighbourDischarge]

@[simp] theorem Station.enterClash_ledger : st.enterClash.ledger = st.ledger := by
  simp [Station.enterClash]

@[simp] theorem Station.takeRestart_ledger (src seq) : (Station.takeRestart src seq st).ledger = st.ledger := by
  simp [Station.takeRestart]

@[simp] theorem Station.sendStatus_ledger : st.sendStatus.ledger = st.ledger := by simp [Station.sendStatus]

@[simp] theorem Station.loadBeacon_ledger : st.loadBeacon.ledger = st.ledger := rfl

@[simp] theorem Station.outputsOff_ledger : st.outputsOff.ledger = st.ledger := rfl

@[simp] theorem Station.imageRead_ledger (straps r) : (st.imageRead straps r).ledger = st.ledger := by
  unfold Station.imageRead
  cases r.image.check <;> simp [Station.fault, Station.install]

@[simp] theorem Station.markUnplanned_ledger (n) : (st.markUnplanned n).ledger = st.ledger := by
  unfold Station.markUnplanned
  split <;> simp

@[simp] theorem Station.startBay_ledger : st.startBay.ledger = st.ledger := by
  simp [Station.startBay, Station.foldl_ledger]

end

end Sys2Proof
end

section
/-! SUPPORT. The law of R125 by the ledger: entries and claims that go leave it, and an entry or a claim that comes is
tested first. Then each operation that changes the transfer table or the claim list, and every command (O40). -/

namespace Sys2Proof

/-! ### The law of a ledger (R125) -/

/-- What R125 says of the transfer table and the claim list. -/
structure Ledger.Lawful (l : Ledger) : Prop where
  room : l.entries.length ≤ 16
  tids : (l.entries.map Prod.fst).Nodup
  carts : (l.entries.map Prod.snd).Nodup
  claimRoom : l.claims.length ≤ 4
  claimCarts : l.claims.Nodup
  apart : ∀ e ∈ l.entries, e.2 ∉ l.claims

theorem Station.transfersLawful_iff {st : Station} : st.TransfersLawful ↔ st.ledger.Lawful := by
  have tids : st.ledger.entries.map Prod.fst = st.xfer.entries.map XferEntry.tid := List.map_map
  have carts : st.ledger.entries.map Prod.snd = st.xfer.entries.map XferEntry.cart := List.map_map
  have room : st.ledger.entries.length = st.xfer.entries.length := List.length_map _
  have claims : st.ledger.claims.length = st.xfer.claims.length := List.length_map _
  constructor
  · intro h
    refine ⟨room ▸ h.room, tids ▸ h.tids, carts ▸ h.carts, claims ▸ h.claimRoom, h.claimCarts,
      fun p hp hc => ?_⟩
    obtain ⟨e, he, rfl⟩ := List.mem_map.mp hp
    obtain ⟨k, hk, same⟩ := List.mem_map.mp hc
    exact h.apart e he k hk same.symm
  · intro h
    refine ⟨room ▸ h.room, tids ▸ h.tids, carts ▸ h.carts, claims ▸ h.claimRoom, h.claimCarts,
      fun e he k hk same => ?_⟩
    exact h.apart e.key (List.mem_map_of_mem he) (List.mem_map.mpr ⟨k, hk, same.symm⟩)

/-- The ids and the cartridges of the table, and the claimed cartridges. -/
theorem Station.mem_ledger_tids {st : Station} {t : Tid} :
    t ∈ st.ledger.entries.map Prod.fst ↔ (st.xferById t).isSome = true := by
  rw [Station.xferById_isSome]
  simp [Station.ledger, XferEntry.key]

theorem Station.mem_ledger_carts {st : Station} {c : Cart} :
    c ∈ st.ledger.entries.map Prod.snd ↔ (st.xferByCart c).isSome = true := by
  rw [Station.xferByCart_isSome]
  simp [Station.ledger, XferEntry.key]

theorem Station.mem_ledger_claims {st : Station} {c : Cart} : c ∈ st.ledger.claims ↔ st.claimed c = true := by
  rw [Station.claimed_iff]
  simp [Station.ledger]

section
variable {l m : Ledger} (h : l.Lawful)
include h

/-- Entries and claims go. -/
theorem Ledger.Lawful.sublist (entries : m.entries.Sublist l.entries) (claims : m.claims.Sublist l.claims) :
    m.Lawful where
  room := entries.length_le.trans h.room
  tids := h.tids.sublist (entries.map _)
  carts := h.carts.sublist (entries.map _)
  claimRoom := claims.length_le.trans h.claimRoom
  claimCarts := h.claimCarts.sublist claims
  apart e he hc := h.apart e (entries.subset he) (claims.subset hc)

variable {t : Tid} {c : Cart} (new : c ∉ l.entries.map Prod.snd) (unclaimed : c ∉ l.claims)
include new unclaimed

/-- An entry comes under an id and for a cartridge that none has. -/
theorem Ledger.Lawful.enter (room : l.entries.length < 16) (fresh : t ∉ l.entries.map Prod.fst) :
    ({ l with entries := l.entries ++ [(t, c)] } : Ledger).Lawful where
  room := by simpa using room
  tids := by simpa [List.nodup_append] using ⟨h.tids, fun u d hu same => fresh (by simpa using ⟨d, same ▸ hu⟩)⟩
  carts := by simpa [List.nodup_append] using ⟨h.carts, fun d u hu same => new (by simpa using ⟨u, same ▸ hu⟩)⟩
  claimRoom := h.claimRoom
  claimCarts := h.claimCarts
  apart e he := (List.mem_append.mp he).elim (h.apart e) fun last => by
    rw [List.mem_singleton.mp last]
    exact unclaimed

/-- A claim comes for a cartridge that none has. -/
theorem Ledger.Lawful.claim (room : l.claims.length < 4) :
    ({ l with claims := l.claims ++ [c] } : Ledger).Lawful where
  room := h.room
  tids := h.tids
  carts := h.carts
  claimRoom := by simpa using room
  claimCarts := by simpa [List.nodup_append] using ⟨h.claimCarts, fun d hd same => unclaimed (same ▸ hd)⟩
  apart e he hc := (List.mem_append.mp hc).elim (h.apart e he) fun last =>
    new (List.mem_singleton.mp last ▸ List.mem_map_of_mem he)

end

/-! ### Operations of the transfer engine that leave the ledger alone -/

section
variable (st : Station)

/-- Entries rewritten beside their id and cartridge. -/
theorem Station.mapXfers_ledger {f : XferEntry → XferEntry} (hf : ∀ e, (f e).key = e.key) :
    (st.setXfers (st.xfer.entries.map f)).ledger = st.ledger := by
  simp [Station.setXfers, Station.onXfer, Station.ledger, Function.comp_def, hf]

theorem Station.modifyXfer_ledger (t : Tid) {f : XferEntry → XferEntry} (hf : ∀ e, (f e).key = e.key) :
    (st.modifyXfer t f).ledger = st.ledger :=
  st.mapXfers_ledger fun e => by
    split
    · exact hf e
    · rfl

@[simp] theorem Station.withdrawLamp_ledger (n) : (st.withdrawLamp n).ledger = st.ledger := by
  cases n <;> rfl

@[simp] theorem Station.resend_ledger (e) : (st.resend e).ledger = st.ledger := by
  unfold Station.resend
  split <;> simp

@[simp] theorem Station.becomeArrived_ledger (e) : (st.becomeArrived e).ledger = st.ledger :=
  (Station.sendXfer_ledger _ _ _).trans (st.modifyXfer_ledger _ fun _ => rfl)

@[simp] theorem Station.placeFor_ledger (e) : (st.placeFor e).1.ledger = st.ledger := by
  unfold Station.placeFor
  split
  · rfl
  · split <;> simp [Station.ledger_of_answer ‹_ = _›]

@[simp] theorem Station.arrival_ledger (e) : (st.arrival e).ledger = st.ledger := by
  unfold Station.arrival
  dsimp only
  split <;> simp

@[simp] theorem Station.freeSlot_ledger (n t) : (st.freeSlot n t).ledger = st.ledger := by
  unfold Station.freeSlot
  split <;> simp [Station.ledger_of_answer ‹_ = _›]

@[simp] theorem Station.takeAccept_ledger (src t n) : (Station.takeAccept src t n st).ledger = st.ledger := by
  refine Station.onlyIf_keeps (P := fun s => s.ledger = st.ledger) rfl fun _ => ?_
  split
  · simp
  · split
    · rfl
    · split
      · exact st.modifyXfer_ledger _ fun _ => rfl
      · exact st.modifyXfer_ledger _ fun _ => rfl
      · simp
      · rfl

@[simp] theorem Station.transitExpired_ledger (t) : (Station.transitExpired t st).ledger = st.ledger := by
  unfold Station.transitExpired
  split
  · rfl
  · split
    · exact (Station.xferAlert_ledger _ _ _ _ _ _).trans (st.modifyXfer_ledger _ fun _ => rfl)
    · rfl
    · rfl

@[simp] theorem Station.rejoinXfer_ledger (e) : (st.rejoinXfer e).ledger = st.ledger := by
  have again : (st.modifyXfer e.tid fun x => { x with attempts := 0 }).ledger = st.ledger :=
    st.modifyXfer_ledger _ fun _ => rfl
  unfold Station.rejoinXfer
  split <;> simp [again]

@[simp] theorem Station.listenXfers_ledger : st.listenXfers.ledger = st.ledger := by
  have listen : (st.setXfers (st.xfer.entries.map
      (XferEntry.listen (ticksOfSec st.cfg.transitLimit) st.confirmed))).ledger = st.ledger :=
    st.mapXfers_ledger fun e => by
      unfold XferEntry.listen
      split <;> rfl
  refine (Station.foldl_ledger _ _ fun s e => ?_).trans listen
  unfold Station.listenLamp
  split <;> simp

@[simp] theorem Station.enterListen_ledger : st.enterListen.ledger = st.ledger := by
  simp [Station.enterListen, Station.listenMotion, Station.listenBay, Station.periodStart]

@[simp] theorem Station.enterJoined_ledger : st.enterJoined.ledger = st.ledger := by
  simp [Station.enterJoined, Station.foldl_ledger]

end

section
variable (st : Station)

/-- Decay touches the check of the table alone (R186). -/
theorem Station.decay_ledger (d : Decay) : (st.decay d).ledger = st.ledger := by
  cases d with
  | marker => rfl
  | collection which difference => cases which <;> rfl
  | slotRecord n difference => rfl

@[simp] theorem Station.computeDemand_ledger : st.computeDemand.ledger = st.ledger := rfl
@[simp] theorem Station.periodStart_ledger : st.periodStart.ledger = st.ledger := rfl
@[simp] theorem Station.assertReset_ledger : st.assertReset.ledger = st.ledger := by simp [Station.assertReset]
@[simp] theorem Station.losePower_ledger : st.losePower.ledger = st.ledger := by simp [Station.losePower]
@[simp] theorem Station.sealExpired_ledger : st.sealExpired.ledger = st.ledger := by simp [Station.sealExpired]
@[simp] theorem Station.evacuationExpired_ledger : st.evacuationExpired.ledger = st.ledger := by
  simp [Station.evacuationExpired]
@[simp] theorem Station.countdownExpired_ledger : st.countdownExpired.ledger = st.ledger := by
  refine Station.onlyIf_keeps (P := fun s => s.ledger = st.ledger) rfl fun _ => ?_
  dsimp only
  split <;> simp
@[simp] theorem Station.pulseExpired_ledger : st.pulseExpired.ledger = st.ledger := by simp [Station.pulseExpired]
@[simp] theorem Station.soakExpired_ledger : st.soakExpired.ledger = st.ledger := by simp [Station.soakExpired]
@[simp] theorem Station.beaconExpired_ledger : st.beaconExpired.ledger = st.ledger := by
  simp [Station.beaconExpired]
@[simp] theorem Station.lineFaultExpired_ledger : st.lineFaultExpired.ledger = st.ledger := by
  simp [Station.lineFaultExpired]
@[simp] theorem Station.lineBecomesIdle_ledger : st.lineBecomesIdle.ledger = st.ledger := by
  simp [Station.lineBecomesIdle]

/-- A message of a console kind leaves the ledger alone where the block that owns it does. -/
@[simp] theorem Station.fromConsole_ledger (src : Addr) {f : Station → Station} (hf : (f st).ledger = st.ledger) :
    (Station.fromConsole src f st).ledger = st.ledger := by simp [Station.fromConsole, hf]

/-- A message of a station kind leaves the ledger alone where the block that owns it does. -/
@[simp] theorem Station.fromPeer_ledger (src : Addr) {f : Station → Station} (hf : (f st).ledger = st.ledger) :
    (Station.fromPeer src f st).ledger = st.ledger := by simp [Station.fromPeer, hf]

@[simp] theorem Station.refreshed_ledger (src : Addr) {f : Station → Station}
    (hf : ∀ s : Station, (f s).ledger = s.ledger) : (Station.refreshed src f st).ledger = st.ledger := by
  simp [Station.refreshed, hf]

end

/-! ### Operations that change it -/

namespace Station.TransfersLawful

variable {b c : Station} (h : b.TransfersLawful)
include h

theorem of_ledger (same : c.ledger = b.ledger) : c.TransfersLawful := by
  rw [Station.transfersLawful_iff, same]
  exact Station.transfersLawful_iff.mp h

omit h in
/-- A choice between two stations that keep the law where they are chosen. -/
theorem of_ite {p : Prop} [Decidable p] {x y : Station} (hx : p → x.TransfersLawful)
    (hy : ¬p → y.TransfersLawful) :
    (if p then x else y).TransfersLawful := by
  split
  · next yes => exact hx yes
  · next no => exact hy no

theorem onlyIf {g : Bool} {f : Station → Station} (hf : b.TransfersLawful → (f b).TransfersLawful) :
    (b.onlyIf g f).TransfersLawful := Station.onlyIf_keeps h hf

theorem foldl {α : Type} {f : Station → α → Station}
    (hf : ∀ s x, s.TransfersLawful → (f s x).TransfersLawful) (l : List α) : (l.foldl f b).TransfersLawful :=
  List.foldlRecOn l f h fun s hs x _ => hf s x hs

theorem of_fewer (entries : c.ledger.entries.Sublist b.ledger.entries)
    (claims : c.ledger.claims.Sublist b.ledger.claims) : c.TransfersLawful :=
  Station.transfersLawful_iff.mpr ((Station.transfersLawful_iff.mp h).sublist entries claims)

theorem removeXfer (t : Tid) : (b.removeXfer t).TransfersLawful :=
  h.of_fewer (List.filter_sublist.map _) (.refl _)

theorem removeClaim (x : Cart) : (b.removeClaim x).TransfersLawful :=
  h.of_fewer (.refl _) (List.filter_sublist.map _)

/-- An entry joins the table: the table has room, and neither its id nor its cartridge is held (R125). -/
theorem enter (e : XferEntry) (room : b.xfer.entries.length < 16) (fresh : (b.xferById e.tid).isSome = false)
    (new : (b.xferByCart e.cart).isSome = false) (unclaimed : b.claimed e.cart = false) :
    (b.setXfers (b.xfer.entries ++ [e])).TransfersLawful := by
  have entered := (Station.transfersLawful_iff.mp h).enter (t := e.tid) (c := e.cart)
    (by simp [Station.mem_ledger_carts, new]) (by simp [Station.mem_ledger_claims, unclaimed])
    (by simpa [Station.ledger] using room) (by simp [Station.mem_ledger_tids, fresh])
  refine Station.transfersLawful_iff.mpr ?_
  simpa [Station.ledger, Station.setXfers, Station.onXfer, XferEntry.key] using entered

/-- The table with the ledger of another: what was tested there holds here. -/
theorem enter_as {a : Station} (same : b.ledger = a.ledger) (e : XferEntry) (room : a.xfer.entries.length < 16)
    (fresh : (a.xferById e.tid).isSome = false) (new : (a.xferByCart e.cart).isSome = false)
    (unclaimed : a.claimed e.cart = false) : (b.setXfers (b.xfer.entries ++ [e])).TransfersLawful := by
  have length : b.xfer.entries.length = a.xfer.entries.length := by
    simpa [Station.ledger] using congrArg (fun l => l.entries.length) same
  refine h.enter e (length ▸ room) ?_ ?_ ?_
  · rw [← Bool.not_eq_true, ← Station.mem_ledger_tids, same, Station.mem_ledger_tids, fresh]
    exact Bool.false_ne_true
  · rw [← Bool.not_eq_true, ← Station.mem_ledger_carts, same, Station.mem_ledger_carts, new]
    exact Bool.false_ne_true
  · rw [← Bool.not_eq_true, ← Station.mem_ledger_claims, same, Station.mem_ledger_claims, unclaimed]
    exact Bool.false_ne_true

/-! #### The sending side -/

/-- R126, R128: an opening takes a number that no entry is under, for a cartridge that none has. -/
theorem openXfer (d : Direction) (x : Cart) (j : Job) (n : Option Nat) (k : Option Cart) (p : Addr) :
    (b.openXfer d x j n k p).1.TransfersLawful := by
  cases declined : b.declines d x p with
  | true => rwa [Station.openXfer_declined declined]
  | false =>
    obtain ⟨o, i, -, free, -, opens⟩ := Station.openXfer_opened (job := j) (slot := n) (custody := k) declined
    have tests := fun t => Bool.false_ne_true (declined.symm.trans (Station.declines_iff.mpr t))
    rw [imp_false] at tests
    push Not at tests
    obtain ⟨-, room, new, unclaimed, -⟩ := tests
    rw [opens]
    unfold Station.opened
    refine TransfersLawful.of_ledger (b := b.setXfers (b.xfer.entries ++ [_]))
      (h.enter _ room ?_ ?_ ?_) ((Station.hand_ledger _ _ _ _).trans rfl)
    · rw [← Bool.not_eq_true, Station.xferById_isSome]
      rintro ⟨e, he, same⟩
      exact free e he (congrArg Tid.oseq same)
    · rw [← Bool.not_eq_true, Station.xferByCart_isSome]
      rintro ⟨e, he, same⟩
      exact new e he same
    · rw [← Bool.not_eq_true, Station.claimed_iff]
      rintro ⟨k, hk, same⟩
      exact unclaimed k hk same

theorem refused (e : XferEntry) (r : Reason) : (b.refused e r).TransfersLawful := by
  have told : ((b.modifyXfer e.tid fun e =>
      { e with state := .refused, transit := .stopped, reply := none }).xferAlert .unanswered e.slot e.cart
        (some e.tid) (some r)).TransfersLawful :=
    h.of_ledger ((Station.xferAlert_ledger _ _ _ _ _ _).trans (b.modifyXfer_ledger _ fun _ => rfl))
  unfold Station.refused
  dsimp only
  split
  · split
    · exact told.of_ledger rfl
    · exact told
  · exact (told.removeXfer _).of_ledger rfl

theorem closeSending (e : XferEntry) : (b.closeSending e).TransfersLawful := by
  unfold Station.closeSending
  refine TransfersLawful.onlyIf (TransfersLawful.removeXfer ?_ _) fun h => h.of_ledger (by simp)
  split
  · exact h.of_ledger (by simp)
  · exact h
  · exact h.of_ledger rfl

theorem withdrawSending (e : XferEntry) : (b.withdrawSending e).TransfersLawful :=
  ((h.of_ledger (b.withdrawLamp_ledger _)).removeXfer _).onlyIf fun h => h.of_ledger (by simp)

/-! #### The receiving side -/

theorem settleAtSlot (e : XferEntry) : (b.settleAtSlot e).TransfersLawful := by
  unfold Station.settleAtSlot
  split
  · exact h.removeXfer _
  · next n _ =>
    have read : (b.noticeDamage n).TransfersLawful := h.of_ledger (by simp)
    have gone : (((b.noticeDamage n).askLamp n .off).removeXfer e.tid).TransfersLawful :=
      (read.of_ledger (c := (b.noticeDamage n).askLamp n .off) rfl).removeXfer _
    dsimp only
    split
    · exact of_ite (fun _ => read.removeXfer _) fun _ => gone
    · exact read.of_ledger (Station.modifyXfer_ledger _ _ fun _ => rfl)
    · exact gone

theorem settleArrived (e : XferEntry) : (b.settleArrived e).TransfersLawful := by
  unfold Station.settleArrived
  split
  · exact (h.removeXfer _).of_ledger rfl
  · exact h.settleAtSlot e

theorem takeCustody (e : XferEntry) (r : Option Reason) : (b.takeCustody e r).TransfersLawful :=
  (h.of_ledger (b.xferAlert_ledger _ _ _ _ _)).settleArrived e

theorem xferInserted (n : Nat) (t : Tid) (p : Bool) : (b.xferInserted n t p).TransfersLawful := by
  have lamp : (b.askLamp n .off).TransfersLawful := h.of_ledger rfl
  unfold Station.xferInserted
  split
  · exact h
  · exact of_ite (fun _ => of_ite (fun _ => lamp.removeXfer _) fun _ => lamp)
      fun _ => of_ite (fun _ => h.of_ledger (by simp)) fun _ => h

theorem xferReturned (t : Tid) : (b.xferReturned t).TransfersLawful := by
  unfold Station.xferReturned
  split
  · exact h
  · exact h.withdrawSending _

/-- R125, R141: a claim is made where the list has room and nothing here holds the cartridge. -/
theorem makeClaim (x : Cart) : (b.makeClaim x).TransfersLawful := by
  refine of_ite (fun _ => h) fun free => of_ite (fun _ => h) fun room => of_ite (fun _ => ?_) fun _ => ?_
  · exact h.of_ledger (by simp)
  · have claimed := (Station.transfersLawful_iff.mp h).claim (c := x)
      (by rw [Station.mem_ledger_carts]; exact fun held => free (.inr held))
      (by rw [Station.mem_ledger_claims]; exact fun held => free (.inl held))
      (by simpa [Station.ledger] using Nat.not_le.mp room)
    rw [Station.transfersLawful_iff, Station.sendXfer_ledger]
    simpa [Station.ledger, Station.onXfer] using claimed

/-- R125, R142: the entry of a claim at a bay, for a cartridge that nothing here holds any more. -/
theorem claimAtBay (src : Addr) (t : Tid) (x : Cart) (j : Job) (new : (b.xferByCart x).isSome = false)
    (unclaimed : b.claimed x = false) : (b.claimAtBay src t x j).TransfersLawful := by
  refine of_ite (fun _ => h.of_ledger (by simp)) fun free => ?_
  have reserved := b.reserveWrite_ledger x t
  split
  · next e => exact h.of_ledger (by simp [Station.ledger_of_answer e])
  · next e => exact h.of_ledger (by simp [Station.ledger_of_answer e])
  · next st' _ e =>
    have placed (entry) := (Station.placeFor_ledger st' entry).trans ((Station.ledger_of_answer e).trans reserved)
    dsimp only
    split
    · next o =>
      have same := (Station.ledger_of_answer o).trans (placed _)
      exact (h.of_ledger same).enter_as same _ (by omega) (by simpa using fun held => free (.inr held)) new unclaimed
    · next o => exact h.of_ledger ((Station.ledger_of_answer o).trans (placed _))

/-- R142: a claimed cartridge has no entry, so a CLOSE that ends the claim leaves nothing of it. -/
theorem closeClaim (src : Addr) (t : Tid) (x : Cart) (j : Option Job) (claimed : b.claimed x = true) :
    (Station.closeClaim src t x j b).TransfersLawful := by
  unfold Station.closeClaim
  dsimp only
  split
  · exact (h.removeClaim x).of_ledger rfl
  · refine (h.removeClaim x).claimAtBay _ _ _ _ ?_ ?_
    · obtain ⟨k, hk, same⟩ := Station.claimed_iff.mp claimed
      rw [← Bool.not_eq_true, Station.xferByCart_isSome]
      rintro ⟨e, he, held⟩
      exact h.apart e he k hk (held.trans same.symm)
    · simp [Station.claimed, Station.removeClaim]

/-! #### Messages and timers -/

/-- R130: an OFFER is accepted for an id and a cartridge that nothing here holds, where the table has room. -/
theorem takeOffer (src : Addr) (t : Tid) (x : Cart) (j : Job) (d : Byte) :
    (Station.takeOffer src t x j d b).TransfersLawful := by
  cases joined : b.joined with
  | false => rwa [Station.takeOffer_away j d joined]
  | true =>
    by_cases same : b.OfferSame src t x
    · obtain ⟨e, found, -⟩ := id same
      rw [Station.takeOffer_again j d joined found same]
      exact h.of_ledger (by simp)
    · rw [Station.takeOffer_other j d joined same]
      cases refusal : b.offerRefusal t x d with
      | some r => exact h.of_ledger (by simp)
      | none =>
        have unknown : ¬b.OfferKnown t x := fun known => by
          rw [Station.offerRefusal_known d known] at refusal
          cases refusal
        have room : b.xfer.entries.length < 16 := by
          by_contra full
          rw [Station.offerRefusal_new d unknown] at refusal
          cases (if_pos (Nat.not_lt.mp full)).symm.trans refusal
        have tests := mt Station.offerKnown_iff.mp unknown
        simp only [Bool.or_eq_true, not_or, Bool.not_eq_true] at tests
        obtain ⟨⟨⟨fresh, new⟩, unclaimed⟩, -⟩ := tests
        have accepts {s : Station} (n : Option Nat) (same : s.ledger = b.ledger) :
            (s.acceptOffer src t x j n).TransfersLawful := by
          have entered := (h.of_ledger same).enter_as same (expectedEntry src t x j s.cfg.role n) room fresh new
            unclaimed
          exact entered.of_ledger (Station.sendXfer_ledger _ _ _)
        have reserved := b.reserveWrite_ledger x t
        dsimp only [Option.elim_none]
        unfold Station.offerPlaced
        split
        · exact accepts none rfl
        · split
          · exact h.of_ledger (by simp)
          · exact h.of_ledger (by simp)
          · exact accepts _ reserved

theorem takeRefuse (src : Addr) (t : Tid) (r : Byte) : (Station.takeRefuse src t r b).TransfersLawful := by
  refine h.onlyIf fun h => ?_
  split
  · exact h
  · refine of_ite (fun _ => h) fun _ => ?_
    split
    · exact h.refused _ _
    · exact h.refused _ _
    · exact of_ite (fun _ => h.takeCustody _ _) fun _ => h
    · exact h

theorem takeArrive (src : Addr) (t : Tid) : (Station.takeArrive src t b).TransfersLawful := by
  refine h.onlyIf fun h => ?_
  split
  · exact h.of_ledger (by simp)
  · exact of_ite (fun _ => h.of_ledger (by simp)) fun _ => (h.of_ledger (b.sendXfer_ledger _ _)).closeSending _

theorem takeClose (src : Addr) (t : Tid) (x : Cart) (j : Option Job) :
    (Station.takeClose src t x j b).TransfersLawful := by
  refine h.onlyIf fun h => ?_
  split
  · next entry _ =>
    split
    · exact h.settleArrived _
    · have placed := b.placeFor_ledger entry
      split
      · next e =>
        refine h.of_ledger ((Station.modifyXfer_ledger _ _ ?_).trans ((Station.ledger_of_answer e).trans placed))
        exact fun _ => rfl
      · next e => exact (h.of_ledger ((Station.ledger_of_answer e).trans placed)).removeXfer _
    · exact h.settleArrived _
    · exact h
  · exact of_ite (fun claimed => h.closeClaim _ _ _ _ claimed) fun _ => h.of_ledger (by simp)

theorem takeWithdraw (src : Addr) (t : Tid) : (Station.takeWithdraw src t b).TransfersLawful := by
  refine h.onlyIf fun h => ?_
  dsimp only
  split
  · exact h
  · refine of_ite (fun _ => ?_) fun _ => h
    split
    · exact (h.of_ledger (b.freeSlot_ledger _ _)).removeXfer _
    · exact h.removeXfer _

theorem takeClaim (src : Addr) (x : Cart) : (Station.takeClaim src x b).TransfersLawful := by
  refine h.onlyIf fun h => ?_
  dsimp only
  split
  · exact h
  · exact ((h.of_ledger (b.sendXfer_ledger _ _)).closeSending _).onlyIf fun h => h.of_ledger (by simp)

theorem replyExpired (t : Tid) : (Station.replyExpired t b).TransfersLawful := by
  have moved (f : XferEntry → XferEntry) (hf : ∀ e, (f e).key = e.key) : (b.modifyXfer t f).ledger = b.ledger :=
    b.modifyXfer_ledger t hf
  unfold Station.replyExpired
  split
  · exact h
  · refine of_ite (fun _ => h) fun _ => of_ite (fun _ => of_ite (fun _ => ?_) fun _ => of_ite (fun _ => ?_) fun _ => ?_)
      fun _ => h
    · exact h.of_ledger ((Station.resend_ledger _ _).trans (moved _ fun _ => by rfl))
    · exact h.of_ledger ((Station.xferAlert_ledger _ _ _ _ _ _).trans (moved _ fun _ => by rfl))
    · exact (h.of_ledger (moved _ fun _ => by rfl)).takeCustody _ _

theorem claimExpired (x : Cart) : (Station.claimExpired x b).TransfersLawful := by
  have told : ((b.removeClaim x).xferAlert .strayArrival none x none).TransfersLawful :=
    (h.removeClaim x).of_ledger (by simp)
  refine of_ite (fun _ => ?_) fun _ => h
  dsimp only
  split
  · exact told
  · exact told.of_ledger rfl

/-! #### Reads of cartridges and of the slots -/

theorem onward (e : CustodyEntry) (d : Addr) : (b.onward e d).TransfersLawful := by
  have opened := h.openXfer .inbound e.cart e.job none (some e.cart) d
  unfold Station.onward
  split
  · next o => exact opened.of_ledger (by rw [o]; rfl)
  · next o => exact opened.of_ledger (by rw [o])

theorem returned (x : Cart) : (b.returned x).TransfersLawful := by
  have withdrawn (e : XferEntry) := h.withdrawSending e
  unfold Station.returned
  dsimp only
  split
  · exact (withdrawn _).of_ledger rfl
  · exact h.of_ledger rfl

theorem scanCustody (e : CustodyEntry) : (b.scanCustody e).TransfersLawful := by
  unfold Station.scanCustody
  split
  · exact h.of_ledger (by simp)
  · split
    · exact h.onward _ _
    · exact h
  · exact h.returned _
  · exact h

theorem innerScan (x : Cart) : (b.innerScan x).TransfersLawful := by
  unfold Station.innerScan
  split
  · exact h.of_ledger (by simp)
  · refine of_ite (fun _ => h) fun _ => ?_
    split
    · exact h.of_ledger (by simp)
    · split
      · exact h.scanCustody _
      · exact h.makeClaim _

theorem insertion (n : Nat) : (b.insertion n).TransfersLawful := by
  have read : (b.noticeDamage n).TransfersLawful := h.of_ledger (by simp)
  have written (r : Rec) : ((b.noticeDamage n).writeRecord n r).TransfersLawful := read.of_ledger (by simp)
  have inserted : ((b.noticeDamage n).insertionAt n).TransfersLawful := by
    unfold Station.insertionAt
    split
    · exact h.of_ledger (by simp)
    · exact (written _).xferReturned _
    · exact (written _).xferInserted _ _ _
    · exact (written _).xferInserted _ _ _
    · exact read.of_ledger (by simp)
    · exact read.of_ledger (by simp)
    · exact read
    · exact read
    · exact read
  exact inserted.of_ledger (Station.auditInserted_ledger _ _)

theorem readSlot (n : Nat) (r : Bool) : (b.readSlot n r).TransfersLawful := by
  unfold Station.readSlot
  refine of_ite (fun _ => h.of_ledger rfl) fun _ => ?_
  split
  · exact h.of_ledger (by simp)
  · have copied : ((b.modifySlot n fun s => { s with last := some r }).setDebounced n r).TransfersLawful :=
      h.of_ledger rfl
    exact of_ite (fun _ => copied.insertion n) fun _ => copied.of_ledger (by simp)

theorem presenceScanned (r : BitVec 256) : (b.presenceScanned r).TransfersLawful :=
  h.foldl (fun _ n h => h.readSlot n _) _

theorem departure (e : PullEntry) : (b.departure e).TransfersLawful := by
  have read : (b.noticeDamage e.slot).TransfersLawful := h.of_ledger (by simp)
  have opened := read.openXfer .outbound e.cart e.job (some e.slot) none e.hatch
  have lost : ((b.noticeDamage e.slot).cancelPulls fun x => decide (x.cart = e.cart)).TransfersLawful :=
    read.of_ledger (by simp)
  unfold Station.departure
  dsimp only
  split
  · split
    · split
      · next o => exact opened.of_ledger (by rw [o]; rfl)
      · next o => exact opened.of_ledger (by rw [o])
    · exact lost
  · exact lost

theorem checkStation (x : Cart) : (b.checkStation x).TransfersLawful := by
  have read : b.readAll.TransfersLawful := h.of_ledger (by simp)
  refine of_ite (fun _ => h.of_ledger (by simp)) fun _ => ?_
  split
  · exact h.departure _
  · split
    · exact h.of_ledger (by simp)
    · unfold Station.strangeScan
      dsimp only
      split
      · exact read.makeClaim _
      · exact read
      · exact read.of_ledger (by simp)
      · exact read.of_ledger (by simp)
      · exact read

/-! #### The line and the starts -/

/-- A message that its source lets pass is taken in by the block that owns it (R176). -/
theorem fromPeer (src : Addr) {f : Station → Station} (hf : b.TransfersLawful → (f b).TransfersLawful) :
    (Station.fromPeer src f b).TransfersLawful :=
  h.onlyIf fun h => of_ite (fun _ => h.of_ledger (by simp)) fun _ => h.onlyIf hf

theorem refreshed (src : Addr) {f : Station → Station}
    (hf : ∀ {s : Station}, s.TransfersLawful → (f s).TransfersLawful) :
    (Station.refreshed src f b).TransfersLawful := hf (h.of_ledger (b.modifyPeer_ledger src _))

theorem deliver (m : RxMsg) : (b.deliver m).TransfersLawful := by
  unfold Station.deliver
  split
  case h_5 => exact h.refreshed _ fun h => h.takeOffer _ _ _ _ _
  case h_7 => exact h.refreshed _ fun h => h.takeRefuse _ _ _
  case h_8 => exact h.refreshed _ fun h => h.takeArrive _ _
  case h_9 => exact h.refreshed _ fun h => h.takeClaim _ _
  case h_10 => exact h.refreshed _ fun h => h.takeClose _ _ _ _
  case h_11 => exact h.refreshed _ fun h => h.takeWithdraw _ _
  all_goals exact h.of_ledger (by simp)

theorem receive (bs : List Byte) : (b.receive bs).TransfersLawful := by
  refine of_ite (fun _ => h) fun _ => of_ite (fun _ => h.of_ledger rfl) fun _ => ?_
  split
  · exact h
  · next m _ =>
    have heard : (b.hear m).TransfersLawful := h.of_ledger rfl
    exact of_ite (fun _ => h.of_ledger (by simp)) fun _ => of_ite (fun _ => h) fun _ =>
      of_ite (fun _ => heard) fun _ => heard.deliver m

/-- A start keeps the table and empties the claim list (R146). -/
theorem beginStart (k : StartKind) : (b.beginStart k).TransfersLawful := by
  have same : (b.xfer.entries.map XferEntry.start).map XferEntry.key = b.xfer.entries.map XferEntry.key :=
    List.map_map
  refine h.of_fewer ?_ (List.nil_sublist _)
  change List.Sublist ((b.xfer.entries.map XferEntry.start).map XferEntry.key) _
  rw [same]
  exact .refl _

theorem releaseReset : b.releaseReset.TransfersLawful := by
  have released : (b.onLoader fun l => { l with resetAsserted := false }).TransfersLawful := h.of_ledger rfl
  exact released.onlyIf (f := (·.beginStart .resetLine)) fun h => h.beginStart _

theorem transmitted : b.transmitted.TransfersLawful := by
  unfold Station.transmitted
  split
  · exact of_ite (fun _ => h.beginStart _) fun _ => h.of_ledger (by simp)
  · exact h
  · exact h

theorem startLists : b.startLists.TransfersLawful := h.of_ledger rfl

theorem startBay : b.startBay.TransfersLawful := h.of_ledger b.startBay_ledger

/-- Retention lost empties the table, and SELFTEST's rules leave it (R186). -/
theorem settleRetention : b.settleRetention.TransfersLawful := by
  have fewer : (b.setXfers []).TransfersLawful := h.of_fewer (List.nil_sublist _) (.refl _)
  have emptied : b.emptyRetained.TransfersLawful := fewer.of_ledger (by simp [Station.emptyRetained]; rfl)
  have settled : (if b.retentionLost then b.emptyRetained else b).TransfersLawful :=
    of_ite (fun _ => emptied) fun _ => h
  exact settled.startLists.onlyIf fun h => h.startBay

theorem selftested (ok : Bool) : (b.selftested ok).TransfersLawful :=
  of_ite (fun _ => h.settleRetention.of_ledger (Station.enterListen_ledger _)) fun _ => h.of_ledger rfl

theorem powerUp (decay : List Decay) : (b.powerUp decay).TransfersLawful := by
  have decayed : (decay.foldl Station.decay b).TransfersLawful :=
    h.of_ledger (Station.foldl_ledger _ _ Station.decay_ledger)
  exact (decayed.of_ledger (c := (decay.foldl Station.decay b).onLoader _) rfl).beginStart _

theorem tick : b.tick.TransfersLawful := by
  refine h.of_ledger ?_
  simp [Station.ledger, Station.tick, Function.comp_def, XferEntry.key]

end Station.TransfersLawful

/-! ### Every command (R125) -/

open Station in
theorem exec_transfersLawful (c : Instr) {s : Machine.State} (h : s.station.TransfersLawful) :
    ∃ st : Station, Machine.exec c s = .next (s.put st) ∧ st.TransfersLawful := by
  cases c with
  | powerUp decay => exact ⟨_, rfl, h.powerUp decay⟩
  | resetLineRelease => exact ⟨_, rfl, h.releaseReset⟩
  | selftestComplete ok => exact ⟨_, rfl, h.onlyIf fun h => h.selftested ok⟩
  | restartTimerExpiry => exact ⟨_, rfl, h.onlyIf fun h => h.beginStart _⟩
  | restartStart => exact ⟨_, rfl, h.onlyIf fun h => h.beginStart _⟩
  | captureComplete event => cases event <;> exact ⟨_, rfl, h.of_ledger (by simp)⟩
  | loopSample n event => cases event <;> exact ⟨_, rfl, h.of_ledger (by simp)⟩
  | temperatureCode event => cases event <;> exact ⟨_, rfl, h.of_ledger (by simp)⟩
  | batteryCode event => cases event <;> exact ⟨_, rfl, h.of_ledger (by simp)⟩
  | endSwitchClose sw =>
    refine ⟨_, rfl, (h.of_ledger (Station.onPins_ledger _ _)).onlyIf fun h => ?_⟩
    split <;> exact h.of_ledger (by simp)
  | endSwitchOpen sw =>
    refine ⟨_, rfl, (h.of_ledger (Station.onPins_ledger _ _)).onlyIf fun h => ?_⟩
    split <;> exact h.of_ledger (by simp)
  | holdSwitchChange event => cases event <;> exact ⟨_, rfl, h.of_ledger (by simp)⟩
  | presenceScan event =>
    cases event with
    | level readings => exact ⟨_, rfl, h.of_ledger (by simp)⟩
    | scan readings =>
      exact ⟨_, rfl, h.onlyIf fun h => (h.of_ledger (by simp)).presenceScanned readings⟩
  | keySwitchChange event => cases event <;> exact ⟨_, rfl, h.of_ledger (by simp)⟩
  | checkStationScan cls n => exact ⟨_, rfl, h.onlyIf fun h => h.checkStation n⟩
  | offer src t c j d =>
    exact ⟨_, rfl, h.fromPeer src fun h => h.refreshed src fun h => h.takeOffer src t c j d⟩
  | refuse src t r => exact ⟨_, rfl, h.fromPeer src fun h => h.refreshed src fun h => h.takeRefuse src t r⟩
  | arrive src t => exact ⟨_, rfl, h.fromPeer src fun h => h.refreshed src fun h => h.takeArrive src t⟩
  | close src t c j =>
    exact ⟨_, rfl, h.fromPeer src fun h => h.refreshed src fun h => h.takeClose src t c j⟩
  | withdraw src t => exact ⟨_, rfl, h.fromPeer src fun h => h.refreshed src fun h => h.takeWithdraw src t⟩
  | claim src c => exact ⟨_, rfl, h.fromPeer src fun h => h.refreshed src fun h => h.takeClaim src c⟩
  | replyTimerExpiry t => exact ⟨_, rfl, h.onlyIf fun h => h.replyExpired t⟩
  | claimTimerExpiry c => exact ⟨_, rfl, h.onlyIf fun h => h.claimExpired c⟩
  | innerRead cls n => exact ⟨_, rfl, h.onlyIf fun h => h.innerScan n⟩
  | frameReceive bs => exact ⟨_, rfl, h.onlyIf fun h => h.receive bs⟩
  | transmitSuccess => exact ⟨_, rfl, h.onlyIf fun h => h.transmitted⟩
  | sendPress event => cases event <;> exact ⟨_, rfl, h.of_ledger (by simp)⟩
  | donePress event => cases event <;> exact ⟨_, rfl, h.of_ledger (by simp)⟩
  | _ => exact ⟨_, rfl, h.of_ledger (by simp)⟩

/-- Settles O40: every command keeps the law, and so does a tick. -/
theorem transfersStayLawful : Obligations.TransfersStayLawful := by
  intro s t h stepped
  unfold Machine.step at stepped
  split at stepped
  · next c rest _ =>
    obtain ⟨st, next, lawful⟩ := exec_transfersLawful c (s := { s with pending := rest }) h
    rw [next] at stepped
    cases stepped
    exact lawful
  · cases stepped
    unfold Machine.State.idle
    split
    · split
      · exact h
      · exact h.tick
    · exact h

end Sys2Proof
end

section
/-! SUPPORT. Entries of the transfer table by their transfer id, the messages of the transfer engine at a station that
hears their source, and ACCEPT and REFUSE (R131, R136). -/

namespace Sys2Proof

/-! ### The table by transfer id -/

section
variable {st : Station} {t : Tid} {front rest : List XferEntry} {e : XferEntry}
  (entries : st.xfer.entries = front ++ e :: rest) (id : e.tid = t) (other : ∀ x ∈ front ++ rest, x.tid ≠ t)
include entries id other

theorem Station.xferById_split : st.xferById t = some e := by
  unfold Station.xferById
  rw [entries, List.find?_append,
    List.find?_eq_none.mpr fun x hx => by simpa using other x (List.mem_append_left _ hx), Option.none_or]
  exact List.find?_cons_of_pos (decide_eq_true id)

theorem Station.sendingById_split (sending : e.state.receiving = false) : st.sendingById t = some e := by
  unfold Station.sendingById
  rw [entries, List.find?_append,
    List.find?_eq_none.mpr fun x hx => by simp [other x (List.mem_append_left _ hx)], Option.none_or]
  exact List.find?_cons_of_pos (by simp [id, sending])

/-- The entry of an id rewritten in its place, the table's check renewed. -/
theorem Station.modifyXfer_split (f : XferEntry → XferEntry) : st.modifyXfer t f =
    { st with xfer := { st.xfer with entries := front ++ f e :: rest, check := 0 } } := by
  have before : front.map (fun x => if x.tid = t then f x else x) = front :=
    (List.map_congr_left fun x hx => if_neg (other x (List.mem_append_left _ hx))).trans (List.map_id _)
  have behind : rest.map (fun x => if x.tid = t then f x else x) = rest :=
    (List.map_congr_left fun x hx => if_neg (other x (List.mem_append_right _ hx))).trans (List.map_id _)
  unfold Station.modifyXfer
  rw [entries, List.map_append, List.map_cons, before, behind, if_pos id]
  rfl

end

/-! ### Messages taken in -/

section
variable (s : Machine.State) {src : Addr} (heard : s.station.hearsPeer src)
include heard

theorem exec_accept (t : Tid) (slot : Option Byte) : Machine.exec (.accept src t slot) s
    = .next (s.put (Station.takeAccept src t slot (s.station.modifyPeer src Peer.refresh))) :=
  s.next_put (Station.fromPeer_heard _ heard)

theorem exec_refuse (t : Tid) (reason : Byte) : Machine.exec (.refuse src t reason) s
    = .next (s.put (Station.takeRefuse src t reason (s.station.modifyPeer src Peer.refresh))) :=
  s.next_put (Station.fromPeer_heard _ heard)

end

/-! ### ACCEPT (R131) -/

section
variable {st : Station} {src : Addr} {t : Tid} (slot : Option Byte)

theorem Station.takeAccept_away (h : st.joined = false) : Station.takeAccept src t slot st = st :=
  Station.onlyIf_of_false _ h

variable (joined : st.joined = true)
include joined

theorem Station.takeAccept_unknown (h : st.sendingById t = none) :
    Station.takeAccept src t slot st = st.hand .transfers src (.withdraw t) := by
  unfold Station.takeAccept
  rw [Station.onlyIf_of_true _ joined, h]
  rfl

variable {e : XferEntry} (found : st.sendingById t = some e)
include found

theorem Station.takeAccept_stranger (h : e.peer ≠ src) : Station.takeAccept src t slot st = st := by
  unfold Station.takeAccept
  rw [Station.onlyIf_of_true _ joined, found]
  exact if_pos h

variable (peer : e.peer = src)
include peer

theorem Station.takeAccept_open (h : e.state = .offered ∨ e.state = .unanswered) :
    Station.takeAccept src t slot st
      = st.modifyXfer t fun x => { x with state := .accepted, acceptedSlot := slot, reply := none } := by
  unfold Station.takeAccept
  rw [Station.onlyIf_of_true _ joined, found]
  dsimp only
  rw [if_neg (not_not.mpr peer)]
  rcases h with h | h <;> rw [h]

theorem Station.takeAccept_late (h : e.state = .accepted ∨ e.state = .lapsed) :
    Station.takeAccept src t slot st = st := by
  unfold Station.takeAccept
  rw [Station.onlyIf_of_true _ joined, found]
  dsimp only
  rw [if_neg (not_not.mpr peer)]
  rcases h with h | h <;> rw [h]

theorem Station.takeAccept_refused (h : e.state = .refused) :
    Station.takeAccept src t slot st = st.hand .transfers src (.withdraw t) := by
  unfold Station.takeAccept
  rw [Station.onlyIf_of_true _ joined, found]
  dsimp only
  rw [if_neg (not_not.mpr peer), h, peer]
  rfl

end

/-! ### REFUSE (R131, R136) -/

/-- The reason that the alert of a REFUSE carries. -/
theorem Reason.code_ofCode (c : Byte) : (Reason.ofCode c).code = if c.toNat ≤ 5 then c else 5 := by
  have byte {v : Byte} (h : c.toNat = v.toNat) (small : v.toNat ≤ 5) : v = if c.toNat ≤ 5 then c else 5 := by
    rw [if_pos (h ▸ small), BitVec.eq_of_toNat_eq h]
  unfold Reason.ofCode
  split
  · next h => exact byte (v := 0) h (by decide)
  · next h => exact byte (v := 1) h (by decide)
  · next h => exact byte (v := 2) h (by decide)
  · next h => exact byte (v := 3) h (by decide)
  · next h => exact byte (v := 4) h (by decide)
  · next zero one two three four =>
    by_cases five : c.toNat = 5
    · exact byte (v := 5) five (by decide)
    · have large : ¬c.toNat ≤ 5 := by
        simp only [imp_false] at zero one two three four
        omega
      rw [if_neg large]
      rfl

theorem Reason.code_eq_five_iff {r : Reason} : r.code = 5 ↔ r = .unknown := by
  cases r <;> decide

section
variable {st : Station} {src : Addr} {t : Tid} (reason : Byte)

theorem Station.takeRefuse_away (h : st.joined = false) : Station.takeRefuse src t reason st = st :=
  Station.onlyIf_of_false _ h

section
variable (joined : st.joined = true)
include joined

theorem Station.takeRefuse_unknown (h : st.xferById t = none) : Station.takeRefuse src t reason st = st := by
  unfold Station.takeRefuse
  rw [Station.onlyIf_of_true _ joined, h]

variable {e : XferEntry} (found : st.xferById t = some e)
include found

theorem Station.takeRefuse_stranger (h : e.peer ≠ src) : Station.takeRefuse src t reason st = st := by
  unfold Station.takeRefuse
  rw [Station.onlyIf_of_true _ joined, found]
  exact if_pos h

variable (peer : e.peer = src)
include peer

theorem Station.takeRefuse_open (h : e.state = .offered ∨ e.state = .unanswered) :
    Station.takeRefuse src t reason st = st.refused e (Reason.ofCode reason) := by
  unfold Station.takeRefuse
  rw [Station.onlyIf_of_true _ joined, found]
  dsimp only
  rw [if_neg (not_not.mpr peer)]
  rcases h with h | h <;> rw [h]

/-- REFUSE UNKNOWN ends the resends of an ARRIVE (R136). -/
theorem Station.takeRefuse_arrived (h : e.state = .arrived) : Station.takeRefuse src t reason st =
    if (Reason.ofCode reason).code = 5 then st.takeCustody e (some .unknown) else st := by
  unfold Station.takeRefuse
  rw [Station.onlyIf_of_true _ joined, found]
  dsimp only
  rw [if_neg (not_not.mpr peer), h]
  simp only [Reason.code_eq_five_iff]

theorem Station.takeRefuse_settled (offered : e.state ≠ .offered) (unanswered : e.state ≠ .unanswered)
    (arrived : e.state ≠ .arrived) : Station.takeRefuse src t reason st = st := by
  unfold Station.takeRefuse
  rw [Station.onlyIf_of_true _ joined, found]
  dsimp only
  rw [if_neg (not_not.mpr peer)]
  split
  · next h => exact absurd h offered
  · next h => exact absurd h unanswered
  · next h => exact absurd h arrived
  · rfl

end

variable (e : XferEntry) (r : Reason)

/-- The entry REFUSED with its timers stopped, and its alert (R131). -/
def Station.refusedAlert (st : Station) (e : XferEntry) (r : Reason) : Station :=
  (st.modifyXfer e.tid fun x => { x with state := .refused, transit := .stopped, reply := none }).xferAlert
    .unanswered e.slot e.cart (some e.tid) (some r)

theorem Station.refusedAlert_role : (st.refusedAlert e r).cfg.role = st.cfg.role :=
  congrArg (fun l => l.cfg.role) (Station.hand_loader _ _ _ _)

theorem Station.refused_bay {n : Nat} (bay : st.cfg.role = .bay) (slot : e.slot = some n) :
    st.refused e r = (st.refusedAlert e r).askLamp n .flashing := by
  have role := (st.refusedAlert_role e r).trans bay
  unfold Station.refused
  unfold Station.refusedAlert at role ⊢
  dsimp only
  rw [role, slot]

theorem Station.refused_hatch (hatch : st.cfg.role = .hatch) : st.refused e r =
    ((st.refusedAlert e r).removeXfer e.tid).setCustody (st.hatch.custody.map fun x =>
      if x.cart = e.cart ∧ x.state = .outgoing then { x with state := .heldInbound } else x) := by
  have role := (st.refusedAlert_role e r).trans hatch
  have same : (st.refusedAlert e r).hatch = st.hatch := Station.hand_hatch _ _ _ _
  have returns : st.refused e r = ((st.refusedAlert e r).removeXfer e.tid).returnOutgoing e.cart := by
    unfold Station.refused
    unfold Station.refusedAlert at role ⊢
    dsimp only
    rw [role]
  rw [returns, ← same]
  rfl

theorem Station.refusedAlert_split {front rest : List XferEntry} {e : XferEntry}
    (entries : st.xfer.entries = front ++ e :: rest) (other : ∀ x ∈ front ++ rest, x.tid ≠ e.tid) (r : Reason) :
    st.refusedAlert e r =
      ({ st with
          xfer := { st.xfer with
            check := 0
            entries := front ++ { e with state := .refused, transit := .stopped, reply := none } :: rest } } :
        Station).engineAlert 7 e.slot e.cart (some e.tid) (some r.code) :=
  congrArg (fun x : Station => x.engineAlert 7 e.slot e.cart (some e.tid) (some r.code))
    (Station.modifyXfer_split entries rfl other _)

/-- Settles O36: the rows of R131 and R136 by the entry's state, at the station with the sender's record refreshed. -/
theorem acceptRefuseTable : Obligations.AcceptRefuseTable := by
  intro s src t slot reason hears
  let heard := s.station.modifyPeer src Peer.refresh
  have accepts {x : Station} (h : Station.takeAccept src t slot heard = x) :
      Machine.exec (.accept src t slot) s = .next (s.put x) := (exec_accept s hears t slot).trans (s.next_put h)
  have refuses {x : Station} (h : Station.takeRefuse src t reason heard = x) :
      Machine.exec (.refuse src t reason) s = .next (s.put x) := (exec_refuse s hears t reason).trans (s.next_put h)
  rw [← Reason.code_ofCode]
  refine ⟨fun away => ⟨accepts (Station.takeAccept_away slot away), refuses (Station.takeRefuse_away reason away)⟩,
    fun joined => ⟨fun receiving => ?_, fun unknown => ?_, fun front rest e entries id other => ?_⟩⟩
  · refine accepts (Station.takeAccept_unknown slot joined (List.find?_eq_none.mpr fun e he => ?_))
    simpa using receiving e he
  · refine refuses (Station.takeRefuse_unknown reason joined (List.find?_eq_none.mpr fun e he => ?_))
    simpa using unknown e he
  subst id
  replace joined : heard.joined = true := joined
  have found : heard.xferById e.tid = some e := Station.xferById_split entries rfl other
  have sends : e.state.receiving = false → heard.sendingById e.tid = some e :=
    Station.sendingById_split entries rfl other
  have becomes (f : XferEntry → XferEntry) := Station.modifyXfer_split (st := heard) entries rfl other f
  have alerted := Station.refusedAlert_split (st := heard) entries other (Reason.ofCode reason)
  refine ⟨fun stranger => ⟨fun sending => accepts (Station.takeAccept_stranger slot joined (sends sending) stranger),
      refuses (Station.takeRefuse_stranger reason joined found stranger)⟩,
    fun peer => ⟨fun awaits => ?_, fun late => ?_, fun refused => ?_, fun waits => ?_, fun arrived => ?_⟩⟩
  · have sending : e.state.receiving = false := by rcases awaits with h | h <;> rw [h] <;> rfl
    have refusal := Station.takeRefuse_open reason joined found peer awaits
    refine ⟨accepts ((Station.takeAccept_open slot joined (sends sending) peer awaits).trans (becomes _)),
      fun n bay at_ => refuses ?_, fun hatch => refuses ?_⟩
    · rw [refusal, Station.refused_bay (st := heard) e _ bay at_, alerted]
    · rw [refusal, Station.refused_hatch (st := heard) e _ hatch, alerted]
      rfl
  · have sending : e.state.receiving = false := by rcases late with h | h <;> rw [h] <;> rfl
    refine ⟨accepts (Station.takeAccept_late slot joined (sends sending) peer late),
      refuses (Station.takeRefuse_settled reason joined found peer ?_ ?_ ?_)⟩ <;>
    rcases late with h | h <;> simp [h]
  · have sending : e.state.receiving = false := by rw [refused]; rfl
    exact ⟨accepts (Station.takeAccept_refused slot joined (sends sending) peer refused),
      refuses (Station.takeRefuse_settled reason joined found peer (by simp [refused]) (by simp [refused])
        (by simp [refused]))⟩
  · refine refuses (Station.takeRefuse_settled reason joined found peer ?_ ?_ ?_) <;>
    rcases waits with h | h <;> simp [h]
  · have refusal := Station.takeRefuse_arrived reason joined found peer arrived
    exact ⟨fun other => refuses (refusal.trans (if_neg other)), fun unknown => refuses (refusal.trans (if_pos unknown))⟩

end

end Sys2Proof
end

section
/-! SUPPORT. The writes of R94 at the slot that a transfer names, and the closing of a transfer by its sender (R134,
R142). -/

namespace Sys2Proof

/-! ### The writes at a transfer's slot (R94, R127) -/

/-- A record that is read as it stands is sound. -/
theorem Slot.view_eq_iff {sl : Slot} {r : Rec} (settled : r ≠ .unsettled) (known : r ≠ .unknown) :
    sl.view = r ↔ sl.difference = 0 ∧ sl.record = r := by
  constructor
  · intro view
    have sound : sl.difference = 0 := by
      by_contra damaged
      exact known (view.symm.trans (Slot.view_of_damaged damaged))
    refine ⟨sound, ?_⟩
    by_cases unsettled : sl.record = .unsettled
    · refine absurd (view.symm.trans ?_) known
      simp [Slot.view, Slot.sound, sound, unsettled]
    · rw [← view, Slot.view_of_sound sound unsettled]
  · rintro ⟨sound, rfl⟩
    exact Slot.view_of_sound sound settled

section
variable {st : Station} {n : Nat} {sl : Slot} {t : Tid} (here : st.table.slots[n]? = some sl)
include here

section
variable (known : sl.difference = 0 ∨ sl.damage ≠ .none)
include known

/-- A close-out write that does not find the transfer's DEPARTING record is not made. -/
theorem Station.closeOutWrite_other (other : ∀ d, sl.view ≠ .departing d t) : st.closeOutWrite n t = st := by
  unfold Station.closeOutWrite
  rw [Station.noticeDamage_of_known here known]
  dsimp only
  rw [Station.slot_eq here]
  split
  · next d u view => exact if_neg fun same => other d (by rw [view, same])
  · rfl

theorem Station.placeWrite_other (other : ∀ d, sl.view ≠ .reserved d t) : st.placeWrite n t = (st, false) := by
  unfold Station.placeWrite
  rw [Station.noticeDamage_of_known here known]
  dsimp only
  rw [Station.slot_eq here]
  split
  · next d u view => exact if_neg fun same => other d (by rw [view, same])
  · rfl

theorem Station.freeWrite_other (other : ∀ d, sl.view ≠ .reserved d t) : st.freeWrite n t = (st, false) := by
  unfold Station.freeWrite
  rw [Station.noticeDamage_of_known here known]
  dsimp only
  rw [Station.slot_eq here]
  split
  · next d u view => exact if_neg fun same => other d (by rw [view, same])
  · rfl

end

section
variable (sound : sl.difference = 0) {d : CartData} (unpulled : ∀ x ∈ st.pulls.entries, x.slot ≠ n)
include sound unpulled

theorem Station.closeOutWrite_made (departing : sl.record = .departing d t) :
    st.closeOutWrite n t = st.withRecord n .vacant := by
  have view : sl.view = .departing d t := (Slot.view_eq_iff (by simp) (by simp)).mpr ⟨sound, departing⟩
  unfold Station.closeOutWrite
  rw [Station.noticeDamage_of_known here (.inl sound)]
  dsimp only
  rw [Station.slot_eq here, view]
  exact (if_pos rfl).trans (Station.writeRecord_of_unpulled _ unpulled)

variable (reserved : sl.record = .reserved d t)
include reserved

theorem Station.placeWrite_made : st.placeWrite n t = (st.withRecord n (.placing d t), true) := by
  have view : sl.view = .reserved d t := (Slot.view_eq_iff (by simp) (by simp)).mpr ⟨sound, reserved⟩
  unfold Station.placeWrite
  rw [Station.noticeDamage_of_known here (.inl sound)]
  dsimp only
  rw [Station.slot_eq here, view, ← Station.writeRecord_of_unpulled _ unpulled]
  exact if_pos rfl

theorem Station.freeWrite_made : st.freeWrite n t = (st.withRecord n .vacant, true) := by
  have view : sl.view = .reserved d t := (Slot.view_eq_iff (by simp) (by simp)).mpr ⟨sound, reserved⟩
  unfold Station.freeWrite
  rw [Station.noticeDamage_of_known here (.inl sound)]
  dsimp only
  rw [Station.slot_eq here, view, ← Station.writeRecord_of_unpulled _ unpulled]
  exact if_pos rfl

end

end

/-! ### A sending entry closed (R134) -/

/-- LAPSE-RESOLVED after the closing of a LAPSED entry. -/
def Station.lapseResolved (st : Station) (e : XferEntry) : Station :=
  if e.state = .lapsed then st.engineAlert 9 e.slot e.cart (some e.tid) none else st

theorem Station.onlyIf_lapsed (st : Station) (e : XferEntry) : st.onlyIf (decide (e.state = .lapsed))
    (fun x => x.xferAlert .lapseResolved e.slot e.cart (some e.tid)) = st.lapseResolved e := by
  unfold Station.lapseResolved
  split
  · next lapsed => exact Station.onlyIf_of_true _ (decide_eq_true lapsed)
  · next other => exact Station.onlyIf_of_false _ (decide_eq_false other)

section
variable {st : Station} {e : XferEntry}

theorem Station.closeSending_hatch (hatch : st.cfg.role = .hatch) :
    st.closeSending e = ((st.dropOutgoing e.cart).removeXfer e.tid).lapseResolved e := by
  unfold Station.closeSending
  rw [hatch]
  exact Station.onlyIf_lapsed _ e

theorem Station.closeSending_bay {n : Nat} (bay : st.cfg.role = .bay) (slot : e.slot = some n) :
    st.closeSending e = (((st.closeOutWrite n e.tid).askLamp n .off).removeXfer e.tid).lapseResolved e := by
  rw [← Station.onlyIf_lapsed]
  unfold Station.closeSending
  rw [bay, slot]

end

/-! ### ARRIVE (R134) and CLAIM (R142) -/

section
variable (s : Machine.State) {src : Addr} (heard : s.station.hearsPeer src)
include heard

theorem exec_arrive (t : Tid) : Machine.exec (.arrive src t) s
    = .next (s.put (Station.takeArrive src t (s.station.modifyPeer src Peer.refresh))) :=
  s.next_put (Station.fromPeer_heard _ heard)

theorem exec_claim (c : Cart) : Machine.exec (.claim src c) s
    = .next (s.put (Station.takeClaim src c (s.station.modifyPeer src Peer.refresh))) :=
  s.next_put (Station.fromPeer_heard _ heard)

end

section
variable {st : Station} {src : Addr}

theorem Station.takeArrive_away {t : Tid} (h : st.joined = false) : Station.takeArrive src t st = st :=
  Station.onlyIf_of_false _ h

theorem Station.takeArrive_unknown {t : Tid} (joined : st.joined = true)
    (h : ∀ e, st.sendingById t = some e → e.peer ≠ src) :
    Station.takeArrive src t st = st.hand .transfers src (.refuse t 5) := by
  unfold Station.takeArrive
  rw [Station.onlyIf_of_true _ joined]
  split
  · rfl
  · next e found => exact if_pos (h e found)

theorem Station.takeArrive_known {t : Tid} {e : XferEntry} (joined : st.joined = true)
    (found : st.sendingById t = some e) (peer : e.peer = src) :
    Station.takeArrive src t st = (st.hand .transfers src (.close t e.cart none)).closeSending e := by
  unfold Station.takeArrive
  rw [Station.onlyIf_of_true _ joined, found]
  exact if_neg (not_not.mpr peer)

theorem Station.takeClaim_away {c : Cart} (h : st.joined = false) : Station.takeClaim src c st = st :=
  Station.onlyIf_of_false _ h

theorem Station.takeClaim_none {c : Cart} (h : ∀ e ∈ st.xfer.entries, e.cart = c → e.state.receiving = true) :
    Station.takeClaim src c st = st := by
  have none : (st.xfer.entries.find? fun e => decide (e.cart = c) && !e.state.receiving) = none :=
    List.find?_eq_none.mpr fun e he => by simpa using h e he
  refine Station.onlyIf_keeps (P := fun x => x = st) rfl fun _ => ?_
  rw [none]

/-- A claim for a cartridge under a sending entry is answered CLOSE, the sender's peer told where it is another. -/
theorem Station.takeClaim_split {c : Cart} {front rest : List XferEntry} {e : XferEntry} (joined : st.joined = true)
    (entries : st.xfer.entries = front ++ e :: rest) (cart : e.cart = c) (sending : e.state.receiving = false)
    (other : ∀ x ∈ front, x.cart ≠ c) : Station.takeClaim src c st =
      ((st.hand .transfers src (.close e.tid c (some e.job))).closeSending e).onlyIf
        (decide (src ≠ e.peer) && decide (e.state ≠ .refused)) fun x => x.hand .transfers e.peer (.withdraw e.tid) := by
  have found : (st.xfer.entries.find? fun e => decide (e.cart = c) && !e.state.receiving) = some e := by
    rw [entries, List.find?_append, List.find?_eq_none.mpr fun x hx => by simp [other x hx], Option.none_or]
    exact List.find?_cons_of_pos (by simp [cart, sending])
  unfold Station.takeClaim
  rw [Station.onlyIf_of_true _ joined, found]
  rfl

end

/-- Settles O37: the closing of a sending entry by role and record, then ARRIVE and CLAIM. -/
theorem senderClosesTransfer : Obligations.SenderClosesTransfer := by
  refine ⟨fun st e => ⟨fun hatch => Station.closeSending_hatch hatch, fun n sl c bay slot here sound unpulled =>
    ⟨fun departing => ?_, fun other => ?_⟩⟩, fun s src hears => ⟨fun t => ?_, fun c => ?_⟩⟩
  · rw [Station.closeSending_bay bay slot, Station.closeOutWrite_made here sound unpulled departing]
    rfl
  · rw [Station.closeSending_bay bay slot, Station.closeOutWrite_other here (.inl sound) fun d view =>
      other d ((Slot.view_eq_iff (by simp) (by simp)).mp view).2]
    rfl
  · have arrives := exec_arrive s hears t
    refine ⟨fun away => arrives.trans (s.next_put (Station.takeArrive_away away)), fun joined =>
      ⟨fun unknown => ?_, fun e found peer => ?_⟩⟩
    · exact arrives.trans (s.next_put (Station.takeArrive_unknown joined unknown))
    · exact arrives.trans (s.next_put (Station.takeArrive_known joined found peer))
  · have claims := exec_claim s hears c
    refine ⟨fun away => claims.trans (s.next_put (Station.takeClaim_away away)), fun receiving =>
      claims.trans (s.next_put (Station.takeClaim_none receiving)), fun front rest e joined entries cart sending
        other => ?_⟩
    have closes := Station.takeClaim_split (st := s.station.modifyPeer src Peer.refresh) (src := src) joined entries
      cart sending other
    refine ⟨fun quiet => claims.trans (s.next_put (closes.trans (Station.onlyIf_of_false _ ?_))), fun stranger live =>
      claims.trans (s.next_put (closes.trans (Station.onlyIf_of_true _ ?_)))⟩
    · rcases quiet with peer | refused
      · simp [peer]
      · simp [refused]
    · simp [stranger, live]

end Sys2Proof
end

section
/-! SUPPORT. The closing of a transfer by its receiver (R133, R135), and CLOSE with the end of a claim (R142). -/

namespace Sys2Proof

/-! ### A receiving entry settled (R133, R135) -/

section
variable {st : Station} {e : XferEntry}

theorem Station.settleArrived_hatch (hatch : st.cfg.role = .hatch) :
    st.settleArrived e = (st.removeXfer e.tid).toHatchOutbound e.cart e.job := by
  unfold Station.settleArrived
  rw [hatch]

section
variable {n : Nat} {sl : Slot} (bay : st.cfg.role = .bay) (slot : e.slot = some n)
  (here : st.table.slots[n]? = some sl) (known : sl.difference = 0 ∨ sl.damage ≠ .none)
include bay slot here known

theorem Station.settleArrived_filed {c : CartData} (filed : sl.view = .filed c) (cart : c.id = e.cart) :
    st.settleArrived e = st.removeXfer e.tid := by
  unfold Station.settleArrived Station.settleAtSlot
  rw [bay, slot]
  dsimp only
  rw [Station.noticeDamage_of_known here known, Station.slot_eq here, filed]
  exact if_pos cart

theorem Station.settleArrived_placing {c : CartData} {t : Tid} (placing : sl.view = .placing c t) :
    st.settleArrived e = st.modifyXfer e.tid fun x => { x with state := .placing, reply := none } := by
  unfold Station.settleArrived Station.settleAtSlot
  rw [bay, slot]
  dsimp only
  rw [Station.noticeDamage_of_known here known, Station.slot_eq here, placing]

/-- At any other record the slot is given up. -/
theorem Station.settleArrived_other (unfiled : ∀ c, sl.view = .filed c → c.id ≠ e.cart)
    (unplaced : ∀ c t, sl.view ≠ .placing c t) :
    st.settleArrived e = (st.askLamp n .off).removeXfer e.tid := by
  unfold Station.settleArrived Station.settleAtSlot
  rw [bay, slot]
  dsimp only
  rw [Station.noticeDamage_of_known here known, Station.slot_eq here]
  split
  · next c filed => exact if_neg (unfiled c filed)
  · next c t placing => exact absurd placing (unplaced c t)
  · rfl

end

/-! ### The place write for an entry's slot (R127) -/

section
variable {n : Nat} {sl : Slot} (slot : e.slot = some n) (here : st.table.slots[n]? = some sl)
include slot here

theorem Station.placeFor_made {d : CartData} (sound : sl.difference = 0) (reserved : sl.record = .reserved d e.tid)
    (unpulled : ∀ x ∈ st.pulls.entries, x.slot ≠ n) :
    st.placeFor e = ((st.withRecord n (.placing d e.tid)).askLamp n .on, true) := by
  unfold Station.placeFor
  rw [slot]
  dsimp only
  rw [Station.placeWrite_made here sound unpulled reserved]

theorem Station.placeFor_other (known : sl.difference = 0 ∨ sl.damage ≠ .none)
    (other : ∀ d, sl.view ≠ .reserved d e.tid) :
    st.placeFor e = (st.engineAlert 10 none e.cart (some e.tid) none, false) := by
  unfold Station.placeFor
  rw [slot]
  dsimp only
  rw [Station.placeWrite_other here known other]
  rfl

end

end

/-! ### CLOSE at a receiving entry (R135) -/

section
variable (s : Machine.State) {src : Addr} (heard : s.station.hearsPeer src)
include heard

theorem exec_close (t : Tid) (c : Cart) (job : Option Job) : Machine.exec (.close src t c job) s
    = .next (s.put (Station.takeClose src t c job (s.station.modifyPeer src Peer.refresh))) :=
  s.next_put (Station.fromPeer_heard _ heard)

end

/-- A receiving entry that a message names by id and source has that id. -/
theorem Station.receivingById_tid {st : Station} {t : Tid} {src : Addr} {e : XferEntry}
    (h : st.receivingById t src = some e) : e.tid = t := by
  have hit := List.find?_some h
  simp only [Bool.and_eq_true, decide_eq_true_eq] at hit
  obtain ⟨⟨id, -⟩, -⟩ := hit
  exact id

section
variable {st : Station} {src : Addr} {t : Tid} {c : Cart} {job : Option Job}

theorem Station.takeClose_away (h : st.joined = false) : Station.takeClose src t c job st = st :=
  Station.onlyIf_of_false _ h

variable (joined : st.joined = true)
include joined

section
variable {e : XferEntry} (found : st.receivingById t src = some e)
include found

theorem Station.takeClose_placing (h : e.state = .placing) : Station.takeClose src t c job st = st := by
  unfold Station.takeClose
  rw [Station.onlyIf_of_true _ joined, found]
  dsimp only
  rw [h]

theorem Station.takeClose_arrived (h : e.state = .arrived) :
    Station.takeClose src t c job st = st.settleArrived e := by
  unfold Station.takeClose
  rw [Station.onlyIf_of_true _ joined, found]
  dsimp only
  rw [h]

variable (expected : e.state = .expected)
include expected

theorem Station.takeClose_hatch (hatch : st.cfg.role = .hatch) :
    Station.takeClose src t c job st = st.settleArrived e := by
  unfold Station.takeClose
  rw [Station.onlyIf_of_true _ joined, found]
  dsimp only
  rw [expected, hatch]

variable (bay : st.cfg.role = .bay) {x : Station}
include bay

theorem Station.takeClose_placed (placed : st.placeFor e = (x, true)) : Station.takeClose src t c job st
    = x.modifyXfer t fun y => { y with state := .placing, reply := none } := by
  unfold Station.takeClose
  rw [Station.onlyIf_of_true _ joined, found]
  dsimp only
  rw [expected, bay]
  dsimp only
  rw [placed]

theorem Station.takeClose_unplaced (unplaced : st.placeFor e = (x, false)) :
    Station.takeClose src t c job st = x.removeXfer t := by
  unfold Station.takeClose
  rw [Station.onlyIf_of_true _ joined, found]
  dsimp only
  rw [expected, bay]
  dsimp only
  rw [unplaced]

end

/-! ### CLOSE without an entry (R142) -/

variable (unmatched : st.receivingById t src = none)
include unmatched

theorem Station.takeClose_unknown (unclaimed : ∀ k ∈ st.xfer.claims, k.cart ≠ c) :
    Station.takeClose src t c job st = st.hand .transfers src (.refuse t 5) := by
  unfold Station.takeClose
  rw [Station.onlyIf_of_true _ joined, unmatched]
  refine if_neg ?_
  rw [Station.claimed_iff]
  rintro ⟨k, hk, same⟩
  exact unclaimed k hk same

variable {k : Claim} (stands : k ∈ st.xfer.claims) (cart : k.cart = c)
include stands cart

theorem Station.takeClose_claimed : Station.takeClose src t c job st = Station.closeClaim src t c job st := by
  unfold Station.takeClose
  rw [Station.onlyIf_of_true _ joined, unmatched]
  exact if_pos (Station.claimed_iff.mpr ⟨k, stands, cart⟩)

theorem Station.takeClose_claimed_hatch (hatch : st.cfg.role = .hatch) : Station.takeClose src t c job st
    = (st.removeClaim c).toHatchOutbound c (job.getD (Config.jobNotCarried t c)) := by
  have role : (st.removeClaim c).cfg.role = .hatch := hatch
  rw [Station.takeClose_claimed joined unmatched stands cart]
  unfold Station.closeClaim
  dsimp only
  rw [role]

theorem Station.takeClose_claimed_bay (bay : st.cfg.role = .bay) : Station.takeClose src t c job st
    = (st.removeClaim c).claimAtBay src t c (job.getD (Config.jobNotCarried t c)) := by
  have role : (st.removeClaim c).cfg.role = .bay := bay
  rw [Station.takeClose_claimed joined unmatched stands cart]
  unfold Station.closeClaim
  dsimp only
  rw [role]

end

/-! ### The end of a claim at a bay (R142) -/

section
variable {st : Station} {src : Addr} {t : Tid} {c : Cart} {job : Job}

/-- The entry of a cartridge taken in by a claim, at a slot. -/
def claimedEntry (src : Addr) (t : Tid) (c : Cart) (job : Job) (n : Nat) : XferEntry where
  tid := t
  cart := c
  peer := src
  job := job
  direction := .inbound
  state := .placing
  attempts := 0
  transit := .stopped
  slot := some n
  custody := none
  acceptedSlot := none
  reply := none

theorem Station.claimAtBay_full (full : 16 ≤ st.xfer.entries.length) :
    st.claimAtBay src t c job = st.engineAlert 10 none c (some t) none := if_pos (.inl full)

/-- A reserve that is not made is a STRAY-ARRIVAL. -/
theorem Station.claimAtBay_unreserved (h : st.reserveWrite c t = (st, .held) ∨ st.reserveWrite c t = (st, .full)) :
    st.claimAtBay src t c job = st.engineAlert 10 none c (some t) none := by
  unfold Station.claimAtBay
  split
  · rfl
  · rcases h with h | h <;> rw [h] <;> rfl

theorem Station.claimAtBay_reserved {x y : Station} {n : Nat} (room : st.xfer.entries.length < 16)
    (fresh : st.xferById t = none) (reserved : st.reserveWrite c t = (x, .slot n))
    (placed : x.placeFor (claimedEntry src t c job n) = (y, true)) :
    st.claimAtBay src t c job = y.setXfers (y.xfer.entries ++ [claimedEntry src t c job n]) := by
  have free : ¬(16 ≤ st.xfer.entries.length ∨ (st.xferById t).isSome = true) := by simp [room, fresh]
  unfold Station.claimAtBay
  rw [if_neg free, reserved]
  unfold claimedEntry at placed ⊢
  dsimp only
  rw [placed]

variable (reported : st.damageReported)
include reported

theorem Station.claimAtBay_held (found : st.table.lookup c ≠ .absent) :
    st.claimAtBay src t c job = st.engineAlert 10 none c (some t) none :=
  Station.claimAtBay_unreserved (.inl (Station.reserveWrite_held reported t found))

theorem Station.claimAtBay_unfree (unfree : ∀ n, n ≤ 255 → st.isFreeSlot n = false) :
    st.claimAtBay src t c job = st.engineAlert 10 none c (some t) none := by
  by_cases absent : st.table.lookup c = .absent
  · exact Station.claimAtBay_unreserved (.inr (Station.reserveWrite_full reported t absent unfree))
  · exact Station.claimAtBay_held reported absent

/-- The lowest free slot is reserved and placed, its lamp on. -/
theorem Station.claimAtBay_lowest {n : Nat} (room : st.xfer.entries.length < 16) (fresh : st.xferById t = none)
    (absent : st.table.lookup c = .absent) (inside : n ≤ 255) (free : st.isFreeSlot n = true)
    (lowest : ∀ m, m < n → st.isFreeSlot m = false) (unpulled : ∀ x ∈ st.pulls.entries, x.slot ≠ n) :
    st.claimAtBay src t c job = (((st.withRecord n
      (.placing { id := c, exposure := 0, acclim := none, inspect := false, mark := none } t)).askLamp n .on).setXfers
        (st.xfer.entries ++ [claimedEntry src t c job n])) := by
  obtain ⟨sl, here⟩ : ∃ sl, st.table.slots[n]? = some sl := by
    obtain ⟨-, vacant, -⟩ := Station.isFreeSlot_iff.mp free
    cases here : st.table.slots[n]? with
    | some sl => exact ⟨sl, rfl⟩
    | none => simp [SlotTable.slot, List.getD, here, Slot.blank] at vacant
  have placed := Station.placeFor_made (e := claimedEntry src t c job n) rfl (Station.withRecord_slot
    (.reserved { id := c, exposure := 0, acclim := none, inspect := false, mark := none } t) here) rfl rfl unpulled
  rw [Station.claimAtBay_reserved room fresh
    (Station.reserveWrite_lowest reported t absent inside free lowest unpulled) placed,
    Station.withRecord_withRecord]
  rfl

end

/-- Settles O38: a receiving entry by role and record, then CLOSE by the entry's state, and at a claim. -/
theorem receiverClosesTransfer : Obligations.ReceiverClosesTransfer := by
  refine ⟨fun st e => ⟨fun hatch => Station.settleArrived_hatch hatch, fun n sl bay slot here sound =>
    ⟨fun c filed cart => ?_, fun c t placing => ?_, fun unfiled unplaced => ?_⟩⟩, fun s src t c job hears => ?_⟩
  · exact Station.settleArrived_filed bay slot here (.inl sound)
      ((Slot.view_eq_iff (by simp) (by simp)).mpr ⟨sound, filed⟩) cart
  · exact Station.settleArrived_placing bay slot here (.inl sound)
      ((Slot.view_eq_iff (by simp) (by simp)).mpr ⟨sound, placing⟩)
  · exact Station.settleArrived_other bay slot here (.inl sound)
      (fun c view => unfiled c ((Slot.view_eq_iff (by simp) (by simp)).mp view).2)
      fun c t view => unplaced c t ((Slot.view_eq_iff (by simp) (by simp)).mp view).2
  let heard := s.station.modifyPeer src Peer.refresh
  have closes {x : Station} (h : Station.takeClose src t c job heard = x) :
      Machine.exec (.close src t c job) s = .next (s.put x) := (exec_close s hears t c job).trans (s.next_put h)
  refine ⟨fun away => closes (Station.takeClose_away away), fun joined => ?_⟩
  replace joined : heard.joined = true := joined
  refine ⟨fun e found => ⟨fun placing => closes (Station.takeClose_placing joined found placing), fun arrived =>
      closes (Station.takeClose_arrived joined found arrived), fun expected => ⟨fun hatch =>
        closes (Station.takeClose_hatch joined found expected hatch), fun n sl d bay slot here sound reserved unpulled =>
          ?_, fun n sl bay slot here sound other => ?_⟩⟩,
    fun unmatched => ⟨fun unclaimed => closes (Station.takeClose_unknown joined unmatched unclaimed), fun k stands cart =>
      ⟨fun j hatch carried => ?_, fun hatch carried => ?_, fun bay full => ?_, fun bay reported => ?_⟩⟩⟩
  · obtain rfl := Station.receivingById_tid found
    exact closes (Station.takeClose_placed joined found expected bay
      (Station.placeFor_made (st := heard) slot here sound reserved unpulled))
  · obtain rfl := Station.receivingById_tid found
    exact closes (Station.takeClose_unplaced joined found expected bay
      (Station.placeFor_other (st := heard) slot here (.inl sound) fun d view =>
        other d ((Slot.view_eq_iff (by simp) (by simp)).mp view).2))
  · subst carried
    exact closes (Station.takeClose_claimed_hatch joined unmatched stands cart hatch)
  · subst carried
    exact ⟨_, closes (Station.takeClose_claimed_hatch joined unmatched stands cart hatch)⟩
  · exact closes ((Station.takeClose_claimed_bay joined unmatched stands cart bay).trans (Station.claimAtBay_full full))
  · have takes := Station.takeClose_claimed_bay (job := job) joined unmatched stands cart bay
    replace reported : (heard.removeClaim c).damageReported := reported
    refine ⟨fun found => ?_, fun unfree => ?_, fun n j room fresh absent inside free lowest unpulled carried => ?_⟩
    · exact closes (takes.trans (Station.claimAtBay_held reported found))
    · exact closes (takes.trans (Station.claimAtBay_unfree reported unfree))
    · subst carried
      exact closes (takes.trans (Station.claimAtBay_lowest reported room fresh absent inside free lowest unpulled))

end Sys2Proof
end

section
/-! SUPPORT. WITHDRAW at a receiving entry (R140), and the timers of the transfer engine (R129, R133, R138, R143). -/

namespace Sys2Proof

/-! ### WITHDRAW (R140) -/

section
variable (s : Machine.State) {src : Addr} (heard : s.station.hearsPeer src)
include heard

theorem exec_withdraw (t : Tid) : Machine.exec (.withdraw src t) s
    = .next (s.put (Station.takeWithdraw src t (s.station.modifyPeer src Peer.refresh))) :=
  s.next_put (Station.fromPeer_heard _ heard)

end

section
variable {st : Station} {n : Nat} {sl : Slot} {t : Tid} (here : st.table.slots[n]? = some sl)
include here

theorem Station.freeSlot_made {d : CartData} (sound : sl.difference = 0) (reserved : sl.record = .reserved d t)
    (unpulled : ∀ x ∈ st.pulls.entries, x.slot ≠ n) : st.freeSlot n t = st.withRecord n .vacant := by
  unfold Station.freeSlot
  rw [Station.freeWrite_made here sound unpulled reserved]

/-- A free that is not made withdraws the lamp (R127). -/
theorem Station.freeSlot_other (known : sl.difference = 0 ∨ sl.damage ≠ .none)
    (other : ∀ d, sl.view ≠ .reserved d t) : st.freeSlot n t = st.askLamp n .off := by
  unfold Station.freeSlot
  rw [Station.freeWrite_other here known other]

end

section
variable {st : Station} {src : Addr} {t : Tid}

theorem Station.takeWithdraw_away (h : st.joined = false) : Station.takeWithdraw src t st = st :=
  Station.onlyIf_of_false _ h

theorem Station.takeWithdraw_unmatched (h : st.receivingById t src = none) : Station.takeWithdraw src t st = st := by
  refine Station.onlyIf_keeps (P := fun x => x = st) rfl fun _ => ?_
  rw [h]

variable (joined : st.joined = true) {e : XferEntry} (found : st.receivingById t src = some e)
include joined found

theorem Station.takeWithdraw_late (h : e.state ≠ .expected) : Station.takeWithdraw src t st = st := by
  unfold Station.takeWithdraw
  rw [Station.onlyIf_of_true _ joined, found]
  exact if_neg h

variable (expected : e.state = .expected)
include expected

theorem Station.takeWithdraw_slotless (h : e.slot = none) : Station.takeWithdraw src t st = st.removeXfer t := by
  unfold Station.takeWithdraw
  rw [Station.onlyIf_of_true _ joined, found]
  dsimp only
  rw [if_pos expected, h]

theorem Station.takeWithdraw_slot {n : Nat} (h : e.slot = some n) :
    Station.takeWithdraw src t st = (st.freeSlot n t).removeXfer t := by
  unfold Station.takeWithdraw
  rw [Station.onlyIf_of_true _ joined, found]
  dsimp only
  rw [if_pos expected, h]

end

/-! ### The timers (R129, R132, R133, R138, R143) -/

section
variable {s : Machine.State} (running : s.station.running = true)
include running

theorem exec_replyTimerExpiry (t : Tid) :
    Machine.exec (.replyTimerExpiry t) s = .next (s.put (Station.replyExpired t s.station)) :=
  s.next_put (Station.onlyIf_of_true _ running)

theorem exec_transitExpiry (t : Tid) :
    Machine.exec (.transitExpiry t) s = .next (s.put (Station.transitExpired t s.station)) :=
  s.next_put (Station.onlyIf_of_true _ running)

theorem exec_claimTimerExpiry (c : Cart) :
    Machine.exec (.claimTimerExpiry c) s = .next (s.put (Station.claimExpired c s.station)) :=
  s.next_put (Station.onlyIf_of_true _ running)

end

/-- An entry found by its id alone has it. -/
theorem Station.xferById_tid {st : Station} {t : Tid} {e : XferEntry} (h : st.xferById t = some e) : e.tid = t :=
  of_decide_eq_true (List.find?_some (p := fun x => decide (XferEntry.tid x = t)) h)

section
variable {st : Station} {t : Tid}

theorem Station.replyExpired_unknown (h : st.xferById t = none) : Station.replyExpired t st = st := by
  unfold Station.replyExpired
  rw [h]

section
variable {e : XferEntry} (found : st.xferById t = some e)
include found

theorem Station.replyExpired_stopped (h : e.reply = none) : Station.replyExpired t st = st := by
  unfold Station.replyExpired
  rw [found]
  exact if_pos h

variable (runs : e.reply.isSome)
include runs

/-- The message goes out again, three times at most. -/
theorem Station.replyExpired_again (awaits : e.state = .offered ∨ e.state = .arrived) (few : e.attempts < 3) :
    Station.replyExpired t st
      = (st.modifyXfer t fun x => { x with attempts := x.attempts + 1, reply := none }).resend e := by
  unfold Station.replyExpired
  rw [found]
  dsimp only
  rw [if_neg (Option.isSome_iff_ne_none.mp runs), if_pos awaits, if_pos few]

variable (spent : 3 ≤ e.attempts)
include spent

theorem Station.replyExpired_offered (h : e.state = .offered) : Station.replyExpired t st
    = (st.modifyXfer t fun x => { x with state := .unanswered, reply := none }).engineAlert 7 e.slot e.cart (some t)
        none := by
  unfold Station.replyExpired
  rw [found]
  dsimp only
  rw [if_neg (Option.isSome_iff_ne_none.mp runs), if_pos (.inl h), if_neg (Nat.not_lt.mpr spent), if_pos h]
  rfl

theorem Station.replyExpired_arrived (h : e.state = .arrived) : Station.replyExpired t st
    = (st.modifyXfer t fun x => { x with reply := none }).takeCustody e none := by
  unfold Station.replyExpired
  rw [found]
  dsimp only
  rw [if_neg (Option.isSome_iff_ne_none.mp runs), if_pos (.inr h), if_neg (Nat.not_lt.mpr spent),
    if_neg (by simp [h])]

end

theorem Station.resend_offered {e : XferEntry} (h : e.state = .offered) : st.resend e
    = st.hand .transfers e.peer (.offer e.tid e.cart e.job (if e.direction = .outbound then 0 else 1)) := by
  unfold Station.resend
  rw [h, ← Direction.code_eq]
  rfl

theorem Station.resend_arrived {e : XferEntry} (h : e.state = .arrived) :
    st.resend e = st.hand .transfers e.peer (.arrive e.tid) := by
  unfold Station.resend
  rw [h]
  rfl

theorem Station.transitExpired_unknown (h : st.sendingById t = none) : Station.transitExpired t st = st := by
  unfold Station.transitExpired
  rw [h]

theorem Station.transitExpired_idle {e : XferEntry} (found : st.sendingById t = some e)
    (h : ∀ n, e.transit ≠ .running n) : Station.transitExpired t st = st := by
  unfold Station.transitExpired
  rw [found]
  dsimp only
  split
  · next n runs => exact absurd runs (h n)
  · rfl
  · rfl

theorem Station.transitExpired_lapsed {e : XferEntry} {n : Ticks} (found : st.sendingById t = some e)
    (h : e.transit = .running n) : Station.transitExpired t st
      = (st.modifyXfer t fun x => { x with state := .lapsed, transit := .stopped, reply := none }).engineAlert 8 e.slot
          e.cart (some t) none := by
  unfold Station.transitExpired
  rw [found]
  dsimp only
  rw [h]
  rfl

end

section
variable {st : Station} {c : Cart}

theorem Station.claimExpired_unclaimed (h : ∀ k ∈ st.xfer.claims, k.cart ≠ c) : Station.claimExpired c st = st := by
  refine if_neg ?_
  rw [Station.claimed_iff]
  rintro ⟨k, hk, same⟩
  exact h k hk same

/-- The claim gone, with its STRAY-ARRIVAL (R143). -/
def Station.claimEnded (st : Station) (c : Cart) : Station := (st.removeClaim c).engineAlert 10 none c none none

theorem Station.claimEnded_role (st : Station) (c : Cart) : (st.claimEnded c).cfg.role = st.cfg.role :=
  congrArg (fun l => l.cfg.role) (Station.hand_loader _ _ _ _)

variable {k : Claim} (stands : k ∈ st.xfer.claims) (cart : k.cart = c)
include stands cart

theorem Station.claimExpired_bay (bay : st.cfg.role = .bay) : Station.claimExpired c st = st.claimEnded c := by
  have role := (st.claimEnded_role c).trans bay
  unfold Station.claimExpired
  rw [if_pos (Station.claimed_iff.mpr ⟨k, stands, cart⟩)]
  dsimp only
  split
  · rfl
  · next other => exact absurd (role.symm.trans other) (by decide)

theorem Station.claimExpired_hatch (hatch : st.cfg.role = .hatch) : Station.claimExpired c st
    = (st.claimEnded c).setCustody (st.hatch.custody ++
        [{ cart := c, job := 0, state := .heldInbound, dest := none }]) := by
  have role := (st.claimEnded_role c).trans hatch
  have same : (st.claimEnded c).hatch = st.hatch := Station.hand_hatch _ _ _ _
  unfold Station.claimExpired
  rw [if_pos (Station.claimed_iff.mpr ⟨k, stands, cart⟩), ← same]
  dsimp only
  split
  · next other => exact absurd (role.symm.trans other) (by decide)
  · rfl

end

/-- Settles O39: WITHDRAW by the receiving entry's state and record, then the expiry of each timer. -/
theorem transferTimersAndWithdraw : Obligations.TransferTimersAndWithdraw := by
  refine ⟨fun s src t hears => ?_, fun s running => ⟨fun t => ?_, fun t => ?_, fun c => ?_⟩⟩
  · let heard := s.station.modifyPeer src Peer.refresh
    have withdraws {x : Station} (h : Station.takeWithdraw src t heard = x) :
        Machine.exec (.withdraw src t) s = .next (s.put x) := (exec_withdraw s hears t).trans (s.next_put h)
    refine ⟨fun away => withdraws (Station.takeWithdraw_away away), fun unmatched =>
      withdraws (Station.takeWithdraw_unmatched unmatched), fun e joined found => ?_⟩
    replace joined : heard.joined = true := joined
    refine ⟨fun late => withdraws (Station.takeWithdraw_late joined found late), fun expected slotless =>
        withdraws (Station.takeWithdraw_slotless joined found expected slotless),
      fun n sl d expected slot here sound reserved unpulled => withdraws ?_, fun n sl expected slot here unmade =>
        withdraws ?_⟩
    · rw [Station.takeWithdraw_slot joined found expected slot,
        Station.freeSlot_made (st := heard) here sound reserved unpulled]
    · have known : sl.difference = 0 ∨ sl.damage ≠ .none := unmade.imp And.left And.right
      have other (d : CartData) : sl.view ≠ .reserved d t := fun view => by
        obtain ⟨sound, reserved⟩ := (Slot.view_eq_iff (by simp) (by simp)).mp view
        rcases unmade with ⟨-, other⟩ | ⟨damaged, -⟩
        · exact other d reserved
        · exact damaged sound
      rw [Station.takeWithdraw_slot joined found expected slot, Station.freeSlot_other (st := heard) here known other]
  · have expires := exec_replyTimerExpiry running t
    refine ⟨fun unknown => expires.trans (s.next_put (Station.replyExpired_unknown unknown)), fun e found =>
      ⟨fun stopped => expires.trans (s.next_put (Station.replyExpired_stopped found stopped)), fun runs offered few => ?_,
        fun runs arrived few => ?_, fun runs offered spent =>
          expires.trans (s.next_put (Station.replyExpired_offered found runs spent offered)),
        fun runs arrived spent => ?_⟩⟩ <;>
      obtain rfl := Station.xferById_tid found
    · exact expires.trans (s.next_put ((Station.replyExpired_again found runs (.inl offered) few).trans
        (Station.resend_offered offered)))
    · exact expires.trans (s.next_put ((Station.replyExpired_again found runs (.inr arrived) few).trans
        (Station.resend_arrived arrived)))
    · exact expires.trans (s.next_put (Station.replyExpired_arrived found runs spent arrived))
  · have expires := exec_transitExpiry running t
    exact ⟨fun unknown => expires.trans (s.next_put (Station.transitExpired_unknown unknown)), fun e found =>
      ⟨fun idle => expires.trans (s.next_put (Station.transitExpired_idle found idle)), fun n runs =>
        expires.trans (s.next_put (Station.transitExpired_lapsed found runs))⟩⟩
  · have expires := exec_claimTimerExpiry running c
    exact ⟨fun unclaimed => expires.trans (s.next_put (Station.claimExpired_unclaimed unclaimed)), fun k stands cart =>
      ⟨fun bay => expires.trans (s.next_put (Station.claimExpired_bay stands cart bay)), fun hatch =>
        expires.trans (s.next_put (Station.claimExpired_hatch stands cart hatch))⟩⟩

end Sys2Proof
end

section
/-! SUPPORT. Reads of the inner reader (R150): the cartridges that a transfer, a claim or the manifest holds, those of
the expected and the custody lists, and the unmatched ones. -/

namespace Sys2Proof

/-! ### The rows of R150 -/

/-- The cartridge is under an ARRIVED entry or a claim, or in the manifest. -/
def Station.InFlight (st : Station) (c : Cart) : Prop :=
  (∃ e ∈ st.xfer.entries, e.cart = c ∧ e.state = .arrived) ∨ (∃ k ∈ st.xfer.claims, k.cart = c)
    ∨ (∃ m ∈ st.hatch.session.manifest, m.cart = c)

section
variable {st : Station} {c : Cart}

theorem Station.inFlight_iff :
    (st.xfer.entries.any (fun e => decide (e.cart = c) && decide (e.state = .arrived)) || st.claimed c
      || st.inManifest c) = true ↔ st.InFlight c := by
  rw [Bool.or_eq_true, Bool.or_eq_true, Station.claimed_iff, or_assoc]
  simp [Station.InFlight, Station.inManifest]

theorem Station.innerScan_expected {e : XferEntry} (hatch : st.cfg.role = .hatch) (found : st.expectedXfer c = some e) :
    st.innerScan c = st.toldArrived e := by
  unfold Station.innerScan
  rw [found]
  dsimp only
  unfold Station.arrival
  rw [hatch]
  rfl

variable (unexpected : st.expectedXfer c = none)
include unexpected

theorem Station.innerScan_inFlight (h : st.InFlight c) : st.innerScan c = st := by
  unfold Station.innerScan
  rw [unexpected]
  exact if_pos (Station.inFlight_iff.mpr h)

variable (here : ¬st.InFlight c)
include here

theorem Station.innerScan_filed {e : ExpectedEntry} (found : st.expectedFor c = some e) :
    st.innerScan c = st.fileScanned e := by
  unfold Station.innerScan
  rw [unexpected]
  dsimp only
  rw [if_neg (mt Station.inFlight_iff.mp here), found]

variable (unfiled : ∀ x ∈ st.hatch.expected, x.cart ≠ c)
include unfiled

theorem Station.innerScan_custody {e : CustodyEntry} (found : st.custodyFor c = some e) :
    st.innerScan c = st.scanCustody e := by
  unfold Station.innerScan
  rw [unexpected]
  dsimp only
  rw [if_neg (mt Station.inFlight_iff.mp here), Station.expectedFor_none unfiled, found]

theorem Station.innerScan_unmatched (unheld : ∀ x ∈ st.hatch.custody, x.cart ≠ c) :
    st.innerScan c = st.makeClaim c := by
  unfold Station.innerScan
  rw [unexpected]
  dsimp only
  rw [if_neg (mt Station.inFlight_iff.mp here), Station.expectedFor_none unfiled, Station.custodyFor_none unheld]

end

/-! ### An expected cartridge (R150) -/

section
variable {st : Station} {e : ExpectedEntry}

theorem Station.fileScanned_full (full : 32 ≤ st.placesTaken) :
    st.fileScanned e = st.hatchAlert .custodyFull e.cart := if_neg (Nat.not_lt.mpr full)

theorem Station.fileScanned_taken (room : st.placesTaken < 32) : st.fileScanned e =
    (st.setCustody (st.hatch.custody ++
      [{ cart := e.cart, job := e.job, state := .heldInbound, dest := some e.dest }])).setExpected
        (st.hatch.expected.filter fun x => decide (x.cart ≠ e.cart)) := if_pos room

end

/-! ### A cartridge in custody (R150, R151, R153) -/

/-- The drawer takes a cartridge of a job: a session of the job at the station, the drawer at rest IN. -/
def Station.Loads (st : Station) (job : Job) : Prop :=
  st.hatch.session.job = some job ∧ (st.hatch.session.state = .identified ∨ st.hatch.session.state = .filling)
    ∧ st.atIn

section
variable {st : Station} {e : CustodyEntry}

section
variable (outbound : e.state = .heldOutbound)
include outbound

theorem Station.scanCustody_loaded (loads : st.Loads e.job) (room : st.hatch.session.manifest.length < 16) :
    st.scanCustody e = (st.setCustodyState e.cart .inDrawer).onSession fun x =>
      { x.load e.cart with state := .filling } := by
  unfold Station.scanCustody
  rw [outbound]
  exact (if_pos loads).trans (Station.onlyIf_of_true _ (decide_eq_true room))

theorem Station.scanCustody_unloaded (h : st.Loads e.job → 16 ≤ st.hatch.session.manifest.length) :
    st.scanCustody e = st := by
  unfold Station.scanCustody
  rw [outbound]
  dsimp only
  split
  · next loads => exact Station.onlyIf_of_false _ (decide_eq_false (Nat.not_lt.mpr (h loads)))
  · rfl

end

theorem Station.scanCustody_still (h : e.state = .inDrawer ∨ (e.state = .heldInbound ∧ e.dest = none)) :
    st.scanCustody e = st := by
  unfold Station.scanCustody
  rcases h with drawer | ⟨inbound, stray⟩
  · rw [drawer]
  · rw [inbound]
    dsimp only
    rw [stray]

section
variable {d : Addr} (inbound : e.state = .heldInbound) (dest : e.dest = some d)
include inbound dest

theorem Station.scanCustody_declined (declined : st.declines .inbound e.cart d = true) : st.scanCustody e = st := by
  unfold Station.scanCustody
  rw [inbound]
  dsimp only
  rw [dest]
  dsimp only
  unfold Station.onward
  rw [Station.openXfer_declined declined]

/-- A transfer opened to the cartridge's bay takes the custody entry OUTGOING. -/
theorem Station.scanCustody_opened (open_ : st.declines .inbound e.cart d = false) : st.scanCustody e =
    (st.openXfer .inbound e.cart e.job none (some e.cart) d).1.setCustody
      (st.hatch.custody.map fun x => if x.cart = e.cart then { x with state := .outgoing } else x) := by
  obtain ⟨k, -, -, -, -, opens⟩ := Station.openXfer_opened (job := e.job) (slot := none) (custody := some e.cart) open_
  have same : (st.opened .inbound e.cart e.job none (some e.cart) d k).hatch = st.hatch := Station.hand_hatch _ _ _ _
  unfold Station.scanCustody
  rw [inbound]
  dsimp only
  rw [dest]
  dsimp only
  unfold Station.onward
  rw [opens, ← same]
  rfl

end

/-- The sending entry for a cartridge is the first for it where that is one. -/
theorem Station.sendingByCart_of_first {c : Cart} {x : XferEntry} (first : st.xferByCart c = some x)
    (sending : x.state.receiving = false) :
    (st.xfer.entries.find? fun e => decide (e.cart = c) && !e.state.receiving) = some x := by
  obtain ⟨cart, front, rest, entries, before⟩ := List.find?_eq_some_iff_append.mp first
  refine List.find?_eq_some_iff_append.mpr ⟨by simpa [sending] using cart, front, rest, entries, fun e he => ?_⟩
  have other := before e he
  simp only [Bool.not_eq_true', decide_eq_false_iff_not] at other
  simp [other]

section
variable (outgoing : e.state = .outgoing)
include outgoing

theorem Station.scanCustody_returned (free : ∀ x ∈ st.xfer.entries, x.cart ≠ e.cart) :
    st.scanCustody e = st.setCustodyState e.cart .heldInbound := by
  have none : (st.xfer.entries.find? fun x => decide (x.cart = e.cart) && !x.state.receiving) = none :=
    List.find?_eq_none.mpr fun x hx => by simp [free x hx]
  unfold Station.scanCustody
  rw [outgoing]
  dsimp only
  unfold Station.returned
  rw [none]

/-- The transfer of a cartridge that is back is withdrawn (R151). -/
theorem Station.scanCustody_withdrawn {x : XferEntry} (first : st.xferByCart e.cart = some x)
    (sending : x.state.receiving = false) (slotless : x.slot = none) : st.scanCustody e =
      (if x.state = .refused then st.removeXfer x.tid
        else (st.removeXfer x.tid).hand .transfers x.peer (.withdraw x.tid)).setCustody
          (st.hatch.custody.map fun y => if y.cart = e.cart then { y with state := .heldInbound } else y) := by
  have withdrawn : st.withdrawSending x = if x.state = .refused then st.removeXfer x.tid
      else (st.removeXfer x.tid).hand .transfers x.peer (.withdraw x.tid) := by
    unfold Station.withdrawSending
    rw [slotless]
    split
    · next refused => exact Station.onlyIf_of_false _ (by simp [refused])
    · next live => exact Station.onlyIf_of_true _ (decide_eq_true live)
  have same : (st.withdrawSending x).hatch = st.hatch := by
    rw [withdrawn]
    split
    · rfl
    · exact Station.hand_hatch _ _ _ _
  unfold Station.scanCustody
  rw [outgoing]
  dsimp only
  unfold Station.returned
  rw [Station.sendingByCart_of_first first sending, ← same, ← withdrawn]
  rfl

end

end

/-! ### An unmatched cartridge at a hatch (R141, R150) -/

section
variable {st : Station} {c : Cart} (hatch : st.cfg.role = .hatch) (unclaimed : ∀ k ∈ st.xfer.claims, k.cart ≠ c)
  (free : ∀ e ∈ st.xfer.entries, e.cart ≠ c) (room : st.xfer.claims.length < 4)
include hatch unclaimed free room

theorem Station.makeClaim_hatch : st.makeClaim c = if 32 ≤ st.placesTaken then st.engineAlert 11 none c none none
    else ({ st with xfer := { st.xfer with
      claims := st.xfer.claims ++ [{ cart := c, timer := ticksOfSec 2 }] } } : Station).hand .transfers 255
        (.claim c) := by
  have none : ¬(st.claimed c = true ∨ (st.xferByCart c).isSome = true) := by
    rw [Station.claimed_iff, Station.xferByCart_isSome]
    rintro (⟨k, hk, same⟩ | ⟨e, he, same⟩)
    · exact unclaimed k hk same
    · exact free e he same
  unfold Station.makeClaim
  rw [if_neg none, if_neg (Nat.not_le.mpr room)]
  simp only [hatch, true_and]
  rfl

end

theorem exec_innerRead {s : Machine.State} (hatchUnit : s.station.hatchUnit = true) (joined : s.station.joined = true)
    (c : Cart) : Machine.exec (.innerRead .cartridge c) s = .next (s.put (s.station.innerScan c)) :=
  s.next_put (Station.onlyIf_of_true _ (by simp [hatchUnit, joined]))

theorem exec_innerRead_idle {s : Machine.State} {cls : TagClass} (c : Cart)
    (h : cls ≠ .cartridge ∨ s.station.hatchUnit = false ∨ s.station.joined = false) :
    Machine.exec (.innerRead cls c) s = .next s := by
  refine s.next_put (b := s.station) (Station.onlyIf_of_false _ ?_)
  rcases h with other | bay | away
  · simp [other]
  · simp [bay]
  · simp [away]

/-- Settles O42: the rows of R150 in order, the custody entry by its state. -/
theorem innerReadTable : Obligations.InnerReadTable := by
  refine ⟨fun s cls c idle => exec_innerRead_idle c idle, fun s c hatchUnit joined => ?_⟩
  have hatch : s.station.cfg.role = .hatch := of_decide_eq_true (Bool.and_eq_true_iff.mp hatchUnit).2
  have reads {x : Station} (h : s.station.innerScan c = x) :
      Machine.exec (.innerRead .cartridge c) s = .next (s.put x) :=
    (exec_innerRead hatchUnit joined c).trans (s.next_put h)
  refine ⟨fun e found => reads (Station.innerScan_expected hatch found), fun unexpected =>
    ⟨fun flies => reads (Station.innerScan_inFlight unexpected flies), fun here => ⟨fun e found => ?_, fun unfiled =>
      ⟨fun e found => ?_, fun unheld => ?_⟩⟩⟩⟩
  · obtain rfl : e.cart = c := by simpa using List.find?_some found
    have files := Station.innerScan_filed unexpected here found
    exact ⟨fun full => reads (files.trans (Station.fileScanned_full full)), fun room =>
      reads (files.trans (Station.fileScanned_taken room))⟩
  · obtain rfl : e.cart = c := by simpa using List.find?_some found
    have scans := Station.innerScan_custody unexpected here unfiled found
    refine ⟨fun outbound job ⟨session, rests⟩ room => ?_, fun outbound unloaded => ?_, fun still => ?_, fun d inbound dest =>
      ⟨fun declined => ?_, fun open_ => ?_⟩, fun outgoing free => ?_, fun x outgoing first sending slotless => ?_⟩
    · exact reads (scans.trans (Station.scanCustody_loaded outbound ⟨job, session, decide_eq_true rests⟩ room))
    · refine reads (scans.trans (Station.scanCustody_unloaded outbound fun loads => ?_))
      obtain ⟨job, session, rests⟩ := loads
      rcases unloaded with other | away | full
      · exact absurd job other
      · exact absurd ⟨session, of_decide_eq_true rests⟩ away
      · exact full
    · exact reads (scans.trans (Station.scanCustody_still still))
    · exact reads (scans.trans (Station.scanCustody_declined inbound dest declined))
    · exact reads (scans.trans (Station.scanCustody_opened inbound dest open_))
    · exact reads (scans.trans (Station.scanCustody_returned outgoing free))
    · exact reads (scans.trans (Station.scanCustody_withdrawn outgoing first sending slotless))
  · have claims := Station.innerScan_unmatched unexpected here unfiled unheld
    refine ⟨fun full => reads (claims.trans (Station.makeClaim_none (.inr (.inr full)))), fun room free => ?_⟩
    have makes := claims.trans (Station.makeClaim_hatch hatch
      (fun k hk same => here (.inr (.inl ⟨k, hk, same⟩))) free room)
    exact ⟨fun full => reads (makes.trans (if_pos full)), fun few => reads (makes.trans (if_neg (Nat.not_le.mpr few)))⟩

end Sys2Proof
end

section
/-! SUPPORT. CHECKIN by its table (R149). -/

namespace Sys2Proof

/-! ### The lists of the hatch -/

section
variable {st : Station} {c : Cart}

theorem Station.isStray_iff : st.isStray c = true ↔
    ∃ e ∈ st.hatch.custody, e.cart = c ∧ e.state = .heldInbound ∧ e.dest = none := by
  simp [Station.isStray, and_assoc]

theorem Station.expectedFor_isSome : (st.expectedFor c).isSome = true ↔ ∃ e ∈ st.hatch.expected, e.cart = c := by
  simp [Station.expectedFor, List.find?_isSome]

theorem Station.custodyFor_isSome : (st.custodyFor c).isSome = true ↔ ∃ e ∈ st.hatch.custody, e.cart = c := by
  simp [Station.custodyFor, List.find?_isSome]

theorem Station.inManifest_iff : st.inManifest c = true ↔ ∃ m ∈ st.hatch.session.manifest, m.cart = c := by
  simp [Station.inManifest]

theorem Station.hatchHolds_iff : st.hatchHolds c = true ↔
    (∃ e ∈ st.hatch.expected, e.cart = c) ∨ (∃ e ∈ st.hatch.custody, e.cart = c)
      ∨ (∃ m ∈ st.hatch.session.manifest, m.cart = c) ∨ (∃ e ∈ st.xfer.entries, e.cart = c)
      ∨ (∃ k ∈ st.xfer.claims, k.cart = c) := by
  simp only [Station.hatchHolds, Bool.or_eq_true, Station.expectedFor_isSome, Station.custodyFor_isSome,
    Station.inManifest_iff, Station.xferByCart_isSome, Station.claimed_iff, or_assoc]

end

/-! ### The rows of R149 -/

section
variable {st : Station} (src : Addr) (seq : Byte) (job : Job) (c : Cart) (dest : Addr)

/-- Outside JOINED no answer of a CHECKIN leaves the station. -/
theorem Station.takeCheckin_away (away : st.joined = false) : Station.takeCheckin src seq job c dest st = st := by
  unfold Station.takeCheckin
  simp only [Station.reply_not_joined away, away]
  split <;> rfl

theorem Station.takeCheckin_bay (bay : st.cfg.role = .bay) :
    Station.takeCheckin src seq job c dest st = st.reply .hatch src 14 seq .role := if_pos bay

section
variable (hatch : st.cfg.role = .hatch) (joined : st.joined = true)
include hatch joined

theorem Station.takeCheckin_sealed (closed : st.supp.fire = .soak ∨ st.supp.fire = .vent) :
    Station.takeCheckin src seq job c dest st = st.reply .hatch src 14 seq .sealed := by
  have closed : st.isSealed = true := (FireState.isSealed_iff _).mpr closed
  unfold Station.takeCheckin
  rw [if_neg (by simp [hatch]), if_neg (by simp [joined])]
  exact if_pos closed

variable (unsealed : ¬(st.supp.fire = .soak ∨ st.supp.fire = .vent))
include unsealed

theorem Station.takeCheckin_unreachable (unreachable : ¬st.peers.reachable dest .bay = true) :
    Station.takeCheckin src seq job c dest st = st.reply .hatch src 14 seq .unreachable := by
  have unsealed : ¬st.isSealed = true := fun closed => unsealed ((FireState.isSealed_iff _).mp closed)
  unfold Station.takeCheckin
  rw [if_neg (by simp [hatch]), if_neg (by simp [joined]), if_neg unsealed]
  exact if_pos (by simpa using unreachable)

/-- What the lists say of the cartridge decides the rest. -/
theorem Station.takeCheckin_reachable (reachable : st.peers.reachable dest .bay = true) :
    Station.takeCheckin src seq job c dest st =
      if st.isStray c then (st.assignStray c job dest).reply .hatch src 14 seq .done
      else if st.hatchHolds c then st.reply .hatch src 14 seq .duplicate
      else if 32 ≤ st.hatch.expected.length then st.reply .hatch src 14 seq .full
      else (st.setExpected (st.hatch.expected ++ [⟨job, c, dest⟩])).reply .hatch src 14 seq .done := by
  have unsealed : ¬st.isSealed = true := fun closed => unsealed ((FireState.isSealed_iff _).mp closed)
  unfold Station.takeCheckin
  rw [if_neg (by simp [hatch]), if_neg (by simp [joined]), if_neg unsealed, if_neg (by simp [reachable])]
  rfl

end

end

theorem exec_checkin (s : Machine.State) {src : Addr} (seq : Byte) (job : Job) (c : Cart) (dest : Addr)
    (heard : s.station.hearsConsole src) : Machine.exec (.checkin src seq job c dest) s
      = .next (s.put (Station.takeCheckin src seq job c dest s.station)) :=
  s.next_put (Station.fromConsole_heard _ heard)

/-- Settles O41: the rows of R149 in order, the last four by the lists of the hatch. -/
theorem checkinTable : Obligations.CheckinTable := by
  intro s src seq job c dest heard
  have takes {x : Station} (h : Station.takeCheckin src seq job c dest s.station = x) :
      Machine.exec (.checkin src seq job c dest) s = .next (s.put x) :=
    (exec_checkin s seq job c dest heard).trans (s.next_put h)
  refine ⟨fun away => takes (Station.takeCheckin_away src seq job c dest away), fun _ bay =>
    takes (Station.takeCheckin_bay src seq job c dest bay), fun joined hatch => ⟨fun closed =>
      takes (Station.takeCheckin_sealed src seq job c dest hatch joined closed), fun unsealed far => ?_,
        fun unsealed reachable => ?_⟩⟩
  · exact takes (Station.takeCheckin_unreachable src seq job c dest hatch joined unsealed
      (mt PeerView.reachable_iff.mp far))
  · have row := Station.takeCheckin_reachable src seq job c dest hatch joined unsealed
      (PeerView.reachable_iff.mpr reachable)
    have other (h) := row.trans (if_neg (mt Station.isStray_iff.mp h))
    have fresh (h) (unknown) := (other h).trans (if_neg (mt Station.hatchHolds_iff.mp unknown))
    exact ⟨fun stray => takes (row.trans (if_pos (Station.isStray_iff.mpr stray))),
      fun h known => takes ((other h).trans (if_pos (Station.hatchHolds_iff.mpr known))),
      fun h unknown full => takes ((fresh h unknown).trans (if_pos full)),
      fun h unknown room => takes ((fresh h unknown).trans (if_neg (Nat.not_le.mpr room)))⟩

end Sys2Proof
end

section
/-! SUPPORT. A command to the drawer with both flaps shut, and the reads of the outer reader (R152, R154, R155). -/

namespace Sys2Proof

/-! ### A command to the drawer -/

section
variable {st : Station} {e : MotionEnd}

theorem Station.command_hatch (st : Station) (e : MotionEnd) : (st.command e).1.hatch = st.hatch := by
  rw [Station.command_motion]

theorem Station.startDrive_unreported (shut : st.flapBlocks = false) : (st.startDrive e).2 = none := by
  cases dead : st.motion.coilsOff.dead with
  | some n => rw [Station.startDrive_waits (by rw [dead]; rfl)]
  | none => rw [Station.startDrive_on dead shut]

/-- With no flap open a command reports nothing but the arrival that it finds (R32, R161). -/
theorem Station.command_report {r : Report} (shut : st.flapBlocks = false) (h : (st.command e).2 = some r) :
    r = .arrived e ∧ st.arrivalHolds e = true := by
  by_cases there : st.motion.state = .resting e ∨ st.motion.state = .moving e
  · rw [Station.command_there there] at h
    cases h
  · obtain ⟨away, elsewhere⟩ := not_or.mp there
    by_cases drives : (∃ x, st.motion.state = .moving x) ∨ st.arrivalHolds e = false
    · rw [Station.command_drives away elsewhere drives, Station.startDrive_unreported (by exact shut)] at h
      cases h
    · obtain ⟨still, holds⟩ := not_or.mp drives
      have holds : st.arrivalHolds e = true := (Bool.not_eq_false _).mp holds
      rw [Station.command_arrives away (not_exists.mp still) holds] at h
      exact ⟨(Option.some.inj h).symm, holds⟩

/-- An arrival touches no session that is IDLE or RECEIVING (R153, R155, R157). -/
theorem Station.hatchReport_arrived_quiet
    (quiet : st.hatch.session.state = .idle ∨ st.hatch.session.state = .receiving) :
    st.hatchReport (.arrived e) = st := by
  have other (x : SessionState) (idle : x ≠ .idle) (receiving : x ≠ .receiving) : st.hatch.session.state ≠ x := by
    rintro rfl
    exact quiet.elim idle receiving
  cases e with
  | a => exact Station.hatchReport_out (other .filling (by decide) (by decide))
  | b =>
    rw [Station.hatchReport_in (other .returning (by decide) (by decide))]
    exact Station.settleSession_open (other .handed (by decide) (by decide)) (other .aborted (by decide) (by decide))

/-- With no flap open a command comes to the channel's part alone, where the drawer is not yet at the end or its
arrival touches no session. -/
theorem Station.reported_command_quiet (shut : st.flapBlocks = false) (quiet : st.arrivalHolds e = false ∨
    st.hatch.session.state = .idle ∨ st.hatch.session.state = .receiving) :
    Station.reported (st.command e) = (st.command e).1 := by
  cases told : (st.command e).2 with
  | none => exact Station.reported_of_silent told
  | some r =>
    obtain ⟨rfl, holds⟩ := Station.command_report shut told
    have session := quiet.resolve_left (by simp [holds])
    rw [← Station.command_hatch st e] at session
    cases role : (st.command e).1.cfg.role with
    | bay => exact Station.reported_bay role
    | hatch =>
      rw [show st.command e = ((st.command e).1, some (.arrived e)) from Prod.ext rfl told, Station.reported_hatch role]
      exact Station.hatchReport_arrived_quiet session

theorem Station.startDrive_away (st : Station) (e x : MotionEnd) : (st.startDrive e).1.motion.state ≠ .resting x := by
  unfold Station.startDrive Station.driveDue
  dsimp only
  split
  · simp [Station.onMotion]
  · split
    · simp [Station.onMotion, Motion.stall]
    · simp [Station.onMotion, Motion.switchOn]

/-- A command does not bring a drawer at once to an end whose arrival condition does not hold. -/
theorem Station.command_away (outside : st.motion.state ≠ .resting e) (away : st.arrivalHolds e = false) :
    (st.command e).1.motion.state ≠ .resting e := by
  by_cases moving : st.motion.state = .moving e
  · rw [Station.command_there (.inr moving)]
    exact outside
  · rw [Station.command_drives outside moving (.inr away)]
    exact Station.startDrive_away _ _ _

theorem Station.arrivalHolds_in (hatch : st.cfg.role = .hatch) : st.arrivalHolds .b = st.pins.innerEnd := by
  unfold Station.arrivalHolds
  rw [hatch]

theorem Station.hand_arrivalHolds (k : Blk) (d : Addr) (b : Body) (e : MotionEnd) :
    (st.hand k d b).arrivalHolds e = st.arrivalHolds e := by
  unfold Station.arrivalHolds Station.cfg
  rw [Station.hand_loader, Station.hand_pins, Station.hand_hatch]

theorem Station.flapsShut_iff : st.flapsShut = true ↔
    st.pins.innerFlapOpen = false ∧ st.pins.outerFlapOpen = false := by
  simp [Station.flapsShut]

end

/-! ### A COURIER read (R152) -/

section
variable {st : Station} (number : Cart)

theorem Station.courierCard_refused (h : ¬(st.hatch.session.state = .idle ∧ st.confirmed = false ∧
    st.motion.state = .resting .b ∧ st.flapsShut = true)) : st.courierCard number = st := by
  unfold Station.courierCard
  dsimp only
  split
  · rfl
  · next idle =>
    split
    · rfl
    · next unconfirmed =>
      have away : ¬(st.atIn = true ∧ st.flapsShut = true) := fun ⟨rests, shut⟩ =>
        h ⟨not_not.mp idle, Bool.eq_false_iff.mpr unconfirmed, of_decide_eq_true rests, shut⟩
      exact if_pos (by simpa only [not_and_or, Bool.not_eq_true, Bool.not_eq_true'] using away)

variable (idle : st.hatch.session.state = .idle) (unconfirmed : st.confirmed = false)
  (rests : st.motion.state = .resting .b) (shut : st.flapsShut = true)
include idle unconfirmed rests shut

/-- A courier who comes to a drawer at rest IN is served by what the lists hold for the job. -/
theorem Station.courierCard_ready : st.courierCard number =
    if st.hatch.custody.any (fun e => decide (e.state = .heldOutbound) && decide (e.job = jobOfCard number)) then
      st.beginSession .identified .outbound (jobOfCard number)
    else if st.hatch.expected.any (fun e => decide (e.job = jobOfCard number)) then
      ((st.beginSession .receiving .inbound (jobOfCard number)).command .a).1
    else st := by
  have called : Station.reported ((st.beginSession .receiving .inbound (jobOfCard number)).command .a)
      = ((st.beginSession .receiving .inbound (jobOfCard number)).command .a).1 :=
    Station.reported_command_quiet (Station.flapBlocks_of_flapsShut (by exact shut)) (.inr (.inr rfl))
  unfold Station.courierCard
  rw [if_neg (not_not_intro idle), if_neg (by simp [unconfirmed]), if_neg (by simp [Station.atIn, rests, shut]), called]

end

/-! ### A cartridge read in PRESENTING (R154) -/

/-- The manifest with the flags of a cartridge set. -/
def flagged (c : Cart) (ms : List ManifestItem) : List ManifestItem :=
  ms.map fun m => if m.cart = c then { m with confirmed := true } else m

theorem flagged_length (c : Cart) (ms : List ManifestItem) : (flagged c ms).length = ms.length := List.length_map _

/-- Flags do not change which cartridges the manifest holds. -/
theorem flagged_any_cart (c d : Cart) (ms : List ManifestItem) :
    ((flagged c ms).any fun m => decide (m.cart = d)) = ms.any fun m => decide (m.cart = d) := by
  have cart (m : ManifestItem) : (if m.cart = c then { m with confirmed := true } else m).cart = m.cart := by
    split <;> rfl
  simp only [flagged, List.any_map, Function.comp_def, cart]

theorem flagged_of_confirmed {c : Cart} {ms : List ManifestItem} (h : ∀ m ∈ ms, m.cart = c → m.confirmed = true) :
    flagged c ms = ms := by
  refine (List.map_congr_left fun m hm => ?_).trans (List.map_id _)
  split
  · next mine => rw [← h m hm mine]; rfl
  · rfl

/-- The manifest of the session replaced. -/
def Station.withManifest (st : Station) (ms : List ManifestItem) : Station :=
  st.onSession fun x => { x with manifest := ms }

/-- The first two steps of an outbound handover (R154): the session HANDED with its timer stopped, and the
IN-DRAWER entries of the manifest gone from the custody list. -/
def Station.handedOver (st : Station) : Station :=
  { st with
    hatch := { st.hatch with
      custody := st.hatch.custody.filter fun e => !(decide (e.state = .inDrawer) &&
        st.hatch.session.manifest.any fun m => decide (m.cart = e.cart))
      custodyCheck := 0
      session := { st.hatch.session with state := .handed, timer := none, reason := none } } }

theorem Station.handedOver_flagged (st : Station) (c : Cart) :
    (st.withManifest (flagged c st.hatch.session.manifest)).handedOver = { st with
      hatch := { st.hatch with
        custody := st.hatch.custody.filter fun e => !(decide (e.state = .inDrawer) &&
          st.hatch.session.manifest.any fun m => decide (m.cart = e.cart))
        custodyCheck := 0
        session :=
          { st.hatch.session with
            state := .handed, timer := none, reason := none, manifest := flagged c st.hatch.session.manifest } } } := by
  simp only [Station.handedOver, Station.withManifest, Station.onSession, Station.onHatch, flagged_any_cart]

section
variable {st : Station} {c : Cart}

theorem Station.presentScan_stray (h : ∀ m ∈ st.hatch.session.manifest, m.cart ≠ c) :
    st.presentScan c = st.hatchAlert .strayArrival c :=
  if_neg (mt Station.inManifest_iff.mp fun ⟨m, hm, mine⟩ => h m hm mine)

section
variable (carried : ∃ m ∈ st.hatch.session.manifest, m.cart = c)
include carried

theorem Station.presentScan_again (h : ∀ m ∈ st.hatch.session.manifest, m.cart = c → m.confirmed = true) :
    st.presentScan c = st := by
  have same : st.withManifest (flagged c st.hatch.session.manifest) = st := by
    rw [flagged_of_confirmed h]
    rfl
  have silent : (st.hatch.session.manifest.any fun m => decide (m.cart = c) && !m.confirmed) = false := by
    simpa using h
  unfold Station.presentScan
  rw [if_pos (Station.inManifest_iff.mpr carried)]
  exact (Station.onlyIf_of_false _ (by rw [silent]; rfl)).trans same

theorem Station.presentScan_left (h : ∃ m ∈ flagged c st.hatch.session.manifest, m.confirmed = false) :
    st.presentScan c = st.withManifest (flagged c st.hatch.session.manifest) := by
  have left : (flagged c st.hatch.session.manifest).all (·.confirmed) = false := by simpa using h
  unfold Station.presentScan
  rw [if_pos (Station.inManifest_iff.mpr carried)]
  exact Station.onlyIf_of_false _ (Bool.and_eq_false_iff.mpr (.inr left))

end

/-- The read that sets the last clear flag hands the cartridges over. -/
theorem Station.presentScan_last (clear : ∃ m ∈ st.hatch.session.manifest, m.cart = c ∧ m.confirmed = false)
    (all : ∀ m ∈ flagged c st.hatch.session.manifest, m.confirmed = true) :
    st.presentScan c = (st.withManifest (flagged c st.hatch.session.manifest)).handOutbound := by
  have flags : (st.hatch.session.manifest.any fun m => decide (m.cart = c) && !m.confirmed) = true := by
    simpa using clear
  obtain ⟨m, hm, mine, -⟩ := clear
  unfold Station.presentScan
  rw [if_pos (Station.inManifest_iff.mpr ⟨m, hm, mine⟩)]
  exact Station.onlyIf_of_true _ (Bool.and_eq_true_iff.mpr ⟨flags, List.all_eq_true.mpr all⟩)

/-- An outbound handover whose drawer is not yet IN (R154): one HANDOVER to ALL, the manifest cleared, the
drawer commanded IN. -/
theorem Station.handOutbound_away {j : Job} (job : st.hatch.session.job = some j)
    (dir : st.hatch.session.direction = some .outbound) (outside : st.motion.state ≠ .resting .b)
    (away : st.arrivalHolds .b = false) :
    st.handOutbound = (st.handedOver.hand .hatch 255 (.handover
      { job := j, direction := 0, handed := BitVec.ofNat 8 st.hatch.session.manifest.length
        remaining := BitVec.ofNat 8 (st.handedOver.remainingFor .outbound j)
        outcome := 0, reason := none })).broughtIn := by
  have said := Station.handover_eq (st := st.handedOver) job dir st.hatch.session.manifest.length none
  have steps : st.handOutbound = (st.handedOver.handover st.hatch.session.manifest.length none).bringIn := rfl
  rw [steps, said, Station.bringIn_ended (.inl (by rw [Station.hand_hatch]; rfl))]
  refine if_neg (Station.command_away ?_ ?_)
  · exact (congrArg Motion.state (Station.hand_motion _ _ _ _)).trans_ne outside
  · exact (Station.hand_arrivalHolds _ _ _ .b).trans away

end

/-! ### A cartridge read in RECEIVING (R155) -/

section
variable {st : Station} {c : Cart}

theorem Station.outerScan_presenting (h : st.hatch.session.state = .presenting) :
    st.outerScan c = st.presentScan c := by
  unfold Station.outerScan
  rw [h]

theorem Station.outerScan_other (presenting : st.hatch.session.state ≠ .presenting)
    (receiving : st.hatch.session.state ≠ .receiving) : st.outerScan c = st := by
  unfold Station.outerScan
  split
  · next h => exact absurd h presenting
  · next h => exact absurd h receiving
  · rfl

section
variable (receiving : st.hatch.session.state = .receiving)
include receiving

theorem Station.outerScan_underway (h : st.motion.state ≠ .resting .a) : st.outerScan c = st := by
  unfold Station.outerScan
  rw [receiving]
  exact Station.onlyIf_of_false _ (decide_eq_false h)

theorem Station.outerScan_out (h : st.motion.state = .resting .a) : st.outerScan c = st.receiveScan c := by
  unfold Station.outerScan
  rw [receiving]
  exact Station.onlyIf_of_true _ (decide_eq_true h)

end

theorem Station.receiveScan_again (h : ∃ m ∈ st.hatch.session.manifest, m.cart = c) : st.receiveScan c = st :=
  if_pos (Station.inManifest_iff.mpr h)

section
variable (new : ∀ m ∈ st.hatch.session.manifest, m.cart ≠ c)
include new

theorem Station.receiveScan_stray (h : ¬∃ e ∈ st.hatch.expected, e.cart = c ∧ some e.job = st.hatch.session.job) :
    st.receiveScan c = st.hatchAlert .strayArrival c := by
  unfold Station.receiveScan
  rw [if_neg (mt Station.inManifest_iff.mp fun ⟨m, hm, mine⟩ => new m hm mine)]
  exact if_pos (by simpa using h)

/-- An expected cartridge is taken where the manifest and the custody room have a place for it. -/
theorem Station.receiveScan_wanted (h : ∃ e ∈ st.hatch.expected, e.cart = c ∧ some e.job = st.hatch.session.job) :
    st.receiveScan c = if 16 ≤ st.hatch.session.manifest.length then st
      else if 32 ≤ st.placesTaken then st.hatchAlert .custodyFull c else st.onSession (·.load c) := by
  unfold Station.receiveScan
  rw [if_neg (mt Station.inManifest_iff.mp fun ⟨m, hm, mine⟩ => new m hm mine)]
  exact if_neg (by simpa using h)

end

end

/-! ### The commands -/

section
variable {s : Machine.State}

section
variable (taken : s.station.hatchUnit = true ∧ s.station.joined = true)
include taken

theorem exec_courierRead (number : Cart) :
    Machine.exec (.courierRead number) s = .next (s.put (s.station.courierCard number)) :=
  s.next_put (Station.onlyIf_of_true _ (Bool.and_eq_true_iff.mpr taken))

theorem exec_outerCartridgeRead (c : Cart) :
    Machine.exec (.outerCartridgeRead c) s = .next (s.put (s.station.outerScan c)) :=
  s.next_put (Station.onlyIf_of_true _ (Bool.and_eq_true_iff.mpr taken))

end

section
variable (idle : ¬(s.station.hatchUnit = true ∧ s.station.joined = true))
include idle

theorem exec_courierRead_idle (number : Cart) : Machine.exec (.courierRead number) s = .next s :=
  s.next_put (Station.onlyIf_of_false _ (Bool.eq_false_iff.mpr (mt Bool.and_eq_true_iff.mp idle)))

theorem exec_outerCartridgeRead_idle (c : Cart) : Machine.exec (.outerCartridgeRead c) s = .next s :=
  s.next_put (Station.onlyIf_of_false _ (Bool.eq_false_iff.mpr (mt Bool.and_eq_true_iff.mp idle)))

end

end

/-- The rows of R152 in order. -/
theorem courierRead_table (s : Machine.State) (number : Cart) :
    let st := s.station
    let h := st.hatch
    let x := h.session
    let takes := st.hatchUnit = true ∧ st.joined = true
    let job : Job := number.extractLsb' 24 16
    let run := Machine.exec (.courierRead number) s
    let ready := x.state = .idle ∧ st.confirmed = false ∧ st.motion.state = .resting .b ∧
      st.pins.innerFlapOpen = false ∧ st.pins.outerFlapOpen = false
    let outbound := ∃ e ∈ h.custody, e.state = .heldOutbound ∧ e.job = job
    let inbound := ∃ e ∈ h.expected, e.job = job
    (¬takes → run = .next s) ∧
    (takes → ¬ready → run = .next s) ∧
    (takes → ready → outbound → run = .next (s.put (st.beginSession .identified .outbound job))) ∧
    (takes → ready → ¬outbound → inbound →
      run = .next (s.put ((st.beginSession .receiving .inbound job).command .a).1)) ∧
    (takes → ready → ¬outbound → ¬inbound → run = .next s) := by
  intro st h x takes job run ready outbound inbound
  have reads {y : Station} (taken : takes) (hy : st.courierCard number = y) : run = .next (s.put y) :=
    (exec_courierRead taken number).trans (s.next_put hy)
  have row (here : ready) := by
    obtain ⟨idle, unconfirmed, rests, shut⟩ := here
    exact Station.courierCard_ready number idle unconfirmed rests (Station.flapsShut_iff.mpr shut)
  have held : h.custody.any (fun e => decide (e.state = .heldOutbound) && decide (e.job = job)) = true ↔ outbound := by
    simp [outbound]
  have expected : h.expected.any (fun e => decide (e.job = job)) = true ↔ inbound := by simp [inbound]
  have other (here : ready) (none : ¬outbound) := (row here).trans (if_neg (mt held.mp none))
  refine ⟨fun idle => exec_courierRead_idle idle number,
    fun taken away => reads taken (Station.courierCard_refused number ?_),
    fun taken here out => reads taken ((row here).trans (if_pos (held.mpr out))),
    fun taken here none in_ => reads taken ((other here none).trans (if_pos (expected.mpr in_))),
    fun taken here none none' => reads taken ((other here none).trans (if_neg (mt expected.mp none')))⟩
  rwa [Station.flapsShut_iff]

/-- Settles O43: a COURIER read by R152's rows; a cartridge read by the session's state, in PRESENTING by the flags
and in RECEIVING by R155's rows. -/
theorem outerReadsTable : Obligations.OuterReadsTable := by
  intro s st h x takes alert withSession
  refine ⟨courierRead_table s, fun c => ?_⟩
  intro run shown
  have reads {y : Station} (taken : takes) (hy : st.outerScan c = y) : run = .next (s.put y) :=
    (exec_outerCartridgeRead taken c).trans (s.next_put hy)
  refine ⟨fun idle => exec_outerCartridgeRead_idle idle c,
    fun taken presenting receiving => reads taken (Station.outerScan_other presenting receiving),
    fun taken presenting => ?_, fun taken receiving under => reads taken (Station.outerScan_underway receiving under),
    fun taken receiving out => ?_⟩
  · have presents := Station.outerScan_presenting (c := c) presenting
    refine ⟨fun stray => reads taken (presents.trans (Station.presentScan_stray stray)),
      fun confirmed carried => reads taken (presents.trans (Station.presentScan_again carried confirmed)),
      fun clear => ⟨fun left => ?_, fun j all job dir out inner => ?_⟩⟩
    · obtain ⟨m, hm, mine, -⟩ := clear
      exact reads taken (presents.trans (Station.presentScan_left ⟨m, hm, mine⟩ left))
    · intro kept handed told
      have hands := Station.handOutbound_away (st := st.withManifest (flagged c x.manifest)) job dir
        (out.trans_ne (by decide)) ((Station.arrivalHolds_in (Station.role_of_hatchUnit taken.1)).trans inner)
      have gone : (st.withManifest (flagged c x.manifest)).handedOver = handed := Station.handedOver_flagged st c
      have count : (st.withManifest (flagged c x.manifest)).hatch.session.manifest.length = x.manifest.length :=
        flagged_length c x.manifest
      rw [gone, count] at hands
      exact reads taken (presents.trans ((Station.presentScan_last clear all).trans hands))
  · intro wanted
    have scans := Station.outerScan_out (c := c) receiving out
    refine ⟨fun again => reads taken (scans.trans (Station.receiveScan_again again)), fun new => ⟨fun stray =>
      reads taken (scans.trans (Station.receiveScan_stray new stray)),
        fun expected => ?_, fun expected => ?_, fun expected => ?_⟩⟩
    all_goals have row := scans.trans (Station.receiveScan_wanted new expected)
    · exact fun full => reads taken (row.trans (if_pos full))
    · exact fun few full => reads taken (row.trans ((if_neg (Nat.not_le.mpr few)).trans (if_pos full)))
    · exact fun few room =>
        reads taken (row.trans ((if_neg (Nat.not_le.mpr few)).trans (if_neg (Nat.not_le.mpr room))))

end Sys2Proof
end

section
/-! SUPPORT. The SEND and DONE buttons (R147, R153, R155, R162) and the session timer (R156). -/

namespace Sys2Proof

/-! ### Presses -/

section
variable {st : Station}

theorem Station.pressRetries_iff : st.pressRetries = true ↔ st.motion.state = .stalled ∧
    st.pins.innerFlapOpen = false ∧ st.pins.outerFlapOpen = false := by
  rw [← Station.flapsShut_iff]
  simp [Station.pressRetries]

section
variable (again : st.motion.state = .stalled ∧ st.pins.innerFlapOpen = false ∧ st.pins.outerFlapOpen = false)
  (quiet : st.arrivalHolds (st.motion.last.getD .b) = false ∨ st.hatch.session.state = .idle)
include again quiet

/-- A stalled drawer takes its last command again, or IN before any (R162). -/
theorem Station.retry_quiet : st.retry = (st.command (st.motion.last.getD .b)).1 :=
  Station.reported_command_quiet (Station.flapBlocks_of_shut again.2.1 again.2.2) (quiet.imp_right .inl)

theorem Station.sendPressed_retries : st.sendPressed = (st.command (st.motion.last.getD .b)).1 :=
  (if_pos (Station.pressRetries_iff.mpr again)).trans (Station.retry_quiet again quiet)

theorem Station.donePressed_retries : st.donePressed = (st.command (st.motion.last.getD .b)).1 :=
  (if_pos (Station.pressRetries_iff.mpr again)).trans (Station.retry_quiet again quiet)

end

/-- No press retries a drawer that rests at an end. -/
theorem Station.not_pressRetries_of_resting {e : MotionEnd} (rests : st.motion.state = .resting e) :
    ¬st.pressRetries = true := fun h => by
  have stalled := (Station.pressRetries_iff.mp h).1
  rw [rests] at stalled
  cases stalled

theorem Station.sendPressed_sends (filling : st.hatch.session.state = .filling) (rests : st.motion.state = .resting .b)
    (shut : st.flapsShut = true) (away : st.arrivalHolds .a = false) : st.sendPressed = (st.command .a).1 := by
  unfold Station.sendPressed
  rw [if_neg (Station.not_pressRetries_of_resting rests), if_pos ⟨filling, decide_eq_true rests, shut⟩]
  exact Station.reported_command_quiet (Station.flapBlocks_of_flapsShut shut) (.inl away)

theorem Station.sendPressed_still (retries : ¬st.pressRetries = true)
    (sends : ¬(st.hatch.session.state = .filling ∧ st.motion.state = .resting .b ∧ st.flapsShut = true)) :
    st.sendPressed = st := by
  unfold Station.sendPressed
  rw [if_neg retries]
  exact if_neg fun ⟨filling, rests, shut⟩ => sends ⟨filling, of_decide_eq_true rests, shut⟩

theorem Station.donePressed_calls (receiving : st.hatch.session.state = .receiving)
    (rests : st.motion.state = .resting .a) (shut : st.flapsShut = true) (away : st.arrivalHolds .b = false) :
    st.donePressed = ((st.onSession fun y => { y with state := .returning }).command .b).1 := by
  unfold Station.donePressed
  rw [if_neg (Station.not_pressRetries_of_resting rests), if_pos ⟨receiving, decide_eq_true rests, shut⟩]
  exact Station.reported_command_quiet (Station.flapBlocks_of_flapsShut (by exact shut)) (.inl away)

theorem Station.donePressed_still (retries : ¬st.pressRetries = true)
    (calls : ¬(st.hatch.session.state = .receiving ∧ st.motion.state = .resting .a ∧ st.flapsShut = true)) :
    st.donePressed = st := by
  unfold Station.donePressed
  rw [if_neg retries]
  exact if_neg fun ⟨receiving, rests, shut⟩ => calls ⟨receiving, of_decide_eq_true rests, shut⟩

/-! ### The session timer (R156) -/

theorem Station.sessionExpired_stopped (h : st.hatch.session.timer = none) : st.sessionExpired = st :=
  Station.onlyIf_of_false _ (by rw [h]; rfl)

section
variable (runs : st.hatch.session.timer.isSome = true)
include runs

theorem Station.sessionExpired_inactive (h : st.hatch.session.state.active = false) :
    st.sessionExpired = st.onSession fun y => { y with timer := none } :=
  (Station.onlyIf_of_true _ runs).trans (Station.abortSession_quiet _ h)

/-- The expiry breaks an active session off with reason TIMEOUT. -/
theorem Station.sessionExpired_active {j : Job} {d : Direction} (active : st.hatch.session.state.active = true)
    (job : st.hatch.session.job = some j) (dir : st.hatch.session.direction = some d) :
    let told := (st.brokenOff .timeout).hand .hatch 255 (.handover
      { job := j, direction := if d = .outbound then 0 else 1, handed := 0
        remaining := BitVec.ofNat 8 ((st.brokenOff .timeout).remainingFor d j), outcome := 1, reason := some 0 })
    st.sessionExpired = if told.broughtIn.motion.state = .resting .b
      then told.broughtIn.onSession fun _ => .idle else told.broughtIn :=
  (Station.onlyIf_of_true _ runs).trans (Station.abortSession_breaks
    (st := st.onSession fun y => { y with timer := none }) .timeout active job dir)

end

end

/-! ### The timer of a button (R147) -/

theorem holdButton_up (t : Timer) (was : Bool) : holdButton t was false = none := rfl

theorem holdButton_stays (t : Timer) : holdButton t true true = t := rfl

theorem holdButton_down (t : Timer) : holdButton t false true = some 6250 := rfl

/-! ### The commands -/

/-- The SEND button found down, its timer ended. -/
def Station.sendHeld (st : Station) : Station :=
  { st with pins := { st.pins with sendDown := true }, hatch := { st.hatch with sendTimer := none } }

/-- The DONE button found down, its timer ended. -/
def Station.doneHeld (st : Station) : Station :=
  { st with pins := { st.pins with doneDown := true }, hatch := { st.hatch with doneTimer := none } }

section
variable {s : Machine.State} (unit : s.station.hatchUnit = true)
include unit

theorem exec_sendPress_level (down : Bool) : Machine.exec (.sendPress (.level down)) s = .next (s.put { s.station with
    pins := { s.station.pins with sendDown := down }
    hatch := { s.station.hatch with
      sendTimer := holdButton s.station.hatch.sendTimer s.station.pins.sendDown down } }) :=
  s.next_put (Station.onlyIf_of_true _ unit)

theorem exec_donePress_level (down : Bool) : Machine.exec (.donePress (.level down)) s = .next (s.put { s.station with
    pins := { s.station.pins with doneDown := down }
    hatch := { s.station.hatch with
      doneTimer := holdButton s.station.hatch.doneTimer s.station.pins.doneDown down } }) :=
  s.next_put (Station.onlyIf_of_true _ unit)

theorem exec_sendPress_press : Machine.exec (.sendPress .press) s = .next (s.put s.station.sendHeld.sendPressed) :=
  s.next_put (Station.onlyIf_of_true _ unit)

theorem exec_donePress_press : Machine.exec (.donePress .press) s = .next (s.put s.station.doneHeld.donePressed) :=
  s.next_put (Station.onlyIf_of_true _ unit)

theorem exec_sessionTimerExpiry : Machine.exec .sessionTimerExpiry s = .next (s.put s.station.sessionExpired) :=
  s.next_put (Station.onlyIf_of_true _ unit)

end

/-- Settles O44: the timers by `holdButton`; a press by whether it retries, sends or calls; the expiry by the
session's state. -/
theorem pressesAndSessionTimer : Obligations.PressesAndSessionTimer := by
  refine ⟨fun s down => ?_, fun s bay => ?_, fun s unit => ?_⟩
  · intro st send done sendRuns doneRuns
    refine ⟨fun bay => ⟨s.next_put (Station.onlyIf_of_false _ bay), s.next_put (Station.onlyIf_of_false _ bay)⟩,
      fun unit => ?_⟩
    have sends : send = sendRuns (holdButton st.hatch.sendTimer st.pins.sendDown down) := exec_sendPress_level unit down
    have dones : done = doneRuns (holdButton st.hatch.doneTimer st.pins.doneDown down) := exec_donePress_level unit down
    refine ⟨?_, ?_, ?_, ?_, ?_⟩
    · rintro rfl
      exact ⟨sends.trans (congrArg sendRuns (holdButton_up _ _)), dones.trans (congrArg doneRuns (holdButton_up _ _))⟩
    · rintro rfl was
      rw [sends, was, holdButton_stays]
    · rintro rfl was
      rw [sends, was, holdButton_down]
    · rintro rfl was
      rw [dones, was, holdButton_stays]
    · rintro rfl was
      rw [dones, was, holdButton_down]
  · exact ⟨s.next_put (Station.onlyIf_of_false _ bay), s.next_put (Station.onlyIf_of_false _ bay)⟩
  · intro st x send done sent called expiry last shut retries sends calls
    have sendGives {y : Station} (h : sent.sendPressed = y) : send = .next (s.put y) :=
      (exec_sendPress_press unit).trans (s.next_put h)
    have doneGives {y : Station} (h : called.donePressed = y) : done = .next (s.put y) :=
      (exec_donePress_press unit).trans (s.next_put h)
    have expires {y : Station} (h : st.sessionExpired = y) : expiry = .next (s.put y) :=
      (exec_sessionTimerExpiry unit).trans (s.next_put h)
    have hatch : st.cfg.role = .hatch := Station.role_of_hatchUnit unit
    refine ⟨fun again quiet => ?_, fun ⟨filling, rests, closed⟩ away => ?_, fun once away => ?_,
      fun ⟨receiving, rests, closed⟩ inner => ?_, fun once away => ?_, fun stopped => ?_, fun runs ended => ?_,
      fun j d runs active job dir => ?_⟩
    · exact ⟨sendGives (Station.sendPressed_retries again quiet), doneGives (Station.donePressed_retries again quiet)⟩
    · exact sendGives (Station.sendPressed_sends filling rests (Station.flapsShut_iff.mpr closed) away)
    · refine sendGives (Station.sendPressed_still (mt Station.pressRetries_iff.mp once) ?_)
      rwa [Station.flapsShut_iff]
    · exact doneGives (Station.donePressed_calls receiving rests (Station.flapsShut_iff.mpr closed)
        ((Station.arrivalHolds_in hatch).trans inner))
    · refine doneGives (Station.donePressed_still (mt Station.pressRetries_iff.mp once) ?_)
      rwa [Station.flapsShut_iff]
    · exact expires (Station.sessionExpired_stopped stopped)
    · refine expires (Station.sessionExpired_inactive runs ?_)
      rcases ended with h | h | h <;> exact congrArg SessionState.active h
    · intro back broken remaining told brought
      have breaks := Station.sessionExpired_active runs active job dir
      exact ⟨fun away => expires (breaks.trans (if_neg away)), fun rests => expires (breaks.trans (if_pos rests))⟩

end Sys2Proof
end

section
/-! SUPPORT. The passing of time while no command waits (log entry 6): the station any number of ticks later,
and when each expiry is due. -/

namespace Sys2Proof

/-! ### A number of ticks later -/

/-- A timer `n` ticks later. -/
def Timer.later (n : Nat) (t : Timer) : Timer := t.map (· - n)

/-- A transit timer `n` ticks later. -/
def Transit.later (n : Nat) : Transit → Transit
  | .running left => .running (left - n)
  | .paused left => .paused left
  | .stopped => .stopped

/-- A transfer entry `n` ticks later; its transit timer stands before LISTEN (R146). -/
def XferEntry.later (running : Bool) (n : Nat) (e : XferEntry) : XferEntry :=
  { e with
    reply := Timer.later n e.reply
    transit := if running = false then e.transit else e.transit.later n }

/-- What a peer record holds, `n` ticks later (R169, R170). -/
def PeerData.later (n : Nat) (d : PeerData) : PeerData :=
  { d with age := d.age + n, fire := d.fire.map fun f => (f.1, f.2 + n) }

/-- A peer record `n` ticks later. -/
def Peer.later (n : Nat) : Peer → Peer
  | .alive d => .alive (d.later n)
  | .silent d => .silent (d.later n)
  | .unheard => .unheard
  | .lost => .lost

/-- The attempt under way `n` ticks later. -/
def Attempt.later (n : Nat) : Attempt → Attempt
  | .waiting m left => .waiting m (left - n)
  | .sending m f => .sending m f
  | .none => .none

/-- The station `n` ticks later, for any `n` but 0: the first tick out of JOINED stops the phase of the blink. -/
def Station.later (n : Nat) (st : Station) : Station :=
  { st with
    loader := { st.loader with
      listenTimer := Timer.later n st.loader.listenTimer
      restartWait := st.loader.restartWait.map fun w => { w with timer := Timer.later n w.timer }
      joinedFor := if st.loader.state = .joined then st.loader.joinedFor + n else 0 }
    moist := { st.moist with
      delay := st.moist.delay.map fun p => (p.1, p.2 - n)
      slotTimer := Timer.later n st.moist.slotTimer }
    air := { st.air with
      period := Timer.later n st.air.period, onTimer := Timer.later n st.air.onTimer
      sealTimer := Timer.later n st.air.sealTimer }
    motion := { st.motion with
      dead := Timer.later n st.motion.dead, travel := Timer.later n st.motion.travel }
    det := { st.det with scanTimer := Timer.later n st.det.scanTimer }
    supp := { st.supp with
      evacuation := Timer.later n st.supp.evacuation, countdown := Timer.later n st.supp.countdown
      pulse := Timer.later n st.supp.pulse, soak := Timer.later n st.supp.soak
      holdFilter := Timer.later n st.supp.holdFilter }
    door := { st.door with unlock := Timer.later n st.door.unlock }
    table := { st.table with
      minute := Timer.later n st.table.minute, keyFilter := Timer.later n st.table.keyFilter
      scanTimer := Timer.later n st.table.scanTimer }
    audit := { st.audit with step := Timer.later n st.audit.step }
    xfer := { st.xfer with
      entries := st.xfer.entries.map (XferEntry.later st.running n)
      claims := st.xfer.claims.map fun k => { k with timer := k.timer - n } }
    hatch := { st.hatch with
      session := { st.hatch.session with timer := Timer.later n st.hatch.session.timer }
      sendTimer := Timer.later n st.hatch.sendTimer, doneTimer := Timer.later n st.hatch.doneTimer }
    peers := { st.peers with records := st.peers.records.map (Peer.later n) }
    line := { st.line with
      beacon := Timer.later n st.line.beacon, faultTimer := Timer.later n st.line.faultTimer
      attempt := st.line.attempt.later n }
    now := st.now + n }

/-! ### One tick more -/

section
variable (n : Nat)

theorem Timer.tick_later (t : Timer) : Timer.tick (Timer.later n t) = Timer.later (n + 1) t := by
  cases t <;> rfl

theorem Transit.tick_later (t : Transit) : (t.later n).tick = t.later (n + 1) := by
  cases t <;> rfl

theorem PeerData.tick_later (d : PeerData) : (d.later n).tick = d.later (n + 1) := by
  obtain ⟨age, interval, roleDemand, _ | f⟩ := d <;> rfl

theorem Peer.tick_later (p : Peer) : (p.later n).tick = p.later (n + 1) := by
  cases p with
  | alive d => exact congrArg Peer.alive (d.tick_later n)
  | silent d => exact congrArg Peer.silent (d.tick_later n)
  | unheard | lost => rfl

theorem Attempt.tick_later (a : Attempt) : (a.later n).tick = a.later (n + 1) := by
  cases a <;> rfl

/-- A tick moves nothing that says whether the station runs. -/
theorem Station.running_later (st : Station) : (st.later n).running = st.running := rfl

end

/-- The tick of an entry of the transfer table, as `Station.tick` says it. -/
theorem XferEntry.tick_later (running : Bool) (n : Nat) (e : XferEntry) :
    { e.later running n with
      transit := if running then (e.later running n).transit.tick else (e.later running n).transit
      reply := Timer.tick (e.later running n).reply } = e.later running (n + 1) := by
  cases running with
  | false => simp [XferEntry.later, Timer.tick_later]
  | true => simp [XferEntry.later, Timer.tick_later, Transit.tick_later]

theorem XferEntry.later_one (running : Bool) (e : XferEntry) :
    e.later running 1 =
      { e with transit := if running then e.transit.tick else e.transit, reply := Timer.tick e.reply } := by
  cases running <;> rfl

theorem Peer.later_one (p : Peer) : p.later 1 = p.tick := by
  cases p <;> rfl

theorem Attempt.later_one (a : Attempt) : a.later 1 = a.tick := by
  cases a <;> rfl

theorem Station.tick_eq_later (st : Station) : st.tick = st.later 1 := by
  have entries := funext (XferEntry.later_one st.running)
  have peers := funext Peer.later_one
  unfold Station.later
  rw [entries, peers, Attempt.later_one]
  rfl

/-- Part by part: the phase of the blink asks whether the station is JOINED (R188). -/
theorem Station.tick_later (n : Nat) (st : Station) : (st.later n).tick = st.later (n + 1) := by
  unfold Station.tick
  rw [Station.running_later]
  by_cases joined : st.loader.state = .joined <;>
    simp [Station.later, joined, Function.comp_def, Nat.sub_sub, Nat.add_assoc, Timer.tick_later,
      XferEntry.tick_later, Peer.tick_later, Attempt.tick_later]

theorem Station.tick_iterate (k : Nat) (st : Station) : Station.tick^[k + 1] st = st.later (k + 1) := by
  induction k with
  | zero => exact st.tick_eq_later
  | succ k ih => rw [Function.iterate_succ_apply', ih, Station.tick_later]

/-! ### What is due -/

section
variable {c : Instr}

theorem Timer.mem_due {t : Timer} {i : Instr} : c ∈ Timer.due t i ↔ c = i ∧ t = some 0 := by
  unfold Timer.due
  split <;> simp [*]

theorem Station.mem_sampleDue {st : Station} : c ∈ st.sampleDue ↔
    (∃ n, c = .loopSample n (.sample (st.pins.loopCode n)) ∧ st.det.channel = some (.loop n))
    ∨ (c = .temperatureCode (.sample st.pins.adcTemp) ∧ st.det.channel = some .temperature)
    ∨ (c = .batteryCode (.sample st.pins.adcBattery) ∧ st.det.channel = some .battery) := by
  unfold Station.sampleDue
  split <;> simp [*]

theorem Station.mem_captureDue {st : Station} : c ∈ st.captureDue ↔
    c = .captureComplete (.complete st.pins.sensor) ∧ st.moist.capturing = true := by
  unfold Station.captureDue
  split <;> simp [*]

theorem Attempt.mem_due {a : Attempt} : c ∈ a.due ↔ c = .accessDelayExpiry ∧ ∃ m, a = .waiting m 0 := by
  unfold Attempt.due
  split <;> simp

theorem XferEntry.mem_due {running : Bool} {e : XferEntry} : c ∈ e.due running ↔
    (c = .replyTimerExpiry e.tid ∧ e.reply = some 0)
    ∨ (c = .transitExpiry e.tid ∧ e.transit = .running 0 ∧ running = true) := by
  unfold XferEntry.due
  rw [List.mem_append, Timer.mem_due]
  split
  · next runs => simp [runs]
  · next rests =>
    have never : ¬(e.transit = .running 0 ∧ running = true) := fun ⟨out, run⟩ => rests ⟨run, out⟩
    simp [never]

/-- SILENT is due at three beacon intervals, LOST at ten (R169). -/
theorem Peer.mem_due {n : Nat} {p : Peer} : c ∈ p.due n ↔
    (∃ d, c = .peerSilent (BitVec.ofNat 8 n) ∧ p = .alive d ∧ 3 * d.interval * 125000 ≤ d.age)
    ∨ (∃ d, c = .peerLost (BitVec.ofNat 8 n) ∧ p = .silent d ∧ 10 * d.interval * 125000 ≤ d.age) := by
  cases p <;> simp [Peer.due, PeerData.silentFor, ticksOfSec, mul_comm 125000, and_comm]

end

/-- The number of a peer record is an address, where there are no more than 256 records. -/
theorem mem_peersDue {c : Instr} {ps : List Peer} (few : ps.length ≤ 256) :
    c ∈ (ps.zipIdx.map fun p => p.1.due p.2).flatten ↔ ∃ a : Addr, ∃ p, ps[a.toNat]? = some p ∧ c ∈ p.due a.toNat := by
  rw [← List.flatMap_def, List.mem_flatMap]
  constructor
  · rintro ⟨⟨p, n⟩, here, due⟩
    have here := List.mk_mem_zipIdx_iff_getElem?.mp here
    have byte : (BitVec.ofNat 8 n).toNat = n :=
      Nat.mod_eq_of_lt (lt_of_lt_of_le (List.getElem?_eq_some_iff.mp here).1 few)
    exact ⟨BitVec.ofNat 8 n, p, by rwa [byte], by rwa [byte]⟩
  · rintro ⟨a, p, here, due⟩
    exact ⟨(p, a.toNat), List.mk_mem_zipIdx_iff_getElem?.mpr here, due⟩

/-- The silences due of the peer view (R169). -/
theorem mem_peersDue_iff {c : Instr} {ps : List Peer} (few : ps.length ≤ 256) :
    c ∈ (ps.zipIdx.map fun p => p.1.due p.2).flatten ↔
      (∃ (a : Addr) (d : PeerData), c = .peerSilent a ∧ ps[a.toNat]? = some (.alive d) ∧
        3 * d.interval * 125000 ≤ d.age)
      ∨ (∃ (a : Addr) (d : PeerData), c = .peerLost a ∧ ps[a.toNat]? = some (.silent d) ∧
        10 * d.interval * 125000 ≤ d.age) := by
  rw [mem_peersDue few]
  simp only [Peer.mem_due, BitVec.ofNat_toNat, BitVec.setWidth_eq]
  constructor
  · rintro ⟨a, p, here, ⟨d, rfl, rfl, old⟩ | ⟨d, rfl, rfl, old⟩⟩
    · exact .inl ⟨a, d, rfl, here, old⟩
    · exact .inr ⟨a, d, rfl, here, old⟩
  · rintro (⟨a, d, rfl, here, old⟩ | ⟨a, d, rfl, here, old⟩)
    · exact ⟨a, _, here, .inl ⟨d, rfl, rfl, old⟩⟩
    · exact ⟨a, _, here, .inr ⟨d, rfl, rfl, old⟩⟩

theorem mem_entriesDue {c : Instr} {running : Bool} {es : List XferEntry} :
    c ∈ (es.map (XferEntry.due running)).flatten ↔
      (∃ e ∈ es, c = .replyTimerExpiry e.tid ∧ e.reply = some 0)
      ∨ (∃ e ∈ es, c = .transitExpiry e.tid ∧ e.transit = .running 0 ∧ running = true) := by
  rw [← List.flatMap_def, List.mem_flatMap]
  simp only [XferEntry.mem_due, and_or_left, exists_or]

theorem mem_claimsDue {c : Instr} {ks : List Claim} :
    c ∈ (ks.map fun k => Timer.due (some k.timer) (.claimTimerExpiry k.cart)).flatten ↔
      ∃ k ∈ ks, c = .claimTimerExpiry k.cart ∧ k.timer = 0 := by
  rw [← List.flatMap_def, List.mem_flatMap]
  simp only [Timer.mem_due, Option.some.injEq]

/-- The delay of an excursion has run out on one side or the other. -/
theorem delay_out_iff {d : Option (Side × Ticks)} : d.map (·.2) = some 0 ↔ ∃ side, d = some (side, 0) := by
  simp [Option.map_eq_some_iff]

/-! ### The empty queue -/

section
variable {s : Machine.State} (empty : s.pending = [])
include empty

theorem step_idle : Machine.step s = .next s.idle := by
  unfold Machine.step
  rw [empty]

theorem step_idle_dead (dead : s.station.live = false) : Machine.step s = .next s := by
  rw [step_idle empty, Machine.State.idle, dead]
  rfl

theorem step_idle_due (live : s.station.live = true) {c : Instr} {rest : List Instr}
    (due : s.station.due = c :: rest) : Machine.step s = .next { s with pending := [c] } := by
  rw [step_idle empty, Machine.State.idle, live, due]
  rfl

theorem step_idle_tick (live : s.station.live = true) (due : s.station.due = []) :
    Machine.step s = .next (s.put s.station.tick) := by
  rw [step_idle empty, Machine.State.idle, live, due]
  rfl

end

/-- Settles O2: the idle step by its branches, ticks by induction on their number, the due list part by part. -/
theorem idleStepPassesTime : Obligations.IdleStepPassesTime := by
  refine ⟨fun s empty => ⟨step_idle_dead empty, fun live _ _ => step_idle_due empty live, step_idle_tick empty⟩,
    fun st k => Station.tick_iterate k st, fun st c few => ?_⟩
  unfold Station.due
  simp only [List.mem_append, or_assoc, Timer.mem_due, Station.mem_sampleDue, Station.mem_captureDue,
    Attempt.mem_due, mem_peersDue_iff few, mem_entriesDue, mem_claimsDue, delay_out_iff, Option.bind_eq_some_iff]

end Sys2Proof
end

section
/-! SUPPORT. The frames of the vault line (R174, R175, R182, R183): every field and body reads back as it was coded,
and what a frame cut into its bytes is judged to be. -/

namespace Sys2Proof

/-! ### Fields (R183) -/

/-- The two halves of a word, most significant first, are the word. -/
theorem append_halves (w : BitVec 16) : w.extractLsb' 8 8 ++ w.extractLsb' 0 8 = w :=
  BitVec.extractLsb'_append_extractLsb' (w := 8) (len := 8) (x := w)

/-- The five bytes of a cartridge id, most significant first, are the id. -/
theorem append_fifths (c : Cart) :
    c.extractLsb' 32 8 ++ c.extractLsb' 24 8 ++ c.extractLsb' 16 8 ++ c.extractLsb' 8 8 ++ c.extractLsb' 0 8 = c := by
  grind

/-- Two bytes are the coding of the one word they make. -/
theorem putWord_eq_iff {w : BitVec 16} {hi lo : Byte} : [hi, lo] = putWord w ↔ hi ++ lo = w := by
  constructor
  · intro h
    cases h
    exact append_halves w
  · rintro rfl
    have high : (hi ++ lo).extractLsb' 8 8 = hi := BitVec.extractLsb'_append_eq_left
    have low : (hi ++ lo).extractLsb' 0 8 = lo := BitVec.extractLsb'_append_eq_right
    rw [putWord, high, low]

/-- The bytes of a word as a number (R182). -/
theorem halves_toNat (w : BitVec 16) :
    (w.extractLsb' 8 8).toNat * 256 + (w.extractLsb' 0 8).toNat = w.toNat := by
  simp only [BitVec.extractLsb'_toNat, Nat.shiftRight_eq_div_pow]
  have := w.isLt
  omega

theorem getWord_putWord (w : BitVec 16) (r : List Byte) : getWord (putWord w ++ r) = some (w, r) := by
  simp [getWord, putWord, append_halves]

theorem getCart_putCart (c : Cart) (r : List Byte) : getCart (putCart c ++ r) = some (c, r) := by
  simp [getCart, putCart, append_fifths]

theorem getTid_putTid (t : Tid) (r : List Byte) : getTid (putTid t ++ r) = some (t, r) := rfl

/-- An optional field reads back where the field does. -/
theorem getOpt_putOpt {α : Type} {put : α → List Byte} {get : List Byte → Option (α × List Byte)}
    (field : ∀ x r, get (put x ++ r) = some (x, r)) (o : Option α) (r : List Byte) :
    getOpt get (putOpt put o ++ r) = some (o, r) := by
  cases o with
  | none => rfl
  | some x =>
    have present : getOpt get (1 :: (put x ++ r)) = (get (put x ++ r)).map fun q => (some q.1, q.2) := rfl
    exact present.trans (by rw [field]; rfl)

/-! ### STATUS and FIRE-REPORT (R182, R183) -/

theorem Excursion.ofBits_bits (e : Excursion) : Excursion.ofBits e.bits = e := by
  cases e <;> rfl

theorem fireByte_fields (top lock zoneB zoneA : Bool) (fire : BitVec 4) :
    let b := fireByte top lock zoneB zoneA fire
    b.extractLsb' 0 4 = fire ∧ b.getLsbD 4 = zoneA ∧ b.getLsbD 5 = zoneB ∧ b.getLsbD 6 = lock ∧
    b.getLsbD 7 = top := by
  unfold fireByte
  grind

/-- The flag appended last is bit 0. -/
theorem getLsbD_append_ofBool_zero {n : Nat} (x : BitVec n) (b : Bool) : (x ++ BitVec.ofBool b).getLsbD 0 = b := by
  rw [BitVec.getLsbD_append]
  simp

/-- The bits before the flag appended last stand one place higher. -/
theorem getLsbD_append_ofBool_succ {n : Nat} (x : BitVec n) (b : Bool) (i : Nat) :
    (x ++ BitVec.ofBool b).getLsbD (i + 1) = x.getLsbD i := by
  simp [BitVec.getLsbD_append]

theorem statusByte1_fields (b : StatusBody) :
    let x := statusByte1 b
    x.getLsbD 0 = b.loopOpen ∧ x.getLsbD 1 = b.loopShort ∧ x.getLsbD 2 = b.battery ∧ x.getLsbD 3 = b.stall ∧
    x.getLsbD 4 = b.sensorFault ∧ x.getLsbD 5 = b.sealedFlag ∧ x.getLsbD 6 = b.neighbourSeal ∧
    x.getLsbD 7 = b.filtered.isSome := by
  simp only [statusByte1, getLsbD_append_ofBool_zero, getLsbD_append_ofBool_succ]
  simp

theorem statusByte2_fields (b : StatusBody) :
    let x := statusByte2 b
    x.extractLsb' 0 4 = b.occupancy ∧ x.extractLsb' 4 2 = b.excursion.bits ∧ x.extractLsb' 6 2 = 0 := by
  unfold statusByte2
  grind

theorem getStatus_putStatus (b : StatusBody) : getStatus (putStatus b) = some b := by
  obtain ⟨fire, zoneA, zoneB, lock, top⟩ := fireByte_fields b.role.bit b.lock b.zoneB b.zoneA b.fire
  obtain ⟨opened, short, battery, stall, fault, sealed, neighbour, present⟩ := statusByte1_fields b
  obtain ⟨occupancy, excursion, -⟩ := statusByte2_fields b
  have role : (if b.role.bit = true then Role.hatch else .bay) = b.role := by cases b.role <;> rfl
  have filtered : (if b.filtered.isSome = true then some (b.filtered.getD 0) else none) = b.filtered := by
    cases b.filtered <;> rfl
  simp only [putStatus, putWord, List.cons_append, List.nil_append, getStatus, fire, zoneA, zoneB, lock, top, opened,
    short, battery, stall, fault, sealed, neighbour, present, occupancy, excursion, append_halves, role,
    filtered, Excursion.ofBits_bits]

theorem getFireReport_putFireReport (b : FireReportBody) : getFireReport (putFireReport b) = some b := by
  obtain ⟨fire, zoneA, zoneB, lock, top⟩ := fireByte_fields b.manual b.lock b.zoneB b.zoneA b.fire
  simp only [putFireReport, getFireReport, fire, zoneA, zoneB, lock, top]

/-! ### Bodies (R183) -/

/-- A field at the end of a body reads back with nothing left. -/
theorem reads_back_last {α : Type} {put : α → List Byte} {get : List Byte → Option (α × List Byte)}
    (field : ∀ x r, get (put x ++ r) = some (x, r)) (x : α) : get (put x) = some (x, []) := by
  have h := field x []
  rwa [List.append_nil] at h

theorem getByte_single (x : Byte) (r : List Byte) : getByte ([x] ++ r) = some (x, r) := rfl

theorem getAlert_bytes (b : AlertBody) : getAlert (Body.custodyAlert b).bytes = some b := by
  simp only [Body.bytes, List.append_assoc, getAlert, getByte_single, Option.bind_some, getOpt_putOpt getByte_single,
    getOpt_putOpt getCart_putCart, getOpt_putOpt getTid_putTid, reads_back_last (getOpt_putOpt getByte_single),
    Option.map_some]

theorem getHandover_bytes (b : HandoverBody) : getHandover (Body.handover b).bytes = some b := by
  simp only [Body.bytes, List.append_assoc, List.cons_append, List.nil_append, getHandover, getWord_putWord, getByte,
    Option.bind_some, reads_back_last (getOpt_putOpt getByte_single), Option.map_some]

theorem getClearSel_bytes {sel : ClearSel} (h : (Body.inspectClear sel).carried) :
    getClearSel (Body.inspectClear sel).bytes = some sel := by
  cases sel with
  | slot n => rfl
  | all => rfl
  | other x =>
    obtain ⟨zero, one⟩ := h
    exact (if_neg zero).trans (if_neg one)

theorem getQuerySel_bytes {sel : QuerySel} (h : (Body.query sel).carried) :
    getQuerySel (Body.query sel).bytes = some sel := by
  cases sel with
  | slot n => rfl
  | cart c =>
    have carried : getQuerySel (Body.query (.cart c)).bytes = (getCart (putCart c)).map fun n => .cart n.1 := rfl
    rw [carried, reads_back_last getCart_putCart, Option.map_some]
  | transfer t => rfl
  | other x =>
    obtain ⟨zero, one, two⟩ := h
    exact (if_neg zero).trans ((if_neg one).trans (if_neg two))

theorem getReply_bytes {b : ReplyBody} (h : (Body.reply b).carried) : getReply (Body.reply b).bytes = some b := by
  obtain ⟨kind, seq, outcome, detail⟩ := b
  cases detail with
  | none => rfl
  | some d =>
    cases d with
    | raw bytes =>
      cases bytes with
      | nil => exact absurd h.1 (by decide)
      | cons x r => rfl
    | _ => exact h.elim

/-- The body of a kind reads back from the bytes it was coded to. -/
theorem Body.ofBytes_bytes {b : Body} (h : b.carried) : Body.ofBytes b.kind b.bytes = some b := by
  have cart := reads_back_last getCart_putCart
  have slot := reads_back_last (getOpt_putOpt getByte_single)
  have job := reads_back_last (getOpt_putOpt getWord_putWord)
  cases b with
  | status b => exact congrArg (Option.map Body.status) (getStatus_putStatus b)
  | fireReport b => exact congrArg (Option.map Body.fireReport) (getFireReport_putFireReport b)
  | custodyAlert b => exact congrArg (Option.map Body.custodyAlert) (getAlert_bytes b)
  | handover b => exact congrArg (Option.map Body.handover) (getHandover_bytes b)
  | inspectClear sel => exact congrArg (Option.map Body.inspectClear) (getClearSel_bytes h)
  | query sel => exact congrArg (Option.map Body.query) (getQuerySel_bytes h)
  | reply b => exact congrArg (Option.map Body.reply) (getReply_bytes h)
  | discharge | arrive | withdraw | refuse | holdSet | audit | restore | occupancyClear | restart => rfl
  | offer | accept | claim | close | checkout | checkin | cancel =>
    simp [Body.ofBytes, Body.kind, Body.bytes, getTid_putTid, getCart_putCart, getWord_putWord, getByte, cart, slot,
      job]

/-! ### Frames (R174, R175) -/

@[simp] theorem length_putWord (w : BitVec 16) : (putWord w).length = 2 := rfl
@[simp] theorem length_putCart (c : Cart) : (putCart c).length = 5 := rfl
@[simp] theorem length_putTid (t : Tid) : (putTid t).length = 2 := rfl

theorem length_putOpt_le {α : Type} {put : α → List Byte} {n : Nat} (field : ∀ x, (put x).length = n)
    (o : Option α) : (putOpt put o).length ≤ n + 1 := by
  cases o with
  | none => simp [putOpt]
  | some x => simp [putOpt, field]

/-- A body that a frame can carry has at most 40 bytes. -/
theorem Body.length_bytes_le {b : Body} (h : b.carried) : b.bytes.length ≤ 40 := by
  have slot := length_putOpt_le (n := 1) (fun x : Byte => (rfl : [x].length = 1))
  have cart := length_putOpt_le length_putCart
  have tid := length_putOpt_le length_putTid
  have job := length_putOpt_le length_putWord
  cases b with
  | custodyAlert b =>
    have := slot b.slot
    have := cart b.cart
    have := cart b.cart2
    have := tid b.tid
    have := slot b.reason
    simp only [Body.bytes, List.length_append, List.length_singleton]
    omega
  | accept t s =>
    have := slot s
    simp only [Body.bytes, List.length_append, length_putTid]
    omega
  | close t c j =>
    have := job j
    simp only [Body.bytes, List.length_append, length_putTid, length_putCart]
    omega
  | handover b =>
    have := slot b.reason
    simp only [Body.bytes, List.length_append, length_putWord, List.length_cons, List.length_nil]
    omega
  | reply b =>
    obtain ⟨kind, seq, outcome, detail⟩ := b
    cases detail with
    | none => simp [Body.bytes, putOpt]
    | some d =>
      cases d with
      | raw bytes =>
        have short : bytes.length ≤ 36 := h.2
        simp only [Body.bytes, putOpt, Detail.bytes, List.length_append, List.length_cons, List.length_nil]
        omega
      | _ => exact h.elim
  | inspectClear sel => cases sel <;> simp [Body.bytes]
  | query sel => cases sel <;> simp [Body.bytes]
  | _ => simp [Body.bytes, putStatus, putFireReport]

section
variable {d a k q len hi lo : Byte} {body : List Byte}

/-- A frame cut into its bytes, where its length is one of R174. -/
theorem parseFrame_pieces (short : body.length ≤ 40) :
    parseFrame ([d, a, k, q, len] ++ body ++ [hi, lo]) =
      if len.toNat = body.length ∧ hi ++ lo = lineCheck ([d, a, k, q, len] ++ body) then
        (Body.ofBytes k body).map fun b => { dest := d, src := a, seq := q, body := b }
      else none := by
  have size : ([d, a, k, q, len] ++ body ++ [hi, lo]).length = body.length + 7 := by
    simp only [List.length_append, List.length_cons, List.length_nil]
    omega
  have stated : (body ++ [hi, lo]).length - 2 = body.length := by simp
  unfold parseFrame
  rw [if_neg (by omega)]
  simp only [List.cons_append, List.nil_append, stated, List.take_left, List.drop_left, Ne, ite_not, putWord_eq_iff,
    ite_and]

end

/-- A message that a frame can carry reads back from its frame. -/
theorem parseFrame_frameOf {m : RxMsg} (h : m.body.carried) : parseFrame (frameOf m) = some m := by
  have short := Body.length_bytes_le h
  have stated : (BitVec.ofNat 8 m.body.bytes.length).toNat = m.body.bytes.length := by
    rw [BitVec.toNat_ofNat]
    omega
  unfold frameOf
  dsimp only
  rw [putWord, parseFrame_pieces short, if_pos ⟨stated, append_halves _⟩, Body.ofBytes_bytes h]
  rfl

/-- Settles O53: a carried body is short enough for its frame and reads back field by field; the bytes of a STATUS
hold its fields where R182 puts them. -/
theorem framesReadBack : Obligations.FramesReadBack := by
  refine ⟨fun m => parseFrame_frameOf, fun b => ?_⟩
  obtain ⟨fire, zoneA, zoneB, lock, top⟩ := fireByte_fields b.role.bit b.lock b.zoneB b.zoneA b.fire
  obtain ⟨opened, short, battery, stall, fault, sealed, neighbour, present⟩ := statusByte1_fields b
  obtain ⟨occupancy, excursion, spare⟩ := statusByte2_fields b
  have role : b.role.bit = true ↔ b.role = .hatch := by cases b.role <;> decide
  refine ⟨_, _, _, _, _, _, _, rfl, fire, zoneA, zoneB, lock, (Bool.eq_iff_iff.mp top).trans role, opened, short,
    battery, stall, fault, sealed, neighbour, present, occupancy, ?_, spare, halves_toNat _, halves_toNat _⟩
  rw [excursion]
  cases b.excursion <;> rfl

end Sys2Proof
end

section
/-! SUPPORT. A received frame (R174, R176, R177): the bodies too short for their kind, the tests of R174, the rows of
the receive filter, and the command a delivered message is. -/

namespace Sys2Proof

/-! ### Bodies too short for their kind (R174) -/

/-- Reading a field takes at least `n` bytes, so that it fails where fewer stand. -/
def Takes {α : Type} (n : Nat) (get : List Byte → Option (α × List Byte)) : Prop :=
  ∀ bytes p, get bytes = some p → p.2.length + n ≤ bytes.length

theorem getByte_takes : Takes 1 getByte := by
  rintro (_ | ⟨x, r⟩) p h
  · cases h
  · cases h
    rfl

theorem getWord_takes : Takes 2 getWord := by
  intro bytes p h
  unfold getWord at h
  split at h
  · cases h
    rfl
  · cases h

theorem getCart_takes : Takes 5 getCart := by
  intro bytes p h
  unfold getCart at h
  split at h
  · cases h
    rfl
  · cases h

theorem getTid_takes : Takes 2 getTid := by
  intro bytes p h
  unfold getTid at h
  split at h
  · cases h
    rfl
  · cases h

/-- An absent field is its presence byte alone. -/
theorem getOpt_takes {α : Type} {n : Nat} {get : List Byte → Option (α × List Byte)} (field : Takes n get) :
    Takes 1 (getOpt get) := by
  rintro (_ | ⟨x, r⟩) p h
  · cases h
  · rw [getOpt] at h
    split at h
    · cases h
      rfl
    · obtain ⟨q, read, rfl⟩ := Option.map_eq_some_iff.mp h
      have := field r q read
      simp only [List.length_cons]
      omega

section
variable {α β : Type} {n m : Nat} {get : List Byte → Option (α × List Byte)} {bytes : List Byte}

theorem Takes.read_none (field : Takes n get) (short : bytes.length < n) : get bytes = none := by
  cases read : get bytes with
  | none => rfl
  | some p => exact absurd (field bytes p read) (by omega)

theorem Takes.map_none {f : α × List Byte → β} (field : Takes n get) (short : bytes.length < n) :
    (get bytes).map f = none :=
  Option.map_eq_none_iff.mpr (field.read_none short)

/-- Where the bytes are too few for a field and what follows it, one or the other fails. -/
theorem Takes.bind_none {f : α × List Byte → Option β} (field : Takes n get) (short : bytes.length < m + n)
    (rest : ∀ p : α × List Byte, p.2.length < m → f p = none) : (get bytes).bind f = none := by
  cases read : get bytes with
  | none => rfl
  | some p => exact rest p (by have := field bytes p read; omega)

end

section
variable {bytes : List Byte}

theorem getStatus_short (short : bytes.length < 9) : getStatus bytes = none := by
  unfold getStatus
  split
  · simp only [List.length_cons] at short
    omega
  · rfl

theorem getAlert_short (short : bytes.length < 6) : getAlert bytes = none :=
  getByte_takes.bind_none (m := 5) short fun _ h =>
  (getOpt_takes getByte_takes).bind_none (m := 4) h fun _ h =>
  (getOpt_takes getCart_takes).bind_none (m := 3) h fun _ h =>
  (getOpt_takes getCart_takes).bind_none (m := 2) h fun _ h =>
  (getOpt_takes getTid_takes).bind_none (m := 1) h fun _ h =>
  (getOpt_takes getByte_takes).map_none h

theorem getHandover_short (short : bytes.length < 7) : getHandover bytes = none :=
  getWord_takes.bind_none (m := 5) short fun _ h =>
  getByte_takes.bind_none (m := 4) h fun _ h =>
  getByte_takes.bind_none (m := 3) h fun _ h =>
  getByte_takes.bind_none (m := 2) h fun _ h =>
  getByte_takes.bind_none (m := 1) h fun _ h =>
  (getOpt_takes getByte_takes).map_none h

theorem getReply_short (short : bytes.length < 4) : getReply bytes = none := by
  unfold getReply
  split
  · simp only [List.length_cons] at short
    omega
  · rfl

/-- A REPLY that says a detail follows and holds no byte of it is too short. -/
theorem getReply_no_detail (k q o : Byte) {p : Byte} (present : p ≠ 0) : getReply [k, q, o, p] = none :=
  if_neg present

/-- The least length of a body by its kind, from kind 1 (R183). -/
def leastLengths : List Nat := [9, 1, 1, 6, 10, 3, 3, 2, 5, 8, 2, 7, 8, 8, 5, 4, 1, 2, 0, 0, 1, 0, 4]

/-- A body shorter than the least of its kind does not read. -/
theorem Body.ofBytes_short {k : Byte} {n : Nat} (least : leastLengths[k.toNat - 1]? = some n)
    (short : bytes.length < n) : Body.ofBytes k bytes = none := by
  have at_kind {i m : Nat} (kind : k.toNat = i) (here : leastLengths[i - 1]? = some m) : bytes.length < m := by
    rw [kind, here] at least
    cases least
    exact short
  have empty (h : bytes.length < 1) : bytes = [] := List.length_eq_zero_iff.mp (by omega)
  have impossible (h : bytes.length < 0) : False := absurd h (Nat.not_lt_zero _)
  unfold Body.ofBytes
  split
  · next kind => exact congrArg _ (getStatus_short (at_kind kind rfl))
  · next kind => rw [empty (at_kind kind rfl)]; rfl
  · next kind => exact getByte_takes.map_none (at_kind kind rfl)
  · next kind => exact congrArg _ (getAlert_short (at_kind kind rfl))
  · next kind =>
    exact getTid_takes.bind_none (m := 8) (at_kind kind rfl) fun _ h =>
      getCart_takes.bind_none (m := 3) h fun _ h =>
      getWord_takes.bind_none (m := 1) h fun _ h => getByte_takes.map_none h
  · next kind =>
    exact getTid_takes.bind_none (m := 1) (at_kind kind rfl) fun _ h => (getOpt_takes getByte_takes).map_none h
  · next kind => exact getTid_takes.bind_none (m := 1) (at_kind kind rfl) fun _ h => getByte_takes.map_none h
  · next kind => exact getTid_takes.map_none (at_kind kind rfl)
  · next kind => exact getCart_takes.map_none (at_kind kind rfl)
  · next kind =>
    exact getTid_takes.bind_none (m := 6) (at_kind kind rfl) fun _ h =>
      getCart_takes.bind_none (m := 1) h fun _ h => (getOpt_takes getWord_takes).map_none h
  · next kind => exact getTid_takes.map_none (at_kind kind rfl)
  · next kind => exact congrArg _ (getHandover_short (at_kind kind rfl))
  · next kind =>
    exact getCart_takes.bind_none (m := 3) (at_kind kind rfl) fun _ h =>
      getWord_takes.bind_none (m := 1) h fun _ h => getByte_takes.map_none h
  · next kind =>
    exact getWord_takes.bind_none (m := 6) (at_kind kind rfl) fun _ h =>
      getCart_takes.bind_none (m := 1) h fun _ h => getByte_takes.map_none h
  · next kind => exact getCart_takes.map_none (at_kind kind rfl)
  · next kind =>
    exact getByte_takes.bind_none (m := 3) (at_kind kind rfl) fun _ h =>
      getByte_takes.bind_none (m := 2) h fun _ h =>
      getByte_takes.bind_none (m := 1) h fun _ h => getByte_takes.map_none h
  · next kind => rw [empty (at_kind kind rfl)]; rfl
  · next kind => exact getByte_takes.bind_none (m := 1) (at_kind kind rfl) fun _ h => getByte_takes.map_none h
  · next kind => exact (impossible (at_kind kind rfl)).elim
  · next kind => exact (impossible (at_kind kind rfl)).elim
  · next kind => rw [empty (at_kind kind rfl)]; rfl
  · next kind => exact (impossible (at_kind kind rfl)).elim
  · next kind => exact congrArg _ (getReply_short (at_kind kind rfl))
  · rfl

theorem Body.ofBytes_no_kind {k : Byte} (h : k = 0 ∨ 23 < k.toNat) : Body.ofBytes k bytes = none := by
  unfold Body.ofBytes
  obtain rfl | above := h
  · rfl
  · split
    iterate 23 next => omega
    rfl

end

/-! ### The tests of R174 -/

theorem parseFrame_length {bytes : List Byte} (h : bytes.length < 7 ∨ 47 < bytes.length) : parseFrame bytes = none :=
  if_pos h

/-- A frame cut into its bytes is discarded where its stated body length, its check or its body fails. -/
theorem parseFrame_fails {d a k q len hi lo : Byte} {body : List Byte}
    (h : len.toNat ≠ body.length ∨ hi ++ lo ≠ lineCheck ([d, a, k, q, len] ++ body)
      ∨ Body.ofBytes k body = none) :
    parseFrame ([d, a, k, q, len] ++ body ++ [hi, lo]) = none := by
  by_cases short : body.length ≤ 40
  · rw [parseFrame_pieces short]
    obtain stated | check | unread := h
    · exact if_neg fun ⟨same, _⟩ => stated same
    · exact if_neg fun ⟨_, same⟩ => check same
    · rw [unread, Option.map_none, ite_self]
  · refine parseFrame_length (.inr ?_)
    simp only [List.length_append, List.length_cons, List.length_nil]
    omega

/-! ### The receive filter (R176) -/

theorem Attempt.frame_eq_some_iff {a : Attempt} {bytes : List Byte} :
    a.frame = some bytes ↔ ∃ k, a = .sending k bytes := by
  cases a <;> simp [Attempt.frame]

section
variable {st : Station} {bytes : List Byte}

/-- Row 1 while the frame is sent. -/
theorem Station.receive_sent (sent : ∃ k, st.line.attempt = .sending k bytes) : st.receive bytes = st :=
  if_pos (Attempt.frame_eq_some_iff.mpr sent)

/-- Row 1 after the frame has been sent. -/
theorem Station.receive_echo (unsent : ¬∃ k, st.line.attempt = .sending k bytes) (echo : st.line.echo = some bytes) :
    st.receive bytes = { st with line := { st.line with echo := none } } :=
  (if_neg (mt Attempt.frame_eq_some_iff.mp unsent)).trans (if_pos echo)

section
variable (foreign : ¬((∃ k, st.line.attempt = .sending k bytes) ∨ st.line.echo = some bytes))
include foreign

theorem Station.receive_unread (unread : parseFrame bytes = none) : st.receive bytes = st := by
  unfold Station.receive
  rw [if_neg fun sent => foreign (.inl (Attempt.frame_eq_some_iff.mp sent)), if_neg fun echo => foreign (.inr echo),
    unread]

theorem Station.receive_read {m : RxMsg} (read : parseFrame bytes = some m) : st.receive bytes = st.filter m := by
  unfold Station.receive
  rw [if_neg fun sent => foreign (.inl (Attempt.frame_eq_some_iff.mp sent)), if_neg fun echo => foreign (.inr echo),
    read]

end

end

section
variable {st : Station} {m : RxMsg}

/-- Row 2. -/
theorem Station.filter_own (own : m.src = st.loader.own) : st.filter m = st.enterClash := if_pos own

/-- Row 3. -/
theorem Station.filter_elsewhere (other : m.src ≠ st.loader.own) (dest : m.dest ≠ st.loader.own)
    (all : m.dest ≠ 255) : st.filter m = st :=
  (if_neg other).trans (if_pos ⟨dest, all⟩)

/-- Rows 4 to 7: a message to this station is heard, and delivered unless it repeats the last or is of the wrong
class. -/
theorem Station.filter_addressed (other : m.src ≠ st.loader.own) (dest : m.dest = st.loader.own ∨ m.dest = 255) :
    st.filter m = if (st.isDuplicate m || m.wrongClass) = true then st.hear m else (st.hear m).deliver m :=
  (if_neg other).trans (if_neg fun ⟨elsewhere, all⟩ => dest.elim elsewhere all)

/-- Row 4. -/
theorem Station.isDuplicate_iff : st.isDuplicate m = true ↔
    ∃ at', st.line.lastHeard[m.src.toNat]? = some (some (m.seq, at')) ∧ st.now - at' < 125000 := by
  unfold Station.isDuplicate
  rw [List.getD_eq_getElem?_getD]
  cases st.line.lastHeard[m.src.toNat]? with
  | none => simp
  | some entry =>
    cases entry with
    | none => simp
    | some entry =>
      obtain ⟨seq, time⟩ := entry
      simp [ticksOfSec]

/-- Row 5. -/
theorem RxMsg.wrongClass_station (station : m.src.toNat < 24) : m.wrongClass = m.body.isRequest := by
  simp [RxMsg.wrongClass, isStation, station]

/-- Rows 6 and 7. -/
theorem RxMsg.wrongClass_console_iff (low : 24 ≤ m.src.toNat) (high : m.src.toNat ≤ 31) :
    m.wrongClass = true ↔ m.body.isRequest = false ∨ (m.dest = 255 ∧ m.body.isCheckout = false) := by
  have station : isStation m.src = false := by simp [isStation, low]
  have console : isConsole m.src = true := by simp [isConsole, low, high]
  unfold RxMsg.wrongClass
  rw [station, console, if_neg Bool.false_ne_true, if_pos rfl]
  simp only [Bool.or_eq_true, Bool.and_eq_true, Bool.not_eq_true', decide_eq_true_iff]
  rfl

/-- In CLASH already, a clash has no further effect (R177). -/
theorem Station.enterClash_again (clash : st.loader.state = .clash) : st.enterClash = st := if_pos clash

theorem Station.enterClash_first (h : st.loader.state ≠ .clash) :
    st.enterClash = ({ st with
      loader := { st.loader with state := .clash, listenTimer := none, restartWait := none }
      line := { st.line with
        queue := [], pend := [], attempt := .none, permit := false, beacon := none, faultTimer := none }
      } : Station).pullsChanged := if_neg h

end

/-! ### The command of a delivered message (section 11.5) -/

/-- A delivered message does at the block that owns it what its command does, from the class of source its kind has. -/
theorem exec_command {m : RxMsg} {i : Instr} (s : Machine.State) (command : m.command = some i) :
    Machine.exec i s = .next (s.put ((if m.body.isRequest = true then Station.fromConsole else Station.fromPeer)
      m.src (·.deliver m) s.station)) := by
  obtain ⟨dest, src, seq, body⟩ := m
  cases body with
  | inspectClear sel => cases sel <;> cases command <;> rfl
  | query sel => cases sel <;> cases command <;> rfl
  | reply => cases command
  | _ => cases command; rfl

/-- A REPLY alone is no command; it refreshes its sender's record (R168). -/
theorem Station.deliver_no_command {m : RxMsg} (none : m.command = none) (st : Station) :
    st.deliver m = st.modifyPeer m.src Peer.refresh := by
  obtain ⟨dest, src, seq, body⟩ := m
  cases body with
  | inspectClear sel => cases sel <;> cases none
  | query sel => cases sel <;> cases none
  | reply => rfl
  | _ => cases none

theorem exec_frameReceive_of_running {s : Machine.State} (running : s.station.running = true) (bytes : List Byte) :
    Machine.exec (.frameReceive bytes) s = .next (s.put (s.station.receive bytes)) :=
  s.next_put (Station.onlyIf_of_true _ running)

/-- Settles O52: the own readback, the tests of R174, then the rows of R176 in order. -/
theorem frameFiltered : Obligations.FrameFiltered := by
  intro s bytes running st run own readback least
  have receives {x : Station} (h : st.receive bytes = x) : run = .next (s.put x) :=
    (exec_frameReceive_of_running running bytes).trans (s.next_put h)
  refine ⟨fun m sent => receives (Station.receive_sent ⟨m, sent⟩),
    fun unsent echo => receives (Station.receive_echo (fun ⟨m, sent⟩ => unsent m sent) echo),
    fun foreign unread => receives (Station.receive_unread foreign unread), parseFrame_length,
    fun d a k q len hi lo body cut fails => ?_, fun m read foreign => ?_⟩
  · rw [cut]
    obtain stated | check | zero | above | ⟨n, here, short⟩ | ⟨rfl, x, y, z, p, rfl, present⟩ := fails
    · exact parseFrame_fails (.inl stated)
    · exact parseFrame_fails (.inr (.inl check))
    · exact parseFrame_fails (.inr (.inr (Body.ofBytes_no_kind (.inl zero))))
    · exact parseFrame_fails (.inr (.inr (Body.ofBytes_no_kind (.inr above))))
    · exact parseFrame_fails (.inr (.inr (Body.ofBytes_short here short)))
    · exact parseFrame_fails (.inr (.inr (congrArg (Option.map Body.reply) (getReply_no_detail x y z present))))
  · have filters {x : Station} (h : st.filter m = x) : run = .next (s.put x) :=
      receives ((Station.receive_read foreign read).trans h)
    refine ⟨fun same => ⟨fun clash => ?_, fun first => ?_⟩,
      fun other dest all => filters (Station.filter_elsewhere other dest all), fun other dest => ?_⟩
    · exact filters ((Station.filter_own same).trans (Station.enterClash_again clash))
    · exact filters ((Station.filter_own same).trans (Station.enterClash_first first))
    · intro heard again
      have stops (h : (st.isDuplicate m || m.wrongClass) = true) : run = .next (s.put heard) :=
        filters ((Station.filter_addressed other dest).trans (if_pos h))
      refine ⟨fun repeated => stops ?_, fun station request => stops ?_, fun low high plain => stops ?_,
        fun low high all plain => stops ?_, fun fresh right => ?_⟩
      · rw [Station.isDuplicate_iff.mpr repeated, Bool.true_or]
      · exact Bool.or_eq_true_iff.mpr (.inr ((RxMsg.wrongClass_station station).trans request))
      · exact Bool.or_eq_true_iff.mpr (.inr ((RxMsg.wrongClass_console_iff low high).mpr (.inl plain)))
      · exact Bool.or_eq_true_iff.mpr (.inr ((RxMsg.wrongClass_console_iff low high).mpr (.inr ⟨all, plain⟩)))
      · have passes : (st.isDuplicate m || m.wrongClass) = false := by
          refine Bool.or_eq_false_iff.mpr ⟨Bool.eq_false_iff.mpr (mt Station.isDuplicate_iff.mp fresh), ?_⟩
          obtain ⟨station, plain⟩ | ⟨low, high, request, named⟩ := right
          · exact (RxMsg.wrongClass_station station).trans plain
          · refine Bool.eq_false_iff.mpr (mt (RxMsg.wrongClass_console_iff low high).mp ?_)
            rintro (plain | ⟨all, plain⟩)
            · exact Bool.false_ne_true (plain.symm.trans request)
            · exact named.elim (· all) fun checkout => Bool.false_ne_true (plain.symm.trans checkout)
        have delivers : run = .next (s.put (heard.deliver m)) :=
          filters ((Station.filter_addressed other dest).trans (if_neg (Bool.eq_false_iff.mp passes)))
        refine ⟨fun i command => delivers.trans ?_, fun none => delivers.trans ?_⟩
        · rw [exec_command _ command]
          obtain ⟨station, plain⟩ | ⟨low, high, request, -⟩ := right
          · rw [plain, if_neg Bool.false_ne_true]
            exact s.next_put (Station.fromPeer_heard (st := heard) (·.deliver m) ⟨running, other, station⟩).symm
          · rw [request, if_pos rfl]
            exact s.next_put
              (Station.fromConsole_heard (st := heard) (·.deliver m) ⟨running, other, low, high⟩).symm
        · rw [Station.deliver_no_command none]

end Sys2Proof
end

section
/-! SUPPORT. The attempts of the line interface (R180, R181): the message an attempt is made of, and what its
commands do to the line. -/

namespace Sys2Proof

/-! ### The message chosen (R180 step 1) -/

section
variable {l : Line} {order : TxOrder} {q : QMsg} {g : Group}

/-- The oldest queued message of a group is the first of that group. -/
theorem Line.oldest_eq_some_iff : l.oldest g = some q ↔
    q.body.group = g ∧ ∃ front rest, l.queue = front ++ q :: rest ∧ ∀ x ∈ front, x.body.group ≠ g := by
  simp [Line.oldest, List.find?_eq_some_iff_append]

theorem Line.oldest_eq_none_iff : l.oldest g = none ↔ ∀ x ∈ l.queue, x.body.group ≠ g := by
  simp [Line.oldest]

/-- The group that TX_ORDER puts first of CUSTODY and ROUTINE, then the other. -/
def TxOrder.groups : TxOrder → Group × Group
  | .custodyFirst => (.custody, .routine)
  | .routineFirst => (.routine, .custody)

theorem Line.choose_eq (l : Line) (order : TxOrder) :
    l.choose order = (l.oldest .fire).or ((l.oldest order.groups.1).or (l.oldest order.groups.2)) := by
  unfold Line.choose
  cases l.oldest .fire <;> cases order <;> rfl

/-- The three groups are all there are, by either order. -/
theorem TxOrder.groups_cover (order : TxOrder) (g : Group) :
    g = .fire ∨ g = order.groups.1 ∨ g = order.groups.2 := by
  cases order <;> cases g <;> decide

theorem Line.choose_eq_none_iff : l.choose order = none ↔ l.queue = [] := by
  simp only [Line.choose_eq, Option.or_eq_none_iff, Line.oldest_eq_none_iff]
  constructor
  · rintro ⟨fire, first, second⟩
    refine List.eq_nil_iff_forall_not_mem.mpr fun x hx => ?_
    obtain h | h | h := order.groups_cover x.body.group
    · exact fire x hx h
    · exact first x hx h
    · exact second x hx h
  · intro empty
    simp [empty]

/-- The message chosen is the oldest of its group; with a FIRE message queued it is one of these, and else one of the
group that TX_ORDER puts first, where one is queued. -/
theorem Line.choose_some (chosen : l.choose order = some q) :
    l.oldest q.body.group = some q ∧
    ((∃ x ∈ l.queue, x.body.group = .fire) → q.body.group = .fire) ∧
    ((∀ x ∈ l.queue, x.body.group ≠ .fire) →
      (∃ x ∈ l.queue, x.body.group = order.groups.1) → q.body.group = order.groups.1) := by
  have group {g : Group} (h : l.oldest g = some q) : q.body.group = g := (Line.oldest_eq_some_iff.mp h).1
  rw [Line.choose_eq, Option.or_eq_some_iff, Option.or_eq_some_iff] at chosen
  obtain fire | ⟨no_fire, first | ⟨no_first, second⟩⟩ := chosen
  · have here := group fire
    refine ⟨here ▸ fire, fun _ => here, fun none_queued => ?_⟩
    exact absurd (Line.oldest_eq_none_iff.mpr none_queued) (by simp [fire])
  · have here := group first
    refine ⟨here ▸ first, fun ⟨x, hx, h⟩ => ?_, fun _ _ => here⟩
    exact absurd h (Line.oldest_eq_none_iff.mp no_fire x hx)
  · have here := group second
    refine ⟨here ▸ second, fun ⟨x, hx, h⟩ => ?_, fun _ ⟨x, hx, h⟩ => ?_⟩
    · exact absurd h (Line.oldest_eq_none_iff.mp no_fire x hx)
    · exact absurd h (Line.oldest_eq_none_iff.mp no_first x hx)

end

/-! ### What becomes of an attempt (R180, R181) -/

section
variable {l : Line} {m : Nat} {n : Ticks} {bytes : List Byte}

theorem Line.heard_waiting (h : l.attempt = .waiting m n) : l.heard = { l with idle := false, attempt := .none } := by
  unfold Line.heard
  rw [h]

theorem Line.heard_not_waiting (h : ∀ m n, l.attempt ≠ .waiting m n) : l.heard = { l with idle := false } := by
  unfold Line.heard
  split
  · next m n waits => exact absurd waits (h m n)
  · rfl

theorem Line.startSending_waiting {q : QMsg} (own : Addr) (h : l.attempt = .waiting m n)
    (queued : l.queue.find? (fun q => decide (q.made = m)) = some q) :
    l.startSending own = { l with attempt := .sending m (q.frame own), idle := false, echo := none } := by
  unfold Line.startSending
  rw [h]
  dsimp only
  rw [queued]

theorem Line.startSending_not_waiting (own : Addr) (h : ∀ m n, l.attempt ≠ .waiting m n) :
    l.startSending own = l := by
  unfold Line.startSending
  split
  · next m n waits => exact absurd waits (h m n)
  · rfl
  · rfl

theorem Line.readbackFails_sending (h : l.attempt = .sending m bytes) : l.readbackFails = l.fail := by
  unfold Line.readbackFails
  rw [h]

theorem Line.readbackFails_not_sending (h : ∀ m bytes, l.attempt ≠ .sending m bytes) : l.readbackFails = l := by
  unfold Line.readbackFails
  split
  · next m bytes sends => exact absurd sends (h m bytes)
  · rfl
  · rfl

/-- A failure that is not the sixteenth in NORMAL counts, and makes a backoff due. -/
theorem Line.fail_counts (h : l.state = .lineFault ∨ min 16 (l.failures + 1) ≠ 16) :
    l.fail = { l with attempt := .none, failures := min 16 (l.failures + 1), backoff := true } := by
  refine if_neg fun ⟨sixteenth, normal⟩ => ?_
  obtain fault | fewer := h
  · exact absurd (fault.symm.trans normal) (by decide)
  · exact fewer sixteenth

theorem Line.fail_sixteenth (normal : l.state = .normal) (sixteenth : min 16 (l.failures + 1) = 16) :
    l.fail = { l with
      attempt := .none, failures := 16, backoff := true, state := .lineFault, faultTimer := some (ticksOfSec 1) } := by
  refine (if_pos ⟨sixteenth, normal⟩).trans ?_
  rw [sixteenth]

/-- A line without a message to choose, or in LINE-FAULT without a permit, selects none. -/
theorem Line.select_idle {own : Addr} {order : TxOrder}
    (h : l.attempt ≠ .none ∨ l.choose order = none ∨ (l.state = .lineFault ∧ l.permit = false)) :
    l.select own order = l := by
  by_cases may : l.MaySelect
  · obtain ⟨idle, free, normal⟩ := may
    obtain busy | empty | ⟨fault, denied⟩ := h
    · exact absurd free busy
    · exact Line.select_none ⟨idle, free, normal⟩ empty
    · simp [fault, denied] at normal
  · exact Line.select_of_not may

theorem Line.faultExpired_permits (free : l.attempt = .none) :
    l.faultExpired = { l with faultTimer := some (ticksOfSec 1), permit := !l.queue.isEmpty } := by
  simp [Line.faultExpired, free]

theorem Line.faultExpired_denies (h : l.attempt ≠ .none ∨ l.queue = []) :
    l.faultExpired = { l with faultTimer := some (ticksOfSec 1), permit := false } := by
  unfold Line.faultExpired
  obtain busy | empty := h
  · simp [busy]
  · simp [empty]

theorem Line.succeed_sending (h : l.attempt = .sending m bytes) : l.succeed m = { l with
    queue := l.queue.filter fun q => decide (q.made ≠ m)
    attempt := .none, failures := 0, backoff := false, permit := false, state := .normal
    faultTimer := if l.state = .lineFault then none else l.faultTimer
    echo := some bytes } := by
  unfold Line.succeed Line.remove
  rw [Line.stopAttempt_eq, h]
  rfl

end

section
variable {st : Station}

theorem Station.transmitted_sending {m : Nat} {bytes : List Byte} (h : st.line.attempt = .sending m bytes)
    (other : st.loader.restartWait.map RestartWait.made ≠ some m) :
    st.transmitted = (st.onLine (·.succeed m)).offerPlaces := by
  unfold Station.transmitted
  rw [h]
  exact if_neg other

theorem Station.transmitted_not_sending (h : ∀ m bytes, st.line.attempt ≠ .sending m bytes) :
    st.transmitted = st := by
  unfold Station.transmitted
  split
  · next m bytes sends => exact absurd sends (h m bytes)
  · rfl
  · rfl

theorem Station.lineBecomesIdle_eq (joined : st.joined = true) :
    st.lineBecomesIdle = { st with
      line := { st.line with idle := true }.select st.loader.own st.cfg.txOrder } :=
  Station.select_of_joined (st := st.onLine fun l => { l with idle := true }) joined

theorem Station.lineFaultExpired_eq (joined : st.joined = true) (fault : st.line.state = .lineFault)
    (runs : st.line.faultTimer.isSome) :
    st.lineFaultExpired = { st with line := st.line.faultExpired.select st.loader.own st.cfg.txOrder } := by
  unfold Station.lineFaultExpired
  rw [Station.onlyIf_of_true _ (by simp [fault, runs])]
  exact Station.select_of_joined (st := st.onLine Line.faultExpired) joined

theorem Station.lineFaultExpired_idle (h : st.line.state = .normal ∨ st.line.faultTimer = none) :
    st.lineFaultExpired = st := by
  refine Station.onlyIf_of_false _ ?_
  obtain normal | stopped := h
  · simp [normal]
  · simp [stopped]

end

/-! ### The commands -/

section
variable {s : Machine.State} (joined : s.station.joined = true)
include joined

theorem exec_lineIdle_of_joined : Machine.exec .lineIdle s = .next (s.put { s.station with
    line := { s.station.line with idle := true }.select s.station.loader.own s.station.cfg.txOrder }) :=
  s.next_put ((Station.onlyIf_of_true _ (Station.live_of_running (Station.running_of_joined joined))).trans
    (Station.lineBecomesIdle_eq joined))

theorem exec_characterDuringWait_of_joined : Machine.exec .characterDuringWait s
    = .next (s.put { s.station with line := s.station.line.heard }) :=
  s.next_put (Station.onlyIf_of_true _ (Station.live_of_running (Station.running_of_joined joined)))

theorem exec_accessDelayExpiry_of_joined : Machine.exec .accessDelayExpiry s
    = .next (s.put { s.station with line := s.station.line.startSending s.station.loader.own }) :=
  s.next_put (Station.onlyIf_of_true _ joined)

theorem exec_readbackFailure_of_joined : Machine.exec .readbackFailure s
    = .next (s.put { s.station with line := s.station.line.readbackFails }) :=
  s.next_put (Station.onlyIf_of_true _ joined)

theorem exec_transmitSuccess_of_joined : Machine.exec .transmitSuccess s = .next (s.put s.station.transmitted) :=
  s.next_put (Station.onlyIf_of_true _ joined)

theorem exec_lineFaultExpiry_of_joined : Machine.exec .lineFaultExpiry s = .next (s.put s.station.lineFaultExpired) :=
  s.next_put (Station.onlyIf_of_true _ joined)

end

/-- Settles O51: the choice by groups, then each command by what becomes of the attempt. -/
theorem lineAttempts : Obligations.LineAttempts := by
  refine ⟨fun l order => Line.choose_eq_none_iff, fun l order q chosen => ?_, ?_⟩
  · obtain ⟨oldest, fire, other⟩ := Line.choose_some chosen
    obtain ⟨-, front, rest, queue, before⟩ := Line.oldest_eq_some_iff.mp oldest
    refine ⟨by simp [queue], fire, fun no_fire => ⟨?_, ?_⟩, front, rest, queue, before⟩
    · rintro rfl
      exact other no_fire
    · rintro rfl
      exact other no_fire
  · intro s joined st l put own base delay failures
    have delays (g : Group) : delay g = accessDelay st.loader.own g l.backoff := by cases g <;> rfl
    have put_of {a b : Line} (h : a = b) : put a = put b := congrArg put h
    have expires (fault : l.state = .lineFault) (runs : l.faultTimer.isSome) : Machine.exec .lineFaultExpiry s
        = put (l.faultExpired.select st.loader.own st.cfg.txOrder) :=
      (exec_lineFaultExpiry_of_joined joined).trans (s.next_put (Station.lineFaultExpired_eq joined fault runs))
    refine ⟨fun none_due => ?_, fun q free chosen may => ?_, fun m n waits => ⟨?_, fun q queued => ?_⟩,
      fun idle => ⟨?_, ?_⟩, fun m bytes sends => ⟨fun h => ?_, fun normal sixteenth => ?_, fun other => ?_⟩,
      fun idle => ⟨?_, ?_⟩, fun idle => ?_, fun fault runs busy free => ?_, fun fault runs none_due => ?_,
      fun q fault runs idle free chosen => ?_⟩
    · exact (exec_lineIdle_of_joined joined).trans (put_of (Line.select_idle (l := { l with idle := true }) none_due))
    · refine (exec_lineIdle_of_joined joined).trans (put_of ?_)
      rw [delays]
      exact Line.select_some (l := { l with idle := true }) ⟨rfl, free, may⟩ chosen
    · exact (exec_characterDuringWait_of_joined joined).trans (put_of (Line.heard_waiting waits))
    · exact (exec_accessDelayExpiry_of_joined joined).trans (put_of (Line.startSending_waiting _ waits queued))
    · exact (exec_characterDuringWait_of_joined joined).trans (put_of (Line.heard_not_waiting idle))
    · exact (exec_accessDelayExpiry_of_joined joined).trans (put_of (Line.startSending_not_waiting _ idle))
    · exact (exec_readbackFailure_of_joined joined).trans
        (put_of ((Line.readbackFails_sending sends).trans (Line.fail_counts h)))
    · exact (exec_readbackFailure_of_joined joined).trans
        (put_of ((Line.readbackFails_sending sends).trans (Line.fail_sixteenth normal sixteenth)))
    · refine (exec_transmitSuccess_of_joined joined).trans (s.next_put ?_)
      rw [Station.transmitted_sending sends other, Station.onLine, Line.succeed_sending sends]
    · exact (exec_readbackFailure_of_joined joined).trans (put_of (Line.readbackFails_not_sending idle))
    · exact (exec_transmitSuccess_of_joined joined).trans (s.next_put (Station.transmitted_not_sending idle))
    · exact (exec_lineFaultExpiry_of_joined joined).trans (s.next_put (Station.lineFaultExpired_idle idle))
    · refine (expires fault runs).trans (put_of ?_)
      rw [Line.faultExpired_permits free]
      exact Line.select_of_not fun ⟨idle, _⟩ => Bool.false_ne_true (busy.symm.trans idle)
    · refine (expires fault runs).trans (put_of ?_)
      rw [Line.faultExpired_denies none_due]
      exact Line.select_idle (.inr (.inr ⟨fault, rfl⟩))
    · refine (expires fault runs).trans (put_of ?_)
      have queued : (!l.queue.isEmpty) = true := by
        rw [Bool.not_eq_true', List.isEmpty_eq_false_iff, Ne, ← Line.choose_eq_none_iff (order := st.cfg.txOrder),
          chosen]
        exact Option.some_ne_none q
      rw [Line.faultExpired_permits free, queued, delays]
      exact Line.select_some (l := { l with faultTimer := some (ticksOfSec 1), permit := true })
        ⟨idle, free, .inr rfl⟩ chosen

end Sys2Proof
end
